-- ==== Sys2Proof/Word.lean ====
section
/-! DEFINITION. Word.lean: the widths the JP-24's link and control ports carry (R170). -/

namespace Sys2Proof

/-- One byte of a frame, a payload or a line of text (R158, R170). -/
abbrev Byte := BitVec 8

/-- A two-byte field (R170). -/
abbrev Word16 := BitVec 16

/-- A two-byte signed field's value, two's complement (R170). -/
def Word16.signed (w : Word16) : Int := w.toInt

end Sys2Proof
end

