-- ==== Sys2Proof/Syntax.lean ====
section
/-! DEFINITION. Syntax.lean: the commands and events of spec/opcode_table.json, one constructor a row. A host command
carries its sequence byte and its payload fields at the widths of R170, as the host sends them: ranges are the command's own
checks. An event carries what it names (a port, a head, a line, a load tag) and what arrives with it (bytes). -/

namespace Sys2Proof

/-- The four link rates the two strap inputs select (R166, R170). -/
inductive LinkRate where
  | baud115200 | baud230400 | baud460800 | baud921600
deriving DecidableEq, Repr

/-- A colour field: blue, then green, then red (R170). -/
structure Colour where
  blue : Byte
  green : Byte
  red : Byte
deriving DecidableEq, Repr

/-- The four bytes of one cue action in CUE_DEFINE: kind, cue line, value (R170). -/
structure ActionField where
  kind : Byte
  line : Byte
  value : Word16
deriving DecidableEq, Repr

/-- The settings of HEAD_APPEARANCE after its head number, in payload order (R132, R170). -/
structure AppearanceFields where
  mirror : Byte
  flip : Byte
  text0 : Colour
  text1 : Colour
  text2 : Colour
  text3 : Colour
  background : Colour
  marker : Byte
  markerColour : Colour
  arrows : Byte
deriving DecidableEq, Repr

/-- The rows of spec/opcode_table.json. -/
inductive Instr where
  -- commands of the host, each with its sequence byte
  | identify (seq : Byte)
  | status (seq : Byte)
  | restart (seq : Byte)
  | clearShow (seq : Byte)
  | unknownCommand (code seq : Byte) (rest : List Byte)
  | setColumns (seq columns : Byte)
  | setMotion (seq : Byte) (vmax a b delay : Word16) (priority : Byte) (k : Word16) (p : Byte)
  | setCurve (seq : Byte) (q : Vector Word16 9)
  | setPort (seq port enabled role : Byte) (timeout : Word16) (gain dead reverse : Byte) (step : Word16)
  | setFrameSource (seq source rate : Byte)
  | setReporting (seq interval : Byte)
  | loadOpen (seq tag : Byte) (editTag : Word16) (mode : Byte) (story n : Word16) (placeKind : Byte) (placeId : Word16)
      (force : Byte) (slug : List Byte)
  | loadLine (seq tag : Byte) (text : List Byte)
  | loadLast (seq tag : Byte) (text : List Byte)
  | loadCancel (seq tag : Byte)
  | storyDelete (seq : Byte) (editTag story : Word16) (force : Byte)
  | storyMove (seq : Byte) (editTag story : Word16) (placeKind : Byte) (placeId : Word16) (force : Byte)
  | storySkip (seq : Byte) (editTag story : Word16) (request force : Byte)
  | editCancel (seq : Byte) (editTag : Word16)
  | readStory (seq : Byte) (story : Word16)
  | readRundown (seq first : Byte)
  | scrollStop (seq : Byte)
  | scrollResume (seq : Byte)
  | scrollSpeed (seq : Byte) (speed : Word16)
  | jump (seq kind : Byte) (story line rows : Word16)
  | readPosition (seq : Byte)
  | cueDefine (seq cue : Byte) (actions : List ActionField)
  | cueRead (seq cue : Byte)
  | outputSet (seq mask operation duration : Byte)
  | headConfig (seq head : Byte) (width height : Word16) (scale leading : Byte) (margin : Word16) (readingRow rate : Byte)
  | headStart (seq head : Byte)
  | headStop (seq head : Byte)
  | headBlank (seq head : Byte)
  | headUnblank (seq head : Byte)
  | headAppearance (seq head : Byte) (fields : AppearanceFields)
  | headRead (seq head : Byte)
  -- events of the command link
  | linkFrame (bytes : List Byte)
  | byteGapTimeout
  | lineBreak
  | transmitDone
  -- events of the control ports
  | controllerReport (port : Fin 6) (bytes : List Byte)
  | portByteGapTimeout (port : Fin 6)
  | reportTimeout (port : Fin 6)
  | releaseTimerExpiry
  -- events of the other blocks
  | loadIdleTimeout (tag : Byte)
  | internalTimerExpiry
  | scrollFrame
  | frameStart (head : Fin 4)
  | syncLossExpiry (head : Fin 4)
  | renderComplete
  | pulseEnd (line : Fin 8)
  | reflowComplete
  -- resets, with the rate the straps select where a full reset samples them
  | powerUp (straps : LinkRate)
  | resetPinAssert
  | resetPinRelease (straps : LinkRate)
  | restartReset (straps : LinkRate)
deriving DecidableEq, Repr

end Sys2Proof
end

