-- ==== Sys2Proof/Decode.lean ====
section
/-! DEFINITION. Decode.lean: the payload layouts of the commands (R158, R161, R170), read and written, and the host's table
word. spec/opcode_table.json gives no row any bits, so no table word spells a command. -/

namespace Sys2Proof

/-- The low byte of a two-byte field, sent first (R170: little-endian). -/
def lowByte (w : Word16) : Byte := BitVec.ofNat 8 w.toNat

/-- The high byte of a two-byte field, sent second (R170). -/
def highByte (w : Word16) : Byte := BitVec.ofNat 8 (w.toNat / 256)

/-- The two-byte field whose bytes are `lo` and `hi`, as sent (R170). -/
def word16 (lo hi : Byte) : Word16 := BitVec.ofNat 16 (lo.toNat + 256 * hi.toNat)

/-- A two-byte field as it is sent (R170). -/
def bytes16 (w : Word16) : List Byte := [lowByte w, highByte w]

/-- A colour as it is sent: blue, green, red (R170). -/
def bytesColour (c : Colour) : List Byte := [c.blue, c.green, c.red]

/-- One cue action as it is sent (R170). -/
def bytesAction (a : ActionField) : List Byte := [a.kind, a.line, lowByte a.value, highByte a.value]

/-- The settings of HEAD_APPEARANCE as they are sent (R170). -/
def bytesAppearance (f : AppearanceFields) : List Byte :=
  [f.mirror, f.flip] ++ bytesColour f.text0 ++ bytesColour f.text1 ++ bytesColour f.text2 ++ bytesColour f.text3
    ++ bytesColour f.background ++ [f.marker] ++ bytesColour f.markerColour ++ [f.arrows]

/-- The payload of a host command (R158, R170): code, sequence byte, fields. An event has none. -/
def payloadOf : Instr → List Byte
  | .identify seq => [0x01, seq]
  | .status seq => [0x02, seq]
  | .restart seq => [0x03, seq]
  | .clearShow seq => [0x04, seq]
  | .unknownCommand code seq rest => code :: seq :: rest
  | .setColumns seq c => [0x08, seq, c]
  | .setMotion seq vmax a b delay priority k p =>
      [0x09, seq] ++ bytes16 vmax ++ bytes16 a ++ bytes16 b ++ bytes16 delay ++ [priority] ++ bytes16 k ++ [p]
  | .setCurve seq q =>
      [0x0A, seq] ++ bytes16 q[0] ++ bytes16 q[1] ++ bytes16 q[2] ++ bytes16 q[3] ++ bytes16 q[4] ++ bytes16 q[5]
        ++ bytes16 q[6] ++ bytes16 q[7] ++ bytes16 q[8]
  | .setPort seq port enabled role timeout gain dead reverse step =>
      [0x0B, seq, port, enabled, role] ++ bytes16 timeout ++ [gain, dead, reverse] ++ bytes16 step
  | .setFrameSource seq source rate => [0x0C, seq, source, rate]
  | .setReporting seq interval => [0x0D, seq, interval]
  | .loadOpen seq tag editTag mode story n placeKind placeId force slug =>
      [0x10, seq, tag] ++ bytes16 editTag ++ [mode] ++ bytes16 story ++ bytes16 n ++ [placeKind] ++ bytes16 placeId
        ++ [force, BitVec.ofNat 8 slug.length] ++ slug
  | .loadLine seq tag text => 0x11 :: seq :: tag :: text
  | .loadLast seq tag text => 0x12 :: seq :: tag :: text
  | .loadCancel seq tag => [0x13, seq, tag]
  | .storyDelete seq editTag story force => [0x14, seq] ++ bytes16 editTag ++ bytes16 story ++ [force]
  | .storyMove seq editTag story placeKind placeId force =>
      [0x15, seq] ++ bytes16 editTag ++ bytes16 story ++ [placeKind] ++ bytes16 placeId ++ [force]
  | .storySkip seq editTag story request force => [0x16, seq] ++ bytes16 editTag ++ bytes16 story ++ [request, force]
  | .editCancel seq editTag => [0x17, seq] ++ bytes16 editTag
  | .readStory seq story => [0x18, seq] ++ bytes16 story
  | .readRundown seq first => [0x19, seq, first]
  | .scrollStop seq => [0x20, seq]
  | .scrollResume seq => [0x21, seq]
  | .scrollSpeed seq speed => [0x22, seq] ++ bytes16 speed
  | .jump seq kind story line rows => [0x23, seq, kind] ++ bytes16 story ++ bytes16 line ++ bytes16 rows
  | .readPosition seq => [0x24, seq]
  | .cueDefine seq cue actions => [0x28, seq, cue, BitVec.ofNat 8 actions.length] ++ actions.flatMap bytesAction
  | .cueRead seq cue => [0x29, seq, cue]
  | .outputSet seq mask operation duration => [0x2A, seq, mask, operation, duration]
  | .headConfig seq head width height scale leading margin readingRow rate =>
      [0x30, seq, head] ++ bytes16 width ++ bytes16 height ++ [scale, leading] ++ bytes16 margin ++ [readingRow, rate]
  | .headStart seq head => [0x31, seq, head]
  | .headStop seq head => [0x32, seq, head]
  | .headBlank seq head => [0x33, seq, head]
  | .headUnblank seq head => [0x34, seq, head]
  | .headAppearance seq head f => [0x35, seq, head] ++ bytesAppearance f
  | .headRead seq head => [0x36, seq, head]
  | .linkFrame _ => []
  | .byteGapTimeout => []
  | .lineBreak => []
  | .transmitDone => []
  | .controllerReport _ _ => []
  | .portByteGapTimeout _ => []
  | .reportTimeout _ => []
  | .releaseTimerExpiry => []
  | .loadIdleTimeout _ => []
  | .internalTimerExpiry => []
  | .scrollFrame => []
  | .frameStart _ => []
  | .syncLossExpiry _ => []
  | .renderComplete => []
  | .pulseEnd _ => []
  | .reflowComplete => []
  | .powerUp _ => []
  | .resetPinAssert => []
  | .resetPinRelease _ => []
  | .restartReset _ => []

/-- The codes of the command table of the command link's chapter (R158, R161). -/
def commandCodes : List Byte :=
  [0x01, 0x02, 0x03, 0x04, 0x08, 0x09, 0x0A, 0x0B, 0x0C, 0x0D, 0x10, 0x11, 0x12, 0x13, 0x14, 0x15, 0x16, 0x17, 0x18, 0x19,
    0x20, 0x21, 0x22, 0x23, 0x24, 0x28, 0x29, 0x2A, 0x30, 0x31, 0x32, 0x33, 0x34, 0x35, 0x36]

/-- What the first two checks of R161 make of a payload. -/
inductive Parsed where
  /-- A command whose length agrees with its layout. -/
  | command (i : Instr)
  /-- A known code with a length its layout does not allow: BAD_LENGTH. -/
  | badLength (code seq : Byte)
deriving DecidableEq, Repr

/-- The action list of CUE_DEFINE, four bytes an action; none when the bytes do not come to whole actions (R170). -/
def parseActions : List Byte → Option (List ActionField)
  | [] => some []
  | k :: l :: v0 :: v1 :: rest => (parseActions rest).map (⟨k, l, word16 v0 v1⟩ :: ·)
  | _ => none

/-- The fields of HEAD_APPEARANCE after the head number (R170). -/
def parseAppearance : List Byte → Option AppearanceFields
  | [mirror, flip, b0, g0, r0, b1, g1, r1, b2, g2, r2, b3, g3, r3, bb, bg, br, marker, mb, mg, mr, arrows] =>
      some ⟨mirror, flip, ⟨b0, g0, r0⟩, ⟨b1, g1, r1⟩, ⟨b2, g2, r2⟩, ⟨b3, g3, r3⟩, ⟨bb, bg, br⟩, marker, ⟨mb, mg, mr⟩, arrows⟩
  | _ => none

/-- The command that a known code and the bytes after the sequence byte spell; none when the length does not match (R161
check 2, R170). An unknown code gives UNKNOWN_COMMAND (R161 check 1). -/
def parseFields (code seq : Byte) (rest : List Byte) : Option Instr :=
  match code.toNat, rest with
  | 0x01, rest => if rest = [] then some (.identify seq) else none
  | 0x02, rest => if rest = [] then some (.status seq) else none
  | 0x03, rest => if rest = [] then some (.restart seq) else none
  | 0x04, rest => if rest = [] then some (.clearShow seq) else none
  | 0x08, rest => match rest with
    | [c] => some (.setColumns seq c)
    | _ => none
  | 0x09, rest => match rest with
    | [v0, v1, a0, a1, b0, b1, d0, d1, pr, k0, k1, p] =>
        some (.setMotion seq (word16 v0 v1) (word16 a0 a1) (word16 b0 b1) (word16 d0 d1) pr (word16 k0 k1) p)
    | _ => none
  | 0x0A, rest => match rest with
    | [a0, a1, b0, b1, c0, c1, d0, d1, e0, e1, f0, f1, g0, g1, h0, h1, i0, i1] =>
        some (.setCurve seq #v[word16 a0 a1, word16 b0 b1, word16 c0 c1, word16 d0 d1, word16 e0 e1, word16 f0 f1,
          word16 g0 g1, word16 h0 h1, word16 i0 i1])
    | _ => none
  | 0x0B, rest => match rest with
    | [port, enabled, role, t0, t1, gain, dead, reverse, s0, s1] =>
        some (.setPort seq port enabled role (word16 t0 t1) gain dead reverse (word16 s0 s1))
    | _ => none
  | 0x0C, rest => match rest with
    | [source, rate] => some (.setFrameSource seq source rate)
    | _ => none
  | 0x0D, rest => match rest with
    | [n] => some (.setReporting seq n)
    | _ => none
  | 0x10, rest => match rest with
    | tag :: e0 :: e1 :: mode :: s0 :: s1 :: n0 :: n1 :: kind :: i0 :: i1 :: force :: len :: slug =>
        if len.toNat = slug.length ∧ slug.length ≤ 205 then
          some (.loadOpen seq tag (word16 e0 e1) mode (word16 s0 s1) (word16 n0 n1) kind (word16 i0 i1) force slug)
        else none
    | _ => none
  | 0x11, rest => match rest with
    | tag :: text => if text.length ≤ 217 then some (.loadLine seq tag text) else none
    | _ => none
  | 0x12, rest => match rest with
    | tag :: text => if text.length ≤ 217 then some (.loadLast seq tag text) else none
    | _ => none
  | 0x13, rest => match rest with
    | [tag] => some (.loadCancel seq tag)
    | _ => none
  | 0x14, rest => match rest with
    | [e0, e1, s0, s1, force] => some (.storyDelete seq (word16 e0 e1) (word16 s0 s1) force)
    | _ => none
  | 0x15, rest => match rest with
    | [e0, e1, s0, s1, kind, i0, i1, force] =>
        some (.storyMove seq (word16 e0 e1) (word16 s0 s1) kind (word16 i0 i1) force)
    | _ => none
  | 0x16, rest => match rest with
    | [e0, e1, s0, s1, request, force] => some (.storySkip seq (word16 e0 e1) (word16 s0 s1) request force)
    | _ => none
  | 0x17, rest => match rest with
    | [e0, e1] => some (.editCancel seq (word16 e0 e1))
    | _ => none
  | 0x18, rest => match rest with
    | [s0, s1] => some (.readStory seq (word16 s0 s1))
    | _ => none
  | 0x19, rest => match rest with
    | [first] => some (.readRundown seq first)
    | _ => none
  | 0x20, rest => if rest = [] then some (.scrollStop seq) else none
  | 0x21, rest => if rest = [] then some (.scrollResume seq) else none
  | 0x22, rest => match rest with
    | [s0, s1] => some (.scrollSpeed seq (word16 s0 s1))
    | _ => none
  | 0x23, rest => match rest with
    | [kind, s0, s1, l0, l1, n0, n1] => some (.jump seq kind (word16 s0 s1) (word16 l0 l1) (word16 n0 n1))
    | _ => none
  | 0x24, rest => if rest = [] then some (.readPosition seq) else none
  | 0x28, rest => match rest with
    | cue :: count :: actions => match parseActions actions with
      | some as => if count.toNat = as.length then some (.cueDefine seq cue as) else none
      | none => none
    | _ => none
  | 0x29, rest => match rest with
    | [cue] => some (.cueRead seq cue)
    | _ => none
  | 0x2A, rest => match rest with
    | [mask, operation, duration] => some (.outputSet seq mask operation duration)
    | _ => none
  | 0x30, rest => match rest with
    | [head, w0, w1, h0, h1, scale, leading, m0, m1, row, rate] =>
        some (.headConfig seq head (word16 w0 w1) (word16 h0 h1) scale leading (word16 m0 m1) row rate)
    | _ => none
  | 0x31, rest => match rest with
    | [head] => some (.headStart seq head)
    | _ => none
  | 0x32, rest => match rest with
    | [head] => some (.headStop seq head)
    | _ => none
  | 0x33, rest => match rest with
    | [head] => some (.headBlank seq head)
    | _ => none
  | 0x34, rest => match rest with
    | [head] => some (.headUnblank seq head)
    | _ => none
  | 0x35, rest => match rest with
    | head :: fields => (parseAppearance fields).map (.headAppearance seq head ·)
    | _ => none
  | 0x36, rest => match rest with
    | [head] => some (.headRead seq head)
    | _ => none
  | _, rest => some (.unknownCommand code seq rest)

/-- Checks 1 and 2 of R161 on a payload. The LEN check of R159 leaves no payload under two bytes. -/
def parsePayload : List Byte → Parsed
  | code :: seq :: rest => match parseFields code seq rest with
    | some i => .command i
    | none => .badLength code seq
  | [code] => .badLength code 0
  | [] => .badLength 0 0

/-- The command an opcode-table word spells. spec/opcode_table.json gives bits to no row (its "fields" are empty), so none
(log 34). -/
def decodeTableWord (_nbits _w : Nat) : Option Instr := none

end Sys2Proof
end

