-- ==== Sys2Proof/Config.lean ====
section
/-! DEFINITION. Config.lean: what the part fixes (the capacities of 00_scope.md and R166) and the free values, which the spec
leaves open. A free value has no body: nothing can be proved of what it is. -/

namespace Sys2Proof.Config

/-- Stories in the rundown (R1). -/
def maxStories : Nat := 96

/-- Line slots in the pool (R11). -/
def poolSlots : Nat := 4096

/-- Lines of one story (R21). -/
def maxLines : Nat := 1024

/-- Bytes of one line (R11, R14). -/
def maxLineBytes : Nat := 160

/-- Characters of a slug (R15). -/
def maxSlug : Nat := 24

/-- Rows of the script (R52). -/
def maxRows : Nat := 32767

/-- Load slots (R21). -/
def loadSlots : Nat := 4

/-- Pending edits (R37). -/
def maxPending : Nat := 8

/-- Cue marks in the engine (R25). -/
def maxMarks : Nat := 256

/-- The idle time that aborts a load, in ms (R28). -/
def loadIdleLimit : Nat := 5000

/-- Frames of the receive queue and replies of the reply queue (R160, R162). -/
def queueSize : Nat := 4

/-- Notices of the notice queue (R163). -/
def noticeQueueSize : Nat := 32

/-- The largest payload of a frame (R158). -/
def maxPayload : Nat := 220

/-- The gap between two bytes of a frame that a receiver allows, in ms (R94, R159). -/
def byteGapLimit : Nat := 20

/-- Fine units of one row (R67). -/
def fine : Nat := 1024

/-- The part code (R166). -/
def partCode : Word16 := 0x2418

/-- The part revision (R166). -/
def partRevision : Byte := 1

/-- The bounds of a ring bias (R138). -/
def biasMin : Int := -8388608

/-- The bounds of a ring bias (R138). -/
def biasMax : Int := 8388607

/-- FREE VALUE (log 12): whether the point in column `x`, line `y` of the glyph of a byte 21h..7Eh is on. R146 says that the
patterns "are not given in this reference". -/
opaque glyph (char : Byte) (x y : Nat) : Bool

/-- FREE VALUE (log 13): whether a pixel that the edge of the cue arrow's triangle crosses is drawn, for an area of `width` by
`height` pixels. R154 gives the triangle, and no rule for such a pixel. -/
opaque arrowEdge (width height x y : Nat) : Bool

/-- FREE VALUE (log 14): byte `byte` of action `index` in the CUE_READ reply numbered `nonce`, where the action's kind does not
use that byte. R117 and R170 do not state it. -/
opaque unusedActionByte (nonce index byte : Nat) : Byte

/-- FREE VALUE (log 15): the two bytes HEAD_READ gives for a window row outside -32,768..+32,767, which its field cannot hold
(R144, R170). -/
opaque wideRow (row : Int) : Word16

end Sys2Proof.Config
end

