-- ==== Sys2Proof/Machine/State.lean ====
section
/-! DEFINITION. State.lean: the state of the JP-24 as plain data, block by block, and the state right after a full reset.
The only change of the machine is `exec` on a queued command (or `step`'s tick on an empty queue). -/

namespace Sys2Proof.Machine

/-! ## Script store (chapter 1) -/

/-- A line's text, or a slug (R13, R15). -/
abbrev Line := List Byte

/-- R2, R8. -/
inductive StoryState where
  | ready | onAir | read | skipped
deriving DecidableEq, Repr

/-- One row of a line: its first visible character and its character count (R49). -/
structure RowSpan where
  first : Nat
  count : Nat
deriving DecidableEq, Repr

/-- The row directory's entry of one story (R52): whether row 0 is a slug row, and each line's break list. -/
structure DirEntry where
  slugRow : Bool
  lines : List (List RowSpan)
deriving DecidableEq, Repr

/-- A story record (R2). The chain is held as the lines in its slots (log 9); `dir` is the story's directory entry, which a
SKIPPED story has not (R52). -/
structure Story where
  id : Nat
  slug : Line
  state : StoryState
  revision : BitVec 16
  chain : List Line
  rowCount : Nat
  markCount : Nat
  pendingCount : Nat
  dir : Option DirEntry
deriving DecidableEq, Repr

/-- The script store: the rundown, its counts and the pool's free count (R1, R3, R4, R10, R11). -/
structure Store where
  stories : List Story
  insertions : BitVec 16
  edition : BitVec 16
  onAirId : Nat
  freeCount : Nat
deriving DecidableEq, Repr

/-! ## Edit unit (chapter 2) -/

/-- R21. -/
inductive LoadMode where
  | new | replace
deriving DecidableEq, Repr

/-- R21, R30: where an inserted or moved story goes. -/
inductive Placement where
  | atEnd | before (id : Nat) | after (id : Nat)
deriving DecidableEq, Repr

/-- The record of an open load slot (R21). -/
structure Load where
  tag : Nat
  editTag : Nat
  mode : LoadMode
  story : Nat
  n : Nat
  place : Placement
  slug : Line
  force : Bool
  chain : List Line
  received : Nat
  marks : Nat
  idle : Nat
deriving DecidableEq, Repr

/-- What an edit does, with what its kind carries (R30, R37). -/
inductive EditBody where
  | replace (slug : Line) (chain : List Line)
  | insert (place : Placement) (slug : Line) (chain : List Line)
  | delete
  | move (place : Placement)
  | skip
  | unskip
deriving DecidableEq, Repr

/-- An edit: its tag, its story and what it does (R30). -/
structure Edit where
  tag : Nat
  story : Nat
  body : EditBody
deriving DecidableEq, Repr

/-- A record of the pending edit list (R37). -/
structure PendingEdit where
  edit : Edit
  marks : Nat
  arrival : Nat
deriving DecidableEq, Repr

/-- The edit unit (R21, R35, R37). The load slots are held as the list of the open ones (log 10). -/
structure EditUnit where
  loads : List Load
  pending : List PendingEdit
  nextArrival : Nat
  lookahead : Nat
deriving DecidableEq, Repr

/-! ## Layout unit (chapter 3) -/

/-- R56: where in its story an anchor lies. -/
inductive AnchorPlace where
  | line (index char : Nat)
  | slug
  | storyEnd
deriving DecidableEq, Repr

/-- R56. -/
structure Anchor where
  story : Nat
  place : AnchorPlace
  fraction : Nat
deriving DecidableEq, Repr

/-- A row's identity, which is also a band slot's tag (R54). -/
structure RowIdentity where
  story : Nat
  revision : BitVec 16
  row : Nat
  generation : BitVec 16
deriving DecidableEq, Repr

/-- A record of the mark list (R63). -/
structure MarkRecord where
  position : Nat
  cue : Nat
  story : Nat
  line : Nat
  char : Nat
  ordinal : Nat
  armed : Bool
deriving DecidableEq, Repr

/-- The layout unit (R47, R48, R54, R63): REFLOWING while it has a target. -/
structure Layout where
  columns : Nat
  target : Option Nat
  generation : BitVec 16
  marks : List MarkRecord
deriving DecidableEq, Repr

/-! ## Scroll controller (chapter 4) -/

/-- R70. -/
inductive ScrollState where
  | idle | stopped | cruise | manual | held
deriving DecidableEq, Repr

/-- R68. -/
inductive Direction where
  | forward | backward
deriving DecidableEq, Repr

/-- R89, R129: a rate of the internal timer, or a head's nominal rate. -/
inductive Rate where
  | hz50 | hz5994 | hz60
deriving DecidableEq, Repr

/-- R89: the frame source, as set or as in use. -/
inductive FrameSource where
  | head (n : Fin 4)
  | internal (rate : Rate)
deriving DecidableEq, Repr

/-- The scroll controller (R67 to R70, R73, R75, R89 to R91). `frameTimer` is the time since the internal timer's last expiry
in units of 1/60,000 s, `none` when it is stopped (log 29); `framesOwed` is the model's own count (log 6). -/
structure Scroll where
  p : Nat
  v : Int
  direction : Direction
  cruise : Int
  state : ScrollState
  lastDemand : Int
  vmax : Nat
  accel : Nat
  brake : Nat
  keyStep : Nat
  curve : Vector Nat 9
  setting : FrameSource
  inUse : FrameSource
  frameTimer : Option Nat
  framesOwed : Int
deriving DecidableEq, Repr

/-! ## Control hub (chapter 5) -/

/-- R93. -/
inductive Role where
  | operator | presenter
deriving DecidableEq, Repr

/-- R93. -/
inductive ControllerKind where
  | lever | pedal | wheel | keypad
deriving DecidableEq, Repr

/-- R97. A port is enabled unless it is OFF (R93). -/
inductive PortState where
  | empty | live | stale | off
deriving DecidableEq, Repr

/-- R93, R95: a decoded value. -/
inductive PortValue where
  | none
  | deflection (negative : Bool) (m : Nat)
  | detents (n : Int)
deriving DecidableEq, Repr

/-- A key set, one bit a key (R95, R172): 0 STOP, 1 RESUME, 2 FASTER, 3 SLOWER, 4 NEXT, 5 PREV, 6 TOP, 7 MARK, 8 REVERSE. -/
abbrev KeySet := BitVec 9

/-- A byte receiver: hunting, or within a frame with the bytes since its start byte and the ms since the last one
(R94, R159). -/
inductive Receiver where
  | hunting
  | inFrame (got : List Byte) (gap : Nat)
deriving DecidableEq, Repr

/-- A port record (R93) with the port's receiver (R94). `armedTimeout` is the report timeout in force when the report timer was
last set to 0 (R98). -/
structure Port where
  role : Role
  kind : Option ControllerKind
  state : PortState
  timeout : Nat
  armedTimeout : Nat
  timer : Option Nat
  value : PortValue
  keys : KeySet
  mustRest : Bool
  refused : Bool
  gain : Nat
  dead : Nat
  reverse : Bool
  step : Nat
  receiver : Receiver
deriving DecidableEq, Repr

/-- The holder of scroll authority (R103). -/
structure Holder where
  port : Fin 6
  role : Role
  kind : ControllerKind
deriving DecidableEq, Repr

/-- R91, R104. -/
inductive Priority where
  | operatorFirst | presenterFirst
deriving DecidableEq, Repr

/-- The control hub (R93, R103, R109). -/
structure Hub where
  ports : Vector Port 6
  holder : Option Holder
  releaseTimer : Option Nat
  releaseDelay : Nat
  priority : Priority
deriving DecidableEq, Repr

/-! ## Cue unit (chapter 6) -/

/-- R115. A PULSE holds its duration in steps of 10 ms. -/
inductive CueAction where
  | pause
  | cruise (speed : Int)
  | pulse (line : Fin 8) (steps : Nat)
  | set (line : Fin 8)
  | clear (line : Fin 8)
deriving DecidableEq, Repr

/-- R125: a cue line's latch and its pulse remaining time in ms. -/
structure CueLine where
  latch : Bool
  pulse : Nat
deriving DecidableEq, Repr

/-- The cue unit (R115, R125). Entry `c - 1` of `defs` is cue `c`'s action list, empty when the cue is undefined. -/
structure CueUnit where
  defs : Vector (List CueAction) 64
  lines : Vector CueLine 8
deriving DecidableEq, Repr

/-! ## Display heads and render unit (chapters 7 and 8) -/

/-- R129. -/
structure Geometry where
  width : Nat
  height : Nat
  scale : Nat
  leading : Nat
  margin : Nat
  readingRow : Nat
  rate : Rate
deriving DecidableEq, Repr

/-- R132. -/
structure Appearance where
  mirror : Bool
  flip : Bool
  text : Vector Colour 4
  background : Colour
  marker : Bool
  markerColour : Colour
  arrows : Bool
deriving DecidableEq, Repr

/-- R133. -/
inductive HeadState where
  | disabled | starting | running | blanked | stopping
deriving DecidableEq, Repr

/-- What a row job draws from and nothing else (R146, R150): the row's bytes, its colour and emphasis at the start, the cell
geometry and the arrow. A VALID slot's pixels are the pixels this recipe draws (log 11). -/
structure Drawing where
  content : Line
  slugRow : Bool
  colour : Fin 4
  emphasis : Bool
  scale : Nat
  margin : Nat
  columns : Nat
  arrow : Bool
deriving DecidableEq, Repr

/-- A band slot (R137). -/
inductive Slot where
  | empty
  | rendering (tag : RowIdentity)
  | valid (tag : RowIdentity) (pixels : Drawing)
deriving DecidableEq, Repr

/-- One half of a band: its block, its remaining set, and whether its request was classed URGENT (R137, R141). -/
structure BandHalf where
  block : Option Int
  remaining : List (Fin 32)
  urgent : Bool
deriving DecidableEq, Repr

/-- The window a head took at its last frame start, with the bias at that frame start (R139, R148). -/
structure Window where
  topRow : Int
  bottomRow : Int
  readingRow : Int
  bias : Int
deriving DecidableEq, Repr

/-- The frame a RUNNING head is scanning out: the strip line at output line 0, and the ready visible rows with their slots as
of its frame start (R139, R143). -/
structure ScanFrame where
  top : Int
  ready : List (Int × Fin 32)
deriving DecidableEq, Repr

/-- A head controller (R129, R132, R133, R136 to R142). -/
structure Head where
  geometry : Geometry
  appearance : Appearance
  pendingAppearance : Option Appearance
  state : HeadState
  bias : Int
  halves : Vector BandHalf 2
  slots : Vector Slot 32
  degraded : Bool
  syncLost : Bool
  syncTimer : Option Nat
  window : Window
  frame : Option ScanFrame
deriving DecidableEq, Repr

/-- The render job (R146). -/
structure Job where
  head : Fin 4
  slot : Fin 32
  row : Nat
  tag : RowIdentity
  drawing : Drawing
deriving DecidableEq, Repr

/-! ## Command link (chapters 9 and 10) -/

/-- The reasons of R171. -/
inductive Reason where
  | unknownCommand | badLength | badValue | busy | noSlot | poolFull | storyExists | noStory | storyLimit | markLimit
  | countShort | countOver | noLoad | editQueueFull | noEdit | rowLimit | headActive | headTooNarrow | rowsExceed
  | curveOrder | heldByControl | notRunning | tagInUse
deriving DecidableEq, Repr

/-- R162, R171. -/
inductive Result where
  | ok | deferred | reason (r : Reason)
deriving DecidableEq, Repr

/-- The kinds of edit (R30). -/
inductive EditKind where
  | replace | insert | delete | move | skip | unskip
deriving DecidableEq, Repr

/-- The state, position, velocity and cruise speed the replies of the scroll commands carry (R80, R170). -/
structure MotionFields where
  state : ScrollState
  p : Nat
  v : Int
  cruise : Int
deriving DecidableEq, Repr

/-- The fields of a STATUS reply (R167). -/
structure StatusFields where
  state : ScrollState
  p : Nat
  v : Int
  holder : Option Holder
  heads : Vector HeadState 4
  freeCount : Nat
  pending : Nat
  loads : Nat
  reflowing : Bool
  lost : Nat
deriving DecidableEq, Repr

/-- The fields of a READ_STORY reply (R17). -/
structure StoryFields where
  edition : BitVec 16
  index : Nat
  state : StoryState
  revision : BitVec 16
  lineCount : Nat
  rowCount : Nat
  startRow : Nat
  markCount : Nat
  pendingCount : Nat
  slug : Line
deriving DecidableEq, Repr

/-- One entry of a READ_RUNDOWN reply (R18). -/
structure RundownEntry where
  id : Nat
  state : StoryState
  pendingCount : Nat
deriving DecidableEq, Repr

/-- The fields of a READ_POSITION reply (R88). -/
structure PositionFields where
  p : Nat
  v : Int
  state : ScrollState
  direction : Direction
  cruise : Int
  lastDemand : Int
  rows : Nat
  onAirId : Nat
  anchor : Option Anchor
  source : FrameSource
  rate : Rate
deriving DecidableEq, Repr

/-- What HEAD_READ gives of one half (R144): block, remaining set size, and its class when it is a request. -/
structure HalfFields where
  block : Option Int
  remaining : Nat
  urgent : Option Bool
deriving DecidableEq, Repr

/-- The fields of a HEAD_READ reply (R144). -/
structure HeadFields where
  geometry : Geometry
  appearance : Appearance
  pendingAppearance : Option Appearance
  state : HeadState
  syncLost : Bool
  degraded : Bool
  bias : Int
  halves : Vector HalfFields 2
  emptySlots : Nat
  renderingSlots : Nat
  validSlots : Nat
  window : Window
deriving DecidableEq, Repr

/-- The fields of a reply after its result and flags (R170). -/
inductive ReplyBody where
  | bare
  | deferred (editTag : Nat)
  | identify (rate : LinkRate)
  | status (f : StatusFields)
  | frameSource (source : FrameSource) (rate : Rate)
  | reporting (interval : Nat)
  | loadOpened (tag : Nat)
  | linesReceived (n : Nat)
  | rowCount (n : Nat)
  | totalRows (n : Nat)
  | startRow (n : Nat)
  | cancelled (kind : EditKind) (story : Nat)
  | story (f : StoryFields)
  | rundown (edition : BitVec 16) (n first : Nat) (entries : List RundownEntry)
  | motion (f : MotionFields)
  | position (f : PositionFields)
  | cue (nonce : Nat) (actions : List CueAction) (marks armed : Nat)
  | lines (f : Vector CueLine 8)
  | geometry (pitch rows : Nat)
  | headState (state : HeadState)
  | head (f : HeadFields)
deriving DecidableEq, Repr

/-- A reply (R162): its code, the echoed sequence byte, the result, the two flags and its fields. -/
structure Reply where
  code : Byte
  seq : Byte
  result : Result
  truncated : Bool
  badMark : Bool
  body : ReplyBody
deriving DecidableEq, Repr

/-- R72. -/
inductive ScrollCause where
  | host
  | port (n : Fin 6)
  | atEnd
  | atTop
  | pause (cue : Nat)
  | script
  | controlLost
deriving DecidableEq, Repr

/-- R103. -/
inductive AuthorityCause where
  | taken | released | stopped | ended | controlLost
deriving DecidableEq, Repr

/-- R169. -/
inductive StartCause where
  | power | pin | command
deriving DecidableEq, Repr

/-- The notices of R170 that pass through the notice queue (POSITION does not, R164). -/
inductive Notice where
  | started (cause : StartCause)
  | scrollState (new previous : ScrollState) (p : Nat) (v : Int) (cause : ScrollCause)
  | onAir (story : Nat)
  | editApplied (tag : Nat) (kind : EditKind) (story : Nat)
  | editDiscarded (tag : Nat) (reason : Reason)
  | loadAborted (tag : Nat)
  | reflowDone (ok : Bool) (columns : Nat) (generation : BitVec 16) (rows : Nat)
  | cuePassed (cue story line char position : Nat) (isUndefined : Bool)
  | authority (holder : Option Holder) (previous : Option (Fin 6)) (cause : AuthorityCause)
  | contention (port : Fin 6) (role : Role) (holder : Holder)
  | portState (port : Fin 6) (new previous : PortState) (kind : Option ControllerKind)
  | headState (head : Fin 4) (new previous : HeadState)
  | headDegraded (head : Fin 4) (missing : Nat)
  | headClear (head : Fin 4)
  | markKey (port : Fin 6) (p : Nat) (anchor : Option Anchor)
  | syncState (head : Fin 4) (present : Bool)
deriving DecidableEq, Repr

/-- A position report (R164). -/
structure Report where
  number : Byte
  p : Nat
  v : Int
  state : ScrollState
  onAirId : Nat
  anchor : Option Anchor
deriving DecidableEq, Repr

/-- The frame being sent (R162 to R165): the oldest reply, the oldest notice, or a report that has left its slot. -/
inductive Transmit where
  | reply | notice | report (r : Report)
deriving DecidableEq, Repr

/-- How far a RESTART has come (R169): none taken; its reply waiting or being sent; its reply sent and the full reset due. -/
inductive Restart where
  | none | replying | due
deriving DecidableEq, Repr

/-- The command link (R159 to R165, R169). -/
structure Link where
  receiver : Receiver
  received : List (List Byte)
  replies : List Reply
  notices : List Notice
  lost : Nat
  slot : Option Report
  interval : Nat
  frameCount : Nat
  reportNumber : Byte
  sending : Option Transmit
  restart : Restart
  rate : LinkRate
deriving DecidableEq, Repr

/-! ## The machine -/

/-- The engine, and the model's queue of commands and events that are waiting (log 1). `fresh` numbers the free values of
CUE_READ replies (log 14). -/
structure State where
  pending : List Instr
  link : Link
  store : Store
  edit : EditUnit
  layout : Layout
  scroll : Scroll
  hub : Hub
  cues : CueUnit
  heads : Vector Head 4
  job : Option Job
  resetHeld : Bool
  fresh : Nat
deriving DecidableEq, Repr

/-- The spec stops the engine in no case, so no command faults: there is no reason (safe; INVENTORY.md, Faults). -/
inductive Fault where
deriving DecidableEq, Repr

/-- Why a command has no meaning. -/
inductive Refusal where
  /-- Raised by an arm of `exec` for a row that has no meaning yet; no arm does (safe). -/
  | notModelled (mnemonic : String)
deriving DecidableEq, Repr

/-! ## Reset values -/

/-- R93's defaults, by port number, and R114. -/
def Port.reset (n : Fin 6) : Port where
  role := if n.val < 3 then .operator else .presenter
  kind := none
  state := .empty
  timeout := 250
  armedTimeout := 250
  timer := none
  value := .none
  keys := 0
  mustRest := false
  refused := false
  gain := 64
  dead := 6
  reverse := decide (n.val < 3)
  step := 4
  receiver := .hunting

/-- The default geometry (R129). -/
def Geometry.default : Geometry := ⟨1280, 720, 2, 8, 64, 3, .hz60⟩

/-- The default appearance (R132). -/
def Appearance.default : Appearance where
  mirror := false
  flip := false
  text := #v[⟨0xFF, 0xFF, 0xFF⟩, ⟨0xFF, 0xFF, 0x00⟩, ⟨0x00, 0xFF, 0xFF⟩, ⟨0x00, 0xFF, 0x00⟩]
  background := ⟨0, 0, 0⟩
  marker := true
  markerColour := ⟨0xFF, 0x00, 0x00⟩
  arrows := true

/-- A half with no block and no request (R137). -/
def BandHalf.cleared : BandHalf := ⟨none, [], false⟩

/-- A head after full reset (R145). -/
def Head.reset : Head where
  geometry := Geometry.default
  appearance := Appearance.default
  pendingAppearance := none
  state := .disabled
  bias := 0
  halves := Vector.replicate 2 BandHalf.cleared
  slots := Vector.replicate 32 .empty
  degraded := false
  syncLost := false
  syncTimer := none
  window := ⟨0, 0, 0, 0⟩
  frame := none

/-- The default speed curve (R75). -/
def defaultCurve : Vector Nat 9 := #v[0, 4, 12, 28, 56, 100, 170, 300, 1024]

/-- The machine right after a full reset with cause POWER (R19, R21, R35, R37, R66, R92, R114, R128, R145, R146, R169), the
STARTED notice being sent (log 8), the straps selecting 115,200 baud (log 7). -/
def State.reset : State where
  pending := []
  link :=
    { receiver := .hunting, received := [], replies := [], notices := [.started .power], lost := 0, slot := none,
      interval := 0, frameCount := 0, reportNumber := 0, sending := some .notice, restart := .none, rate := .baud115200 }
  store := { stories := [], insertions := 0, edition := 0, onAirId := 0, freeCount := Config.poolSlots }
  edit := { loads := [], pending := [], nextArrival := 0, lookahead := 12 }
  layout := { columns := 24, target := none, generation := 0, marks := [] }
  scroll :=
    { p := 0, v := 0, direction := .forward, cruise := 0, state := .idle, lastDemand := 0, vmax := 2048, accel := 8,
      brake := 16, keyStep := 16, curve := defaultCurve, setting := .internal .hz60, inUse := .internal .hz60,
      frameTimer := some 0, framesOwed := 0 }
  hub :=
    { ports := #v[Port.reset 0, Port.reset 1, Port.reset 2, Port.reset 3, Port.reset 4, Port.reset 5], holder := none,
      releaseTimer := none, releaseDelay := 600, priority := .operatorFirst }
  cues := { defs := Vector.replicate 64 [], lines := Vector.replicate 8 ⟨false, 0⟩ }
  heads := Vector.replicate 4 Head.reset
  job := none
  resetHeld := false
  fresh := 0

end Sys2Proof.Machine
end

