-- ==== Sys2Proof/Machine/Text.lean ====
section
/-! DEFINITION. Text.lean: line text and its codes (R13 to R16, R173), the wrap of a line into rows (R49, R50) and the rows of
one story (R51, R52). -/

namespace Sys2Proof.Machine

/-- The space, the one break point of the wrap (R13, R173). -/
def spaceByte : Byte := 0x20

/-- The cue mark code (R173). -/
def markByte : Byte := 0x07

/-- A zero-width code (R13). -/
inductive Code where
  | colour (n : Fin 4)
  | emphasisOn
  | emphasisOff
  | mark (cue : Nat)
deriving DecidableEq, Repr

/-- The code a byte other than 07h stands for; none for a visible character (R173). -/
def codeOfByte (b : Byte) : Option Code :=
  match b.toNat with
  | 1 => some (.colour 0)
  | 2 => some (.colour 1)
  | 3 => some (.colour 2)
  | 4 => some (.colour 3)
  | 5 => some .emphasisOn
  | 6 => some .emphasisOff
  | _ => none

/-- Whether an id byte names a cue, 1..64 (R14, R173). -/
def markIdOk (id : Byte) : Bool := decide (1 ≤ id.toNat) && decide (id.toNat ≤ 64)

/-- R14 step 2: the text without its ill-formed marks, and whether one was removed. `afterCode` says that the byte before was
a cue mark code, so that this byte is its id whatever its value (R173). -/
def stripMarks : Bool → Line → Line × Bool
  | false, [] => ([], false)
  | true, [] => ([], true)
  | true, id :: rest =>
      let r := stripMarks false rest
      if markIdOk id then (markByte :: id :: r.1, r.2) else (r.1, true)
  | false, b :: rest =>
      if b = markByte then stripMarks true rest
      else
        let r := stripMarks false rest
        (b :: r.1, r.2)

/-- A line as R14 prepares it, with the flags it sets. -/
structure PreparedLine where
  text : Line
  truncated : Bool
  badMark : Bool
deriving DecidableEq, Repr

/-- R14: the cut to 160 bytes, then the removal of ill-formed marks. -/
def prepareLine (text : Line) : PreparedLine :=
  let r := stripMarks false (text.take Config.maxLineBytes)
  ⟨r.1, decide (Config.maxLineBytes < text.length), r.2⟩

/-- R15 step 1: a slug without its codes and the id bytes after mark codes, and whether a mark code was removed (log 23). -/
def stripCodes : Bool → Line → Line × Bool
  | _, [] => ([], false)
  | true, _ :: rest => ((stripCodes false rest).1, true)
  | false, b :: rest =>
      if b = markByte then ((stripCodes true rest).1, true)
      else
        let r := stripCodes false rest
        if (codeOfByte b).isSome then r else (b :: r.1, r.2)

/-- R15: a slug as it is stored, with the flags storing it sets. -/
def prepareSlug (slug : Line) : PreparedLine :=
  let r := stripCodes false slug
  ⟨r.1.take Config.maxSlug, decide (Config.maxSlug < r.1.length), r.2⟩

/-- A byte of a line, classified (R173): a code, or a visible character. -/
inductive Token where
  | code (c : Code)
  | char (b : Byte)
deriving DecidableEq, Repr

/-- The tokens of a stored line, from its first byte onward (R173). -/
def tokens : Bool → Line → List Token
  | _, [] => []
  | true, id :: rest => .code (.mark id.toNat) :: tokens false rest
  | false, b :: rest =>
      if b = markByte then tokens true rest
      else match codeOfByte b with
        | some c => .code c :: tokens false rest
        | none => .char b :: tokens false rest

/-- A visible character with the codes that belong to it (R13). -/
structure Cell where
  codes : List Code
  char : Byte
deriving DecidableEq, Repr

/-- A line's visible characters with their codes, and the codes at the end of the line (R13). -/
structure Scan where
  cells : List Cell
  tail : List Code
deriving DecidableEq, Repr

/-- R13: each code belongs to the next visible character after it, or to the end of the line. `held` are the codes read since
the last visible character. -/
def scanTokens : List Code → List Token → Scan
  | held, [] => ⟨[], held⟩
  | held, .code c :: rest => scanTokens (held ++ [c]) rest
  | held, .char b :: rest =>
      let r := scanTokens [] rest
      ⟨⟨held, b⟩ :: r.cells, r.tail⟩

/-- A stored line's scan (R13). -/
def scanLine (text : Line) : Scan := scanTokens [] (tokens false text)

/-- A line's visible characters (R13). -/
def visibleChars (text : Line) : List Byte := (scanLine text).cells.map Cell.char

/-- The visible-character count c of a line (R13). -/
def visibleCount (text : Line) : Nat := (scanLine text).cells.length

/-- The cue ids of the marks among some codes, in text order. -/
def marksOf (codes : List Code) : List Nat :=
  codes.filterMap fun c => match c with
    | .mark cue => some cue
    | _ => none

/-- The number of cue marks of a stored line (R16). -/
def lineMarks (text : Line) : Nat :=
  let s := scanLine text
  ((s.cells.map fun c => (marksOf c.codes).length).sum) + (marksOf s.tail).length

/-- The mark count of a chain (R16). -/
def chainMarks (chain : List Line) : Nat := (chain.map lineMarks).sum

/-! ## The wrap (R49) -/

/-- The largest d in 1..`d` at which character d is a space. -/
def lastSpace (chars : List Byte) : Nat → Option Nat
  | 0 => none
  | d + 1 => if chars[d + 1]? = some spaceByte then some (d + 1) else lastSpace chars d

/-- R49 from character `s` on, whose characters are `chars`, at the column count `c`. Each row takes a character, so `fuel` above
their number does not run out. -/
def wrapFrom (c : Nat) : Nat → List Byte → Nat → List RowSpan
  | 0, _, s => [⟨s, 0⟩]
  | fuel + 1, chars, s =>
      if chars.length ≤ c then [⟨s, chars.length⟩]
      else match lastSpace chars c with
        | some d => ⟨s, d⟩ :: wrapFrom c fuel (chars.drop (d + 1)) (s + d + 1)
        | none => ⟨s, c⟩ :: wrapFrom c fuel (chars.drop c) (s + c)

/-- The rows of a line at the column count `c` (R49). -/
def wrapLine (c : Nat) (text : Line) : List RowSpan :=
  let chars := visibleChars text
  wrapFrom c (chars.length + 1) chars 0

/-- The row of a line that holds character `i` (R50, R57): the one whose range holds it, the row after for a consumed space, the
last row for the end of the line. -/
def rowOfChar (rows : List RowSpan) (i : Nat) : Nat :=
  min (rows.findIdx fun r => decide (i < r.first + r.count)) (rows.length - 1)

/-! ## The rows of a story (R51, R52) -/

/-- The directory entry a slug and a chain make at the column count `c` (R51, R52). -/
def layoutStory (c : Nat) (slug : Line) (chain : List Line) : DirEntry :=
  ⟨!slug.isEmpty, chain.map (wrapLine c)⟩

/-- Rows before line 0: the slug row, if there is one (R51). -/
def DirEntry.slugRows (e : DirEntry) : Nat := if e.slugRow then 1 else 0

/-- The row count of a directory entry (R51). -/
def DirEntry.rows (e : DirEntry) : Nat := e.slugRows + (e.lines.map List.length).sum

/-- The trial layout: the rows a slug and a chain would make at the column count `c` (R55). -/
def trialRows (c : Nat) (slug : Line) (chain : List Line) : Nat := (layoutStory c slug chain).rows

/-- The row within the story of line `l`'s first row (R55). -/
def DirEntry.lineRow (e : DirEntry) (l : Nat) : Nat := e.slugRows + ((e.lines.take l).map List.length).sum

/-- What a row of a story is (R53). -/
inductive RowPlace where
  | slug
  | line (index row : Nat) (span : RowSpan)
deriving DecidableEq, Repr

/-- Row `k` of the lines from line `l` on, counted through their row counts (R53). -/
def placeInLines : List (List RowSpan) → Nat → Nat → Option RowPlace
  | [], _, _ => none
  | rows :: rest, l, k =>
      match rows[k]? with
      | some span => some (.line l k span)
      | none => placeInLines rest (l + 1) (k - rows.length)

/-- What row `k` of a story is (R53). -/
def DirEntry.place (e : DirEntry) (k : Nat) : Option RowPlace :=
  if e.slugRow && k == 0 then some .slug else placeInLines e.lines 0 (k - e.slugRows)

/-- Colour and emphasis, as they stand at a point of a line (R13). -/
structure Style where
  colour : Fin 4
  emphasis : Bool
deriving DecidableEq, Repr

/-- A line starts at colour 0 with emphasis off (R13). -/
def Style.start : Style := ⟨0, false⟩

/-- What one code makes of the style (R13, R152). -/
def Style.apply (st : Style) : Code → Style
  | .colour n => { st with colour := n }
  | .emphasisOn => { st with emphasis := true }
  | .emphasisOff => { st with emphasis := false }
  | .mark _ => st

/-- The codes of the characters of a line in the rows before row `k`, in text order (R50): each code belongs to the row of
its character. -/
def codesBeforeRow (rows : List RowSpan) (s : Scan) (k : Nat) : List Code :=
  (s.cells.zipIdx.flatMap fun (c, i) => if rowOfChar rows i < k then c.codes else [])

/-- The colour and emphasis at the start of row `k` of a line (R50). -/
def styleAtRow (rows : List RowSpan) (text : Line) (k : Nat) : Style :=
  (codesBeforeRow rows (scanLine text) k).foldl Style.apply Style.start

/-- The bytes of a code (R173). -/
def codeBytes : Code → Line
  | .colour n => [BitVec.ofNat 8 (n.val + 1)]
  | .emphasisOn => [0x05]
  | .emphasisOff => [0x06]
  | .mark cue => [markByte, BitVec.ofNat 8 cue]

/-- R150 step 3: the bytes of row `k` of a line: the codes that belong to the row, in text order, and its visible characters; at
most 160. -/
def rowContent (rows : List RowSpan) (text : Line) (k : Nat) : Line :=
  let s := scanLine text
  let inside := s.cells.zipIdx.flatMap fun (c, i) =>
    if rowOfChar rows i = k then
      c.codes.flatMap codeBytes ++
        (match rows[k]? with
          | some r => if r.first ≤ i then [c.char] else []
          | none => [])
    else []
  let tail := if rowOfChar rows s.cells.length = k then s.tail.flatMap codeBytes else []
  (inside ++ tail).take Config.maxLineBytes

end Sys2Proof.Machine
end

