-- ==== Sys2Proof/Machine/Directory.lean ====
section
/-! DEFINITION. Directory.lean: the layout unit's lookups against the row directory (R52, R53, R55), row identity (R54), anchors
(R56, R57) and the mark list (R63 to R65). All are functions of the rundown as it stands. -/

namespace Sys2Proof.Machine

/-- The total row count L (R52, R55). -/
def totalRows (stories : List Story) : Nat := (stories.map Story.rowCount).sum

/-- The story with an id, if it is in the rundown. -/
def findStory (stories : List Story) (id : Nat) : Option Story := stories.find? fun st => st.id == id

/-- The start row of the story with an id (R52, R55); for a SKIPPED story, the row at which its rows would begin. -/
def startRow : List Story → Nat → Nat
  | [], _ => 0
  | st :: rest, id => if st.id = id then 0 else st.rowCount + startRow rest id

/-- The end row of a story: the row after its last (R55). -/
def endRow (stories : List Story) (st : Story) : Nat := startRow stories st.id + st.rowCount

/-- The story that row `r` lies in, and the row within it (R53). -/
def storyAtRow : List Story → Nat → Option (Story × Nat)
  | [], _ => none
  | st :: rest, r => if r < st.rowCount then some (st, r) else storyAtRow rest (r - st.rowCount)

/-- The identity of row `r` (R54); none outside the script. -/
def rowIdentity (stories : List Story) (generation : BitVec 16) (r : Nat) : Option RowIdentity :=
  (storyAtRow stories r).map fun (st, k) => ⟨st.id, st.revision, k, generation⟩

/-- What row `k` of a story is, from its directory entry (R53). -/
def rowPlace (st : Story) (k : Nat) : Option RowPlace := st.dir.bind fun e => e.place k

/-- The break list of a story's line; a single empty row where the story has no such line. -/
def lineRows (st : Story) (l : Nat) : List RowSpan :=
  match st.dir with
  | some e => e.lines.getD l [⟨0, 0⟩]
  | none => [⟨0, 0⟩]

/-- The text of a story's line. -/
def lineText (st : Story) (l : Nat) : Line := st.chain.getD l []

/-- The row within a story of character `i` of its line `l` (R57). -/
def rowOfLineChar (st : Story) (l i : Nat) : Nat :=
  match st.dir with
  | some e => e.lineRow l + rowOfChar (lineRows st l) i
  | none => 0

/-- The row of a line (R55): the row that holds character 0 of line `l` of a story with rows; none when the story has no rows or
`l` is past its last line. -/
def rowOfLine (stories : List Story) (st : Story) (l : Nat) : Option Nat :=
  if st.rowCount = 0 ∨ st.chain.length ≤ l then none else some (startRow stories st.id + rowOfLineChar st l 0)

/-- The last story that has rows. -/
def lastWithRows (stories : List Story) : Option Story := stories.reverse.find? fun st => decide (0 < st.rowCount)

/-- The first story that has rows. -/
def firstWithRows (stories : List Story) : Option Story := stories.find? fun st => decide (0 < st.rowCount)

/-- The stories after the one with an id, in rundown order. -/
def storiesAfter : List Story → Nat → List Story
  | [], _ => []
  | st :: rest, id => if st.id = id then rest else storiesAfter rest id

/-- The stories before the one with an id, in rundown order. -/
def storiesBefore (stories : List Story) (id : Nat) : List Story := stories.takeWhile fun st => !(st.id == id)

/-! ## Anchors (R56, R57) -/

/-- Where a row of a story puts the reading point (R56 case 2). -/
def anchorPlaceOf : Option RowPlace → AnchorPlace
  | some .slug => .slug
  | some (.line l _ span) => .line l span.first
  | none => .slug

/-- R56: the anchor of a position. -/
def takeAnchor (stories : List Story) (p : Nat) : Option Anchor :=
  if totalRows stories = 0 then none
  else if p < totalRows stories * Config.fine then
    (storyAtRow stories (p / Config.fine)).map fun (st, k) =>
      ⟨st.id, anchorPlaceOf (rowPlace st k), p % Config.fine⟩
  else (lastWithRows stories).map fun st => ⟨st.id, .storyEnd, 0⟩

/-- R57: the row an anchor names in the layout as it stands. -/
def anchorRow (stories : List Story) (a : Anchor) : Nat :=
  match findStory stories a.story with
  | none => 0
  | some st => match a.place with
    | .slug => startRow stories st.id
    | .line l i => startRow stories st.id + rowOfLineChar st l i
    | .storyEnd => endRow stories st

/-- The anchor at the first row of a story, with fraction 0 (R45 case 1). -/
def firstRowAnchor (st : Story) : Anchor := ⟨st.id, if st.slug.isEmpty then .line 0 0 else .slug, 0⟩

/-- R44: an anchor in a story whose content an edit has replaced by this slug and chain. An END anchor stays at the end
(log 24). -/
def anchorInReplaced (a : Anchor) (slug : Line) (chain : List Line) : Anchor :=
  match a.place with
  | .line l i =>
      let l' := min l (chain.length - 1)
      { a with place := .line l' (min i (visibleCount (chain.getD l' []))) }
  | .slug => if slug.isEmpty then { a with place := .line 0 0 } else a
  | .storyEnd => a

/-- R45: an anchor whose story an edit has taken away, placed in the rundown after the change. `old` is the rundown before. -/
def anchorAfterLoss (old new : List Story) (a : Anchor) : Option Anchor :=
  let after := (storiesAfter old a.story).filterMap fun st => findStory new st.id
  match firstWithRows after with
  | some st => some (firstRowAnchor st)
  | none => (lastWithRows new).map fun st => ⟨st.id, .storyEnd, 0⟩

/-- R44, R45: the anchor as the edit leaves it, for the rundown before and after. A story that is moved takes an END anchor with it,
so that the position follows by R57 and the on-air id by R8 (log 42). -/
def placeAnchor (e : Edit) (old new : List Story) (a : Anchor) : Option Anchor :=
  if e.story = a.story then
    match e.body with
    | .replace slug chain => some (anchorInReplaced a slug chain)
    | .delete => anchorAfterLoss old new a
    | .skip => anchorAfterLoss old new a
    | .insert _ _ _ => some a
    | .move _ => some a
    | .unskip => some a
  else some a

/-! ## The mark list (R63 to R65) -/

/-- The records of the marks that belong to character `i` of line `l`, disarmed (R63). -/
def charMarkRecords (st : Story) (start l i : Nat) (codes : List Code) : List MarkRecord :=
  (marksOf codes).zipIdx.map fun (cue, ordinal) =>
    ⟨(start + rowOfLineChar st l i) * Config.fine, cue, st.id, l, i, ordinal, false⟩

/-- The records of one line's marks, in text order, disarmed (R63). -/
def lineMarkRecords (st : Story) (start l : Nat) (text : Line) : List MarkRecord :=
  let s := scanLine text
  (s.cells.zipIdx.flatMap fun (c, i) => charMarkRecords st start l i c.codes)
    ++ charMarkRecords st start l s.cells.length s.tail

/-- The records of one story's marks, disarmed; none for a story without rows (R63). -/
def storyMarkRecords (start : Nat) (st : Story) : List MarkRecord :=
  if st.rowCount = 0 then [] else st.chain.zipIdx.flatMap fun (text, l) => lineMarkRecords st start l text

/-- The records of every mark in stories with rows, ordered by R63, disarmed; `start` is the first story's start row. -/
def markRecords : Nat → List Story → List MarkRecord
  | _, [] => []
  | start, st :: rest => storyMarkRecords start st ++ markRecords (start + st.rowCount) rest

/-- Whether two records are of the same mark (R63: matched by story, line, character and ordinal). -/
def sameMark (a b : MarkRecord) : Bool :=
  a.story == b.story && a.line == b.line && a.char == b.char && a.ordinal == b.ordinal

/-- R64, R124: the mark list for a rundown. The records of the story `fresh` are new and armed when they lie ahead of `p`; every
other is carried with its armed state. -/
def rebuildMarks (old : List MarkRecord) (stories : List Story) (fresh : Option Nat) (p : Nat) : List MarkRecord :=
  (markRecords 0 stories).map fun m =>
    if fresh = some m.story then { m with armed := decide (p < m.position) }
    else match old.find? (sameMark m) with
      | some o => { m with armed := o.armed }
      | none => { m with armed := decide (p < m.position) }

/-- The marks a forward advance from `p` to `p'` passes, in list order (R65 cases 1 and 2). -/
def marksPassed (marks : List MarkRecord) (p p' : Nat) : List MarkRecord :=
  marks.filter fun m => decide (p < m.position) && decide (m.position ≤ p')

/-- The cue ids of the marks that lie in row `r`, in text order (R53, R65 case 3). -/
def rowMarks (marks : List MarkRecord) (r : Nat) : List Nat :=
  (marks.filter fun m => m.position == r * Config.fine).map MarkRecord.cue

/-! ## What a row is (R53) -/

/-- The layout unit's answer for a row within the script (R53). `line` is `none` for a slug row. -/
structure RowAnswer where
  identity : RowIdentity
  line : Option Nat
  first : Nat
  count : Nat
  style : Style
  marks : List Nat
deriving DecidableEq, Repr

/-- R53: the answer for row `r`, which is row `k` of the story `st`. -/
def answerInStory (layout : Layout) (st : Story) (k r : Nat) : RowAnswer :=
  let identity : RowIdentity := ⟨st.id, st.revision, k, layout.generation⟩
  match rowPlace st k with
  | some (.line l row span) =>
      { identity := identity, line := some l, first := span.first, count := span.count,
        style := styleAtRow (lineRows st l) (lineText st l) row, marks := rowMarks layout.marks r }
  | _ =>
      { identity := identity, line := none, first := 0, count := min st.slug.length layout.columns, style := ⟨0, true⟩,
        marks := [] }

/-- R53: the answer for row `r`; none, "no row", outside the script. -/
def rowAnswer (stories : List Story) (layout : Layout) (r : Nat) : Option RowAnswer :=
  (storyAtRow stories r).map fun (st, k) => answerInStory layout st k r

end Sys2Proof.Machine
end

