-- ==== Sys2Proof/Machine/Ops.lean ====
section
/-! DEFINITION. Ops.lean: the shared operations every block uses: indexed records, the notice queue (R163), replies (R162), the
transmitter's choice (R165), the frame source in use (R89, R90), changes of scroll state (R72) and story states (R8 to R10). -/

namespace Sys2Proof.Machine

/-! ## Indexed records -/

/-- A vector with entry `i` changed by `f`. -/
def upd {α : Type} {n : Nat} (v : Vector α n) (i : Fin n) (f : α → α) : Vector α n := v.set i.val (f v[i]) i.isLt

/-- A vector with every entry changed by `f`. -/
def updAll {α β : Type} {n : Nat} (v : Vector α n) (f : α → β) : Vector β n := ⟨⟨v.toList.map f⟩, by simp⟩

/-- Change one port record. -/
def State.modPort (s : State) (n : Fin 6) (f : Port → Port) : State :=
  { s with hub := { s.hub with ports := upd s.hub.ports n f } }

/-- Change one head. -/
def State.modHead (s : State) (h : Fin 4) (f : Head → Head) : State := { s with heads := upd s.heads h f }

/-- Change one cue line. -/
def State.modLine (s : State) (l : Fin 8) (f : CueLine → CueLine) : State :=
  { s with cues := { s.cues with lines := upd s.cues.lines l f } }

/-- The total row count L of the state (R52). -/
def State.rows (s : State) : Nat := totalRows s.store.stories

/-- Whether the layout unit is REFLOWING (R48). -/
def State.reflowing (s : State) : Bool := s.layout.target.isSome

/-! ## Notices and replies -/

/-- R163: a notice is raised. It joins the queue at its end, or is lost and counted, to at most 255. -/
def raise (n : Notice) (s : State) : State :=
  if s.link.notices.length < Config.noticeQueueSize then
    { s with link := { s.link with notices := s.link.notices ++ [n] } }
  else { s with link := { s.link with lost := min (s.link.lost + 1) 255 } }

/-- R162: a reply joins the reply queue. Its code is the command's plus 40h. -/
def answer (code seq : Byte) (result : Result) (truncated badMark : Bool) (body : ReplyBody) (s : State) : State :=
  { s with link := { s.link with replies := s.link.replies ++ [⟨code + 0x40, seq, result, truncated, badMark, body⟩] } }

/-- A reply with both flags clear (R162, R171). -/
def reply (code seq : Byte) (result : Result) (body : ReplyBody) (s : State) : State :=
  answer code seq result false false body s

/-- A reply that ends after its flags with a reason (R170). -/
def refuse (code seq : Byte) (r : Reason) (s : State) : State := reply code seq (.reason r) .bare s

/-- R165: an idle transmitter chooses the next frame: the oldest reply, else the oldest notice, else the report in the slot.
Once the reply to a RESTART has been sent, only the full reset follows (R169). -/
def pump (s : State) : State :=
  match s.link.sending with
  | some _ => s
  | none =>
      if s.link.restart = .due then s
      else if s.link.replies ≠ [] then { s with link := { s.link with sending := some .reply } }
      else if s.link.notices ≠ [] then { s with link := { s.link with sending := some .notice } }
      else match s.link.slot with
        | some r => { s with link := { s.link with sending := some (.report r), slot := none } }
        | none => s

/-! ## The frame source in use (R89, R90) -/

/-- The period of a rate in units of 1/60,000 s (R89). -/
def Rate.period : Rate → Nat
  | .hz50 => 1200
  | .hz5994 => 1001
  | .hz60 => 1000

/-- R89: whether a head can serve as frame source. -/
def Head.canServe (h : Head) : Bool :=
  (h.state == .starting || h.state == .running || h.state == .blanked) && !h.syncLost

/-- R89: the source in use that the setting and the selected head give. -/
def wantedSource (s : State) : FrameSource :=
  match s.scroll.setting with
  | .internal r => .internal r
  | .head n => if s.heads[n].canServe then .head n else .internal s.heads[n].geometry.rate

/-- R90: what a change to `src` makes of the internal timer: started with its first expiry one period later, or stopped. -/
def timerFor : FrameSource → Option Nat
  | .internal _ => some 0
  | .head _ => none

/-- R89, R90: the source in use is decided afresh. -/
def refreshSource (s : State) : State :=
  if wantedSource s = s.scroll.inUse then s
  else
    { s with scroll :=
        { s.scroll with inUse := wantedSource s, frameTimer := timerFor (wantedSource s) } }

/-- The rate of a source in use: the internal timer's, or the head's nominal rate (R88, log 25). -/
def sourceRate (s : State) : FrameSource → Rate
  | .internal r => r
  | .head n => s.heads[n].geometry.rate

/-! ## Scroll state changes (R72) -/

/-- R72: a change of scroll state raises one SCROLL_STATE notice with the position and velocity after it; no change, no notice. -/
def setScrollState (new : ScrollState) (cause : ScrollCause) (s : State) : State :=
  if s.scroll.state = new then s
  else
    raise (.scrollState new s.scroll.state s.scroll.p s.scroll.v cause)
      { s with scroll := { s.scroll with state := new } }

/-! ## Story states (R8 to R10) -/

/-- R8: the reading row for the states. -/
def readingRow (p rows : Nat) : Nat := if p < rows * Config.fine then p / Config.fine else rows - 1

/-- R8: the state of a story with start row `start`, for the reading row. -/
def storyStateAt (reading start : Nat) (st : Story) : StoryState :=
  if st.state = .skipped then .skipped
  else if start + st.rowCount ≤ reading then .read
  else if start ≤ reading then .onAir
  else .ready

/-- R8 over the rundown from start row `start` on. -/
def recomputeFrom (reading : Nat) : Nat → List Story → List Story
  | _, [] => []
  | start, st :: rest =>
      { st with state := storyStateAt reading start st } :: recomputeFrom reading (start + st.rowCount) rest

/-- The id of the story that is ON_AIR, or 0 (R10). -/
def onAirOf (stories : List Story) : Nat :=
  match stories.find? fun st => st.state == .onAir with
  | some st => st.id
  | none => 0

/-- R9, R10: every story state is recomputed, and a change of the on-air id raises ON_AIR. -/
def recomputeStates (s : State) : State :=
  let stories := recomputeFrom (readingRow s.scroll.p s.rows) 0 s.store.stories
  let id := onAirOf stories
  let s' := { s with store := { s.store with stories := stories, onAirId := id } }
  if id = s.store.onAirId then s' else raise (.onAir id) s'

end Sys2Proof.Machine
end

