-- ==== Sys2Proof/Machine/HeadOps.lean ====
section
/-! DEFINITION. HeadOps.lean: the display heads' band and bias (R137, R138), head states (R133, R135), the frame start (R139 to
R142), and the render unit: the arbiter's choice (R147 to R149), the beginning of a job (R150) and its completion (R156). -/

namespace Sys2Proof.Machine

/-- Lines of a row on the glass (R129). -/
def Geometry.pitch (g : Geometry) : Nat := 32 * g.scale + g.leading

/-- V: rows in the window (R129). -/
def Geometry.windowRows (g : Geometry) : Nat := g.height / g.pitch

/-- Whether a geometry holds rows of `c` characters (R47, R130 step 5). -/
def Geometry.holds (g : Geometry) (c : Nat) : Bool := decide (c * 16 * g.scale + g.margin ≤ g.width)

/-- R47, R130 step 5: a geometry holds the count in force and, during a reflow, the target. -/
def Geometry.holdsRows (g : Geometry) (l : Layout) : Bool :=
  g.holds l.columns && (match l.target with
    | some c => g.holds c
    | none => true)

/-! ## The band (R137, R138) -/

/-- A band with no block, every slot EMPTY and no request (R137). -/
def Head.clearBand (h : Head) : Head :=
  { h with halves := Vector.replicate 2 BandHalf.cleared, slots := Vector.replicate 32 .empty }

/-- R138: Δ is added to the ring bias; a bias out of range becomes 0 and empties the band. -/
def Head.addBias (delta : Int) (h : Head) : Head :=
  if h.bias + delta < Config.biasMin ∨ Config.biasMax < h.bias + delta then { h.clearBand with bias := 0 }
  else { h with bias := h.bias + delta }

/-- R58: Δ is handed to every head, in every state. -/
def addBiasAll (delta : Int) (s : State) : State := { s with heads := updAll s.heads (Head.addBias delta) }

/-- The block of a row (R137). -/
def blockOf (bias row : Int) : Int := (row - bias) / 16

/-- The slot of a row (R137). -/
def slotOf (bias row : Int) : Fin 32 := Fin.ofNat 32 ((row - bias) % 32).toNat

/-- The half a slot belongs to (R137). -/
def halfOf (slot : Fin 32) : Fin 2 := if slot.val < 16 then 0 else 1

/-- The place in the ring, q, that a slot stands for; none when its half holds no block (R137). -/
def Head.slotPlace (h : Head) (slot : Fin 32) : Option Int :=
  (h.halves[halfOf slot]).block.map fun b => 16 * b + ((slot.val : Int) - 16 * ((halfOf slot).val : Int))

/-- The row a slot stands for (R137). -/
def Head.slotRow (h : Head) (slot : Fin 32) : Option Int := (h.slotPlace slot).map fun q => q + h.bias

/-- The slots of a half (R137). -/
def halfSlots (half : Fin 2) : List (Fin 32) := (List.finRange 32).filter fun i => halfOf i == half

/-- Both remaining sets emptied (R134, R135). -/
def Head.clearRequests (h : Head) : Head := { h with halves := updAll h.halves fun x => { x with remaining := [] } }

/-! ## Head states (R133, R135) -/

/-- R133: a head changes state, with its HEAD_STATE notice, and the frame source is decided afresh. -/
def setHeadState (h : Fin 4) (new : HeadState) (s : State) : State :=
  refreshSource (raise (.headState h new s.heads[h].state) (s.modHead h fun x => { x with state := new }))

/-- R142: a degraded flag that is set is cleared with HEAD_CLEAR. -/
def clearDegraded (h : Fin 4) (s : State) : State :=
  if s.heads[h].degraded then raise (.headClear h) (s.modHead h fun x => { x with degraded := false }) else s

/-- R132: a pending appearance is put in force. -/
def Head.takeAppearance (h : Head) : Head :=
  match h.pendingAppearance with
  | some a => { h with appearance := a, pendingAppearance := none }
  | none => h

/-- What a head loses on entering DISABLED (R135), besides its degraded flag; a pending appearance comes into force (log 18). -/
def Head.disable (h : Head) : Head :=
  { h.clearBand.takeAppearance with syncLost := false, syncTimer := none, frame := none }

/-- R135: a head enters DISABLED. -/
def enterDisabled (h : Fin 4) (s : State) : State :=
  clearDegraded h (setHeadState h .disabled (s.modHead h Head.disable))

/-- Whether a row of this head is in render (R135). -/
def inRender (h : Fin 4) (s : State) : Bool :=
  match s.job with
  | some j => j.head == h
  | none => false

/-! ## The arbiter (R147 to R149) -/

/-- R148: whether a slot's row is visible: its place in the ring lies in the window of the head's last frame start, and its row
in the script. -/
def slotVisible (s : State) (h : Fin 4) (slot : Fin 32) : Bool :=
  let head := s.heads[h]
  match head.slotPlace slot with
  | none => false
  | some q =>
      decide (head.window.topRow - head.window.bias ≤ q) && decide (q ≤ head.window.bottomRow - head.window.bias)
        && decide (0 ≤ q + head.bias) && decide (q + head.bias < s.rows)

/-- The visible slots a half's remaining set still holds (R148). -/
def visibleLeft (s : State) (h : Fin 4) (half : Fin 2) : List (Fin 32) :=
  (s.heads[h].halves[half]).remaining.filter (slotVisible s h)

/-- R148: the rank of a request by class and visible rows left; the lower is served first. -/
def requestRank (s : State) (h : Fin 4) (half : Fin 2) : Nat × Nat :=
  if (s.heads[h].halves[half]).urgent then
    if visibleLeft s h half = [] then (1, 0) else (0, (visibleLeft s h half).length)
  else (2, 0)

/-- Every half of every head, in the order of R148 keys 3 and 4. -/
def allHalves : List (Fin 4 × Fin 2) := (List.finRange 4).flatMap fun h => [(h, 0), (h, 1)]

/-- The render requests: the halves whose remaining set is not empty (R141, R147). -/
def requests (s : State) : List (Fin 4 × Fin 2) := allHalves.filter fun (h, half) => !(s.heads[h].halves[half]).remaining.isEmpty

/-- Whether one rank comes before another. -/
def rankBefore (a b : Nat × Nat) : Bool := decide (a.1 < b.1) || (a.1 == b.1 && decide (a.2 < b.2))

/-- The first of the elements of a list whose key comes before no other's. -/
def firstBy {α : Type} (before : α → α → Bool) : List α → Option α
  | [] => none
  | x :: rest => match firstBy before rest with
    | none => some x
    | some y => if before y x then some y else some x

/-- The request that R148 ranks first. -/
def bestRequest (s : State) : Option (Fin 4 × Fin 2) :=
  firstBy (fun a b => rankBefore (requestRank s a.1 a.2) (requestRank s b.1 b.2)) (requests s)

/-- R149: the order of two slots of a request: nearer the reading row of the head's last window, then lower. -/
def slotBefore (head : Head) (nearest : Bool) (a b : Fin 32) : Bool :=
  match head.slotPlace a, head.slotPlace b with
  | some qa, some qb =>
      let reading := head.window.readingRow - head.window.bias
      let da := (qa - reading).natAbs
      let db := (qb - reading).natAbs
      if nearest && da != db then decide (da < db) else decide (qa < qb)
  | _, _ => false

/-- R149: the slot chosen within a request. -/
def chooseSlot (s : State) (h : Fin 4) (half : Fin 2) : Option (Fin 32) :=
  if visibleLeft s h half = [] then firstBy (slotBefore s.heads[h] false) (s.heads[h].halves[half]).remaining
  else firstBy (slotBefore s.heads[h] true) (visibleLeft s h half)

/-- The bytes a row job draws (R150 step 3): the row's codes and characters, or the slug cut to C. -/
def rowBytes (columns : Nat) (st : Story) (k : Nat) : Line :=
  match rowPlace st k with
  | some (.line l row _) => rowContent (lineRows st l) (lineText st l) row
  | _ => st.slug.take columns

/-- What the render unit draws for a row (R150): its bytes, from the layout unit's answer (R53) the slug flag and the style at the
start, and the arrow where the mark list holds a record at the row's mark position. -/
def rowDrawing (s : State) (g : Geometry) (st : Story) (k r : Nat) : Drawing :=
  let answer := answerInStory s.layout st k r
  { content := rowBytes s.layout.columns st k
    slugRow := answer.line.isNone
    colour := answer.style.colour
    emphasis := answer.style.emphasis
    scale := g.scale
    margin := g.margin
    columns := s.layout.columns
    arrow := !(rowMarks s.layout.marks r).isEmpty }

/-- R150: a job begins for a slot that stands for row `r` of the script. -/
def beginJob (h : Fin 4) (slot : Fin 32) (r : Nat) (s : State) : State :=
  match storyAtRow s.store.stories r with
  | none => { s with job := none }
  | some (st, k) =>
      let tag : RowIdentity := ⟨st.id, st.revision, k, s.layout.generation⟩
      { s.modHead h (fun x => { x with slots := upd x.slots slot fun _ => .rendering tag }) with
        job := some ⟨h, slot, r, tag, rowDrawing s s.heads[h].geometry st k r⟩ }

/-- A slot is taken from its remaining set (R149). -/
def Head.takeSlot (h : Head) (half : Fin 2) (slot : Fin 32) : Head :=
  { h with halves := upd h.halves half fun x => { x with remaining := x.remaining.filter fun i => !(i == slot) } }

/-- R147 to R149: the arbiter's choice, made again while the chosen slot's row lies outside the script. Every turn takes a slot
from a remaining set, so `fuel` above their sizes does not run out. -/
def arbiter : Nat → State → State
  | 0, s => { s with job := none }
  | fuel + 1, s =>
      match bestRequest s with
      | none => { s with job := none }
      | some (h, half) =>
          match chooseSlot s h half with
          | none => { s with job := none }
          | some slot =>
              let row := s.heads[h].slotRow slot
              let s' := s.modHead h fun x => x.takeSlot half slot
              match row with
              | none => arbiter fuel s'
              | some r => if 0 ≤ r ∧ r < s.rows then beginJob h slot r.toNat s' else arbiter fuel s'

/-- The slots waiting in all remaining sets. -/
def waitingSlots (s : State) : Nat := (allHalves.map fun (h, half) => (s.heads[h].halves[half]).remaining.length).sum

/-- R147: the arbiter chooses for a render unit that is free. -/
def chooseNext (s : State) : State := arbiter (waitingSlots s + 1) s

/-! ## The frame start (R139 to R142) -/

/-- R139: the strip line shown at output line 0. -/
def stripTop (g : Geometry) (p : Nat) : Int := ((p * g.pitch / Config.fine : Nat) : Int) - g.readingRow * g.pitch

/-- R139: the window a head takes. -/
def takeWindow (g : Geometry) (bias : Int) (p : Nat) : Window :=
  { topRow := stripTop g p / g.pitch
    bottomRow := (stripTop g p + g.windowRows * g.pitch - 1) / g.pitch
    readingRow := ((p / Config.fine : Nat) : Int)
    bias := bias }

/-- R140: the two blocks a head wants held. -/
def desiredBlocks (w : Window) (bias : Int) : Direction → Int × Int
  | .forward => (blockOf bias w.topRow, blockOf bias w.topRow + 1)
  | .backward => (blockOf bias w.bottomRow - 1, blockOf bias w.bottomRow)

/-- R140: the desired block of a half's parity. -/
def desiredFor (blocks : Int × Int) (half : Fin 2) : Int := if blocks.1 % 2 = (half.val : Int) then blocks.1 else blocks.2

/-- R140: a half takes the block desired of it; every slot is emptied when the block changes. -/
def takeBlock (blocks : Int × Int) (h : Head) (half : Fin 2) : Head :=
  if (h.halves[half]).block = some (desiredFor blocks half) then h
  else
    { h with
      halves := upd h.halves half fun x => { x with block := some (desiredFor blocks half), remaining := [] }
      slots := (halfSlots half).foldl (fun v i => upd v i fun _ => .empty) h.slots }

/-- The identity of the row a slot stands for; none when it lies outside the script (R141). -/
def slotIdentity (s : State) (h : Head) (slot : Fin 32) : Option RowIdentity :=
  match h.slotRow slot with
  | some r => if 0 ≤ r then rowIdentity s.store.stories s.layout.generation r.toNat else none
  | none => none

/-- R141: a VALID slot whose tag differs from its row's identity becomes EMPTY; a slot whose row lies outside the script is left. -/
def freshSlot (identity : Option RowIdentity) : Slot → Slot
  | .valid tag pixels => if identity = none ∨ identity = some tag then .valid tag pixels else .empty
  | .rendering tag => .rendering tag
  | .empty => .empty

/-- R141: every mismatched slot of a head is emptied. -/
def emptyMismatched (s : State) (h : Head) : Head :=
  { h with slots := (List.finRange 32).foldl (fun v i => upd v i (freshSlot (slotIdentity s h i))) h.slots }

/-- Whether row `r` is a visible row of a window (R139). -/
def rowVisible (w : Window) (rows : Nat) (r : Int) : Bool :=
  decide (w.topRow ≤ r) && decide (r ≤ w.bottomRow) && decide (0 ≤ r) && decide (r < rows)

/-- R141: the remaining set of a half: its EMPTY slots that stand for a row within the script. -/
def remainingSlots (s : State) (h : Head) (half : Fin 2) : List (Fin 32) :=
  (halfSlots half).filter fun i => h.slots[i] == .empty && (slotIdentity s h i).isSome

/-- R141: whether a set holds a slot that stands for a visible row. -/
def holdsVisible (s : State) (h : Head) (slots : List (Fin 32)) : Bool :=
  slots.any fun i => match h.slotRow i with
    | some r => rowVisible h.window s.rows r
    | none => false

/-- R141: the remaining sets of both halves are rebuilt and classed; in BLANKED they are left empty. -/
def rebuildSets (s : State) (h : Head) : Head :=
  let h' := emptyMismatched s h
  let set (half : Fin 2) (x : BandHalf) : BandHalf :=
    let slots := if h.state = .blanked then [] else remainingSlots s h' half
    { x with remaining := slots, urgent := holdsVisible s h' slots }
  { h' with halves := #v[set 0 h'.halves[(0 : Fin 2)], set 1 h'.halves[(1 : Fin 2)]] }

/-- The visible rows of a window (R139): those of topRow..bottomRow within the script. -/
def visibleRows (w : Window) (rows : Nat) : List Int :=
  ((List.range (w.bottomRow - w.topRow + 1).toNat).map fun i => w.topRow + (i : Int)).filter (rowVisible w rows)

/-- R142: whether a visible row is ready: its slot is VALID with the row's identity as its tag. -/
def rowReady (s : State) (h : Head) (r : Int) : Bool :=
  match h.slots[slotOf h.bias r] with
  | .valid tag _ => decide (rowIdentity s.store.stories s.layout.generation r.toNat = some tag)
  | _ => false

/-- The visible rows that are ready, with their slots (R142, R143). -/
def readyRows (s : State) (h : Head) : List (Int × Fin 32) :=
  ((visibleRows h.window s.rows).filter (rowReady s h)).map fun r => (r, slotOf h.bias r)

/-- The number of visible rows not ready (R142). -/
def missingRows (s : State) (h : Head) : Nat := ((visibleRows h.window s.rows).filter fun r => !rowReady s h r).length

/-- Steps 1 to 3 of a frame start for a head that is STARTING, RUNNING or BLANKED (R139 to R141), at the sampled state. -/
def sampleFrame (s : State) (h : Head) : Head :=
  let w := takeWindow h.geometry h.bias s.scroll.p
  let blocks := desiredBlocks w h.bias s.scroll.direction
  rebuildSets s (takeBlock blocks (takeBlock blocks { h with window := w } 0) 1)

/-- R142: what a frame start judges by the head state, with its notices; the rows a RUNNING head scans out are noted (R143). -/
def judgeFrame (h : Fin 4) (s : State) : State :=
  let head := s.heads[h]
  let missing := missingRows s head
  let frame : ScanFrame := ⟨stripTop head.geometry s.scroll.p, readyRows s head⟩
  match head.state with
  | .starting =>
      if missing = 0 then setHeadState h .running (s.modHead h fun x => { x with frame := some frame }) else s
  | .running =>
      let s' := s.modHead h fun x => { x with frame := some frame }
      if missing = 0 then clearDegraded h s'
      else if head.degraded then s'
      else raise (.headDegraded h missing) (s'.modHead h fun x => { x with degraded := true })
  | .disabled => s
  | .blanked => s
  | .stopping => s

/-- R136: a frame start clears sync-lost, with its notice, and restarts the sync-loss timer. -/
def syncFrame (h : Fin 4) (s : State) : State :=
  let s' := s.modHead h fun x => { x with syncLost := false, syncTimer := some 0 }
  if s.heads[h].syncLost then refreshSource (raise (.syncState h true) s') else s'

/-- R89: a frame start of the head in use gives one scroll frame (log 6). -/
def giveFrame (h : Fin 4) (s : State) : State :=
  if s.scroll.inUse = .head h then { s with scroll := { s.scroll with framesOwed := s.scroll.framesOwed + 1 } } else s

/-- R139 to R142, R147: the head's own work at a frame start. -/
def headFrame (h : Fin 4) (s : State) : State :=
  if s.heads[h].state = .stopping then s
  else
    let s' := judgeFrame h (s.modHead h (sampleFrame s))
    let asks := s'.heads[h].halves.toList.any fun x => !x.remaining.isEmpty
    if asks && s'.job.isNone then chooseNext s' else s'

/-- R136, R139: a head's frame start. -/
def frameStart (h : Fin 4) (s : State) : State :=
  if s.heads[h].state = .disabled then s
  else headFrame h ((giveFrame h (syncFrame h s)).modHead h fun x => { x.takeAppearance with frame := none })

/-- R156: the render unit completes its job; the result is stored or discarded and the next job chosen. -/
def renderComplete (s : State) : State :=
  match s.job with
  | none => s
  | some j =>
      let freed := { s with job := none }
      let s' :=
        match s.heads[j.head].state with
        | .stopping => enterDisabled j.head freed
        | .disabled => freed
        | .starting | .running | .blanked =>
            match s.heads[j.head].slots[j.slot] with
            | .rendering _ =>
                freed.modHead j.head fun x => { x with slots := upd x.slots j.slot fun _ => .valid j.tag j.drawing }
            | _ => freed
      chooseNext s'

/-- The sync-loss limit in ms: three nominal frame periods, rounded up (R136). -/
def Rate.syncLimit : Rate → Nat
  | .hz50 => 60
  | .hz5994 => 51
  | .hz60 => 50

/-- R136: a head's sync-loss timer expires. -/
def syncLoss (h : Fin 4) (s : State) : State :=
  match s.heads[h].syncTimer with
  | none => s
  | some _ =>
      let s' := s.modHead h fun x => { x with syncLost := true, syncTimer := none }
      if s.heads[h].syncLost then s' else refreshSource (raise (.syncState h false) s')

end Sys2Proof.Machine
end

