-- ==== Sys2Proof/Machine/EditOps.lean ====
section
/-! DEFINITION. EditOps.lean: the store primitives (R3 to R7, R12), the protection window (R35, R36), the application of an edit
with its re-anchor (R43 to R45, R57, R58, R71), the pending edit list (R37 to R42) and the presenting of an edit (R31). -/

namespace Sys2Proof.Machine

/-- Whether a lever or pedal holds authority (R70, R103). -/
def leverHolds (s : State) : Bool :=
  match s.hub.holder with
  | some h => h.kind == .lever || h.kind == .pedal
  | none => false

/-! ## Placing a story (R5, R6) -/

/-- A story put directly before the one with id `x`; last when there is none. -/
def insertBefore (x : Nat) (st : Story) : List Story → List Story
  | [] => [st]
  | y :: rest => if y.id = x then st :: y :: rest else y :: insertBefore x st rest

/-- A story put directly after the one with id `x`; last when there is none. -/
def insertAfter (x : Nat) (st : Story) : List Story → List Story
  | [] => [st]
  | y :: rest => if y.id = x then y :: st :: rest else y :: insertAfter x st rest

/-- R5: a story put at a place. -/
def placeStory (place : Placement) (st : Story) (stories : List Story) : List Story :=
  match place with
  | .atEnd => stories ++ [st]
  | .before x => insertBefore x st stories
  | .after x => insertAfter x st stories

/-- The rundown without the record with an id (R5: removal). -/
def removeStory (stories : List Story) (id : Nat) : List Story := stories.eraseP fun st => st.id == id

/-- The rundown with the record with an id changed by `f`. -/
def mapStory : List Story → Nat → (Story → Story) → List Story
  | [], _, _ => []
  | st :: rest, id, f => if st.id = id then f st :: rest else st :: mapStory rest id f

/-- The id a placement names. -/
def Placement.reference : Placement → Option Nat
  | .atEnd => none
  | .before x => some x
  | .after x => some x

/-- R6: relocation; a place that names the moving story itself leaves the order. -/
def relocateStory (stories : List Story) (id : Nat) (place : Placement) : List Story :=
  if place.reference = some id then stories
  else match findStory stories id with
    | some st => placeStory place st (removeStory stories id)
    | none => stories

/-- Whether the story with an id is in the rundown. -/
def hasStory (stories : List Story) (id : Nat) : Bool := (findStory stories id).isSome

/-- Whether a placement's story is in the rundown (R22, R27, R33, R40). -/
def placeFound (stories : List Story) (place : Placement) : Bool :=
  match place.reference with
  | some x => hasStory stories x
  | none => true

/-! ## Store primitives with the layout of the affected story (R3 to R7, R43 steps 2 and 3) -/

/-- A story laid out at the column count `c`: its directory entry and row count, 0 while SKIPPED (R43 step 3, R51, R52). -/
def layStory (c : Nat) (st : Story) : Story :=
  if st.state = .skipped then { st with rowCount := 0, dir := none }
  else
    let e := layoutStory c st.slug st.chain
    { st with rowCount := e.rows, dir := some e }

/-- R3, R5: the record an insertion makes, READY until the recomputation that follows. -/
def newStory (c : Nat) (revision : BitVec 16) (pendingCount : Nat) (id : Nat) (slug : Line) (chain : List Line) : Story :=
  layStory c
    { id := id, slug := slug, state := .ready, revision := revision, chain := chain, rowCount := 0,
      markCount := chainMarks chain, pendingCount := pendingCount, dir := none }

/-- R3, R6, R16: a record with its content replaced. -/
def replaceContent (c : Nat) (slug : Line) (chain : List Line) (st : Story) : Story :=
  layStory c { st with slug := slug, chain := chain, revision := st.revision + 1, markCount := chainMarks chain }

/-- R7: a record put into SKIPPED. -/
def skipStory (c : Nat) (st : Story) : Story := layStory c { st with state := .skipped }

/-- R7: a record taken out of SKIPPED; R9 gives it its state. -/
def unskipStory (c : Nat) (st : Story) : Story := layStory c { st with state := .ready }

/-- The number of pending edits that name an id (R5, R37). -/
def pendingFor (pending : List PendingEdit) (id : Nat) : Nat := pending.countP fun r => r.edit.story == id

/-- The chain length of the story with an id; 0 when there is none. -/
def chainLength (stories : List Story) (id : Nat) : Nat :=
  match findStory stories id with
  | some st => st.chain.length
  | none => 0

/-- Whether the story with an id is SKIPPED. -/
def isSkipped (stories : List Story) (id : Nat) : Bool :=
  match findStory stories id with
  | some st => st.state == .skipped
  | none => false

/-- R5 to R7, R12: the store primitive of an edit's kind, with the layout of the affected story. Slots freed raise the free
count; a chain that becomes committed was reserved and does not change it. -/
def storePrimitive (c : Nat) (pending : List PendingEdit) (e : Edit) (st : Store) : Store :=
  match e.body with
  | .replace slug chain =>
      { st with
        stories := mapStory st.stories e.story (replaceContent c slug chain)
        edition := st.edition + 1
        freeCount := st.freeCount + chainLength st.stories e.story }
  | .insert place slug chain =>
      { st with
        stories :=
          placeStory place (newStory c st.insertions (pendingFor pending e.story) e.story slug chain) st.stories
        insertions := st.insertions + 1
        edition := st.edition + 1 }
  | .delete =>
      { st with
        stories := removeStory st.stories e.story
        edition := st.edition + 1
        freeCount := st.freeCount + chainLength st.stories e.story }
  | .move place => { st with stories := relocateStory st.stories e.story place, edition := st.edition + 1 }
  | .skip =>
      if isSkipped st.stories e.story then st
      else { st with stories := mapStory st.stories e.story (skipStory c), edition := st.edition + 1 }
  | .unskip =>
      if isSkipped st.stories e.story then
        { st with stories := mapStory st.stories e.story (unskipStory c), edition := st.edition + 1 }
      else st

/-- R64: the story whose mark records an edit makes new, judged in the rundown before it. -/
def newMarkStory (stories : List Story) (e : Edit) : Option Nat :=
  match e.body with
  | .replace _ _ => some e.story
  | .insert _ _ _ => some e.story
  | .unskip => if isSkipped stories e.story then some e.story else none
  | .delete => none
  | .move _ => none
  | .skip => none

/-! ## Applying an edit (R43) -/

/-- R30: the kind of an edit. -/
def Edit.kind (e : Edit) : EditKind :=
  match e.body with
  | .replace _ _ => .replace
  | .insert _ _ _ => .insert
  | .delete => .delete
  | .move _ => .move
  | .skip => .skip
  | .unskip => .unskip

/-- R57, R58, R71: the re-anchor after a change of the rows, from an anchor as R44 and R45 have placed it. `oldRow` is the
anchored row before. Without an anchor, or with an empty script, the position is 0 and no Δ is handed on. -/
def reanchor (anchor : Option Anchor) (oldRow : Nat) (s : State) : State :=
  match anchor with
  | some a =>
      if s.rows = 0 then { s with scroll := { s.scroll with p := 0 } }
      else
        let row := anchorRow s.store.stories a
        addBiasAll ((row : Int) - (oldRow : Int))
          { s with scroll := { s.scroll with p := row * Config.fine + a.fraction } }
  | none => { s with scroll := { s.scroll with p := 0 } }

/-- R71: the scroll state follows L between 0 and more than 0. `before` is L before the edit. -/
def followRows (before : Nat) (s : State) : State :=
  if before = 0 ∧ 0 < s.rows then
    setScrollState (if leverHolds s then .manual else .stopped) .script { s with scroll := { s.scroll with v := 0 } }
  else if 0 < before ∧ s.rows = 0 then
    setScrollState .idle .script { s with scroll := { s.scroll with p := 0, v := 0, direction := .forward } }
  else s

/-- R43 steps 1 to 5: the edit's change of the store, the layout, the marks and the position. -/
def changeScript (e : Edit) (s : State) : State :=
  let old := s.store.stories
  let oldRow := s.scroll.p / Config.fine
  let s1 := { s with store := storePrimitive s.layout.columns s.edit.pending e s.store }
  let anchor := (takeAnchor old s.scroll.p).bind fun a => placeAnchor e old s1.store.stories a
  let s2 := reanchor anchor oldRow s1
  let marks := rebuildMarks s.layout.marks s2.store.stories (newMarkStory old e) s2.scroll.p
  followRows (totalRows old) { s2 with layout := { s2.layout with marks := marks } }

/-- R43: an edit is applied; one from the pending edit list raises EDIT_APPLIED (step 6). -/
def applyEdit (fromPending : Bool) (e : Edit) (s : State) : State :=
  let s' := changeScript e s
  recomputeStates (if fromPending then raise (.editApplied e.tag e.kind e.story) s' else s')

/-! ## Checks of an edit (R27, R34, R40, R42) -/

/-- R27 step 3, R34: the total row count the script would have with the edit applied now; L for a kind that adds no rows. -/
def totalWith (e : Edit) (s : State) : Nat :=
  let stories := s.store.stories
  let c := s.layout.columns
  match e.body with
  | .replace slug chain =>
      match findStory stories e.story with
      | some st => if st.state = .skipped then s.rows else s.rows - st.rowCount + trialRows c slug chain
      | none => s.rows
  | .insert _ slug chain => s.rows + trialRows c slug chain
  | .unskip =>
      match findStory stories e.story with
      | some st => if st.state = .skipped then s.rows + trialRows c st.slug st.chain else s.rows
      | none => s.rows
  | .delete => s.rows
  | .move _ => s.rows
  | .skip => s.rows

/-- R27 step 3, R34, R40 case 3: whether the content an edit brings would take the script above 32,767 rows. -/
def overRowLimit (e : Edit) (s : State) : Bool :=
  match e.body with
  | .replace _ _ => decide (Config.maxRows < totalWith e s)
  | .insert _ _ _ => decide (Config.maxRows < totalWith e s)
  | .unskip => decide (Config.maxRows < totalWith e s)
  | .delete => false
  | .move _ => false
  | .skip => false

/-- Whether an edit's story must be in the rundown (R40 case 1). -/
def Edit.needsStory (e : Edit) : Bool :=
  match e.body with
  | .insert _ _ _ => false
  | _ => true

/-- The place an edit names, if its kind has one (R30). -/
def Edit.place (e : Edit) : Option Placement :=
  match e.body with
  | .insert place _ _ => some place
  | .move place => some place
  | _ => none

/-- The chain an edit carries (R37). -/
def Edit.chain (e : Edit) : List Line :=
  match e.body with
  | .replace _ chain => chain
  | .insert _ _ chain => chain
  | _ => []

/-- R27 steps 1 and 3, R40, R42 step 3: why an edit cannot be applied to the script as it stands, if it cannot. -/
def editFault (e : Edit) (s : State) : Option Reason :=
  if e.needsStory && !hasStory s.store.stories e.story then some .noStory
  else if !(match e.place with
      | some place => placeFound s.store.stories place
      | none => true) then some .noStory
  else if overRowLimit e s then some .rowLimit
  else none

/-- Slots come back to the pool (R12, R25). -/
def freeSlots (n : Nat) (s : State) : State := { s with store := { s.store with freeCount := s.store.freeCount + n } }

/-! ## The protection window (R35, R36) -/

/-- R35: whether a story is protected: a row of it lies in R-1..R+P. -/
def storyProtected (s : State) (id : Nat) : Bool :=
  let r := s.scroll.p / Config.fine
  match findStory s.store.stories id with
  | some st =>
      let start := startRow s.store.stories id
      decide (0 < st.rowCount) && decide (r < start + st.rowCount + 1) && decide (start ≤ r + s.edit.lookahead)
  | none => false

/-- R36: the row at which the story of a placement would begin; none when it names a story not in the rundown. -/
def placeRow (s : State) : Placement → Option Nat
  | .atEnd => some s.rows
  | .before x => (findStory s.store.stories x).map fun st => startRow s.store.stories st.id
  | .after x => (findStory s.store.stories x).map fun st => endRow s.store.stories st

/-- R36: an insertion row in R+1..R+P. -/
def inLookahead (s : State) (row : Option Nat) : Bool :=
  let r := s.scroll.p / Config.fine
  match row with
  | some i => decide (r + 1 ≤ i) && decide (i ≤ r + s.edit.lookahead)
  | none => false

/-- The row count of the story with an id. -/
def rowCountOf (stories : List Story) (id : Nat) : Nat :=
  match findStory stories id with
  | some st => st.rowCount
  | none => 0

/-- R36: the insertion row of an UNSKIP: the start row of its story in its present place. An unskip of a story that is not
SKIPPED is judged in the same way (R34: "like any other edit of its kind", log 39). -/
def unskipRow (s : State) (id : Nat) : Option Nat :=
  (findStory s.store.stories id).map fun st => startRow s.store.stories st.id

/-- R36 cases 1 to 4. An edit whose story or placement story has left the rundown is not protected (R39). -/
def heldByWindow (s : State) (e : Edit) : Bool :=
  match e.body with
  | .replace _ _ => storyProtected s e.story
  | .delete => storyProtected s e.story
  | .skip => storyProtected s e.story
  | .move place =>
      placeFound s.store.stories place
        && (storyProtected s e.story
          || (decide (0 < rowCountOf s.store.stories e.story) && inLookahead s (placeRow s place)))
  | .insert place _ _ => inLookahead s (placeRow s place)
  | .unskip => inLookahead s (unskipRow s e.story)

/-- R36: whether an edit that is not forced is deferred. -/
def mustDefer (s : State) (e : Edit) : Bool :=
  heldByWindow s e
    || (match findStory s.store.stories e.story with
      | some st => decide (0 < st.pendingCount)
      | none => false)

/-! ## The pending edit list (R37 to R40) -/

/-- A change of a story's pending count (R2, R37). -/
def bumpPending (f : Nat → Nat) (id : Nat) (s : State) : State :=
  { s with store :=
      { s.store with stories := mapStory s.store.stories id fun st => { st with pendingCount := f st.pendingCount } } }

/-- R38: a deferred edit joins the list at its end, with the next arrival number. -/
def joinPending (e : Edit) (s : State) : State :=
  bumpPending (· + 1) e.story
    { s with edit :=
        { s.edit with
          pending := s.edit.pending ++ [⟨e, chainMarks e.chain, s.edit.nextArrival⟩]
          nextArrival := s.edit.nextArrival + 1 } }

/-- A record leaves the list, and its story's pending count falls by 1 (R37). -/
def leavePending (r : PendingEdit) (s : State) : State :=
  bumpPending (· - 1) r.edit.story
    { s with edit := { s.edit with pending := s.edit.pending.filter fun x => !(x.arrival == r.arrival) } }

/-- R39 Clear, R40: a record leaves the list and is applied, or discarded with its chain freed. -/
def settlePending (r : PendingEdit) (s : State) : State :=
  let s' := leavePending r s
  match editFault r.edit s' with
  | some reason => raise (.editDiscarded r.edit.tag reason) (freeSlots r.edit.chain.length s')
  | none => applyEdit true r.edit s'

/-- R39 Blocked: an older record for the same story is still in the list. -/
def blocked (r : PendingEdit) (s : State) : Bool :=
  s.edit.pending.any fun x => x.edit.story == r.edit.story && decide (x.arrival < r.arrival)

/-- R39: one record's turn in a pass; the flag says whether it was applied or discarded. -/
def releaseOne (acc : State × Bool) (arrival : Nat) : State × Bool :=
  match acc.1.edit.pending.find? fun x => x.arrival == arrival with
  | none => acc
  | some r => if blocked r acc.1 || heldByWindow acc.1 r.edit then acc else (settlePending r acc.1, true)

/-- R39: one pass over the list in arrival order. -/
def releasePass (s : State) : State × Bool := (s.edit.pending.map PendingEdit.arrival).foldl releaseOne (s, false)

/-- R39: passes until one applies and discards nothing. Every other pass shortens the list, so `fuel` above its length does not
run out. -/
def releaseLoop : Nat → State → State
  | 0, s => s
  | fuel + 1, s =>
      let r := releasePass s
      if r.2 then releaseLoop fuel r.1 else r.1

/-- R39: the release of pending edits; it does not run during a reflow. -/
def release (s : State) : State := if s.reflowing then s else releaseLoop (s.edit.pending.length + 1) s

/-! ## Presenting an edit (R31, R42) -/

/-- What became of an edit that was presented (R31). -/
inductive Presented where
  | applied
  | deferred
  | refused (r : Reason)
deriving DecidableEq, Repr

/-- R42 step 2: every pending edit of a story is applied or discarded, in arrival order. -/
def settleAllFor (id : Nat) (s : State) : State :=
  (s.edit.pending.filter fun r => r.edit.story == id).foldl (fun s r => settlePending r s) s

/-- R42: a forced edit, its own checks passed. -/
def forceEdit (e : Edit) (s : State) : State × Presented :=
  let s' := settleAllFor e.story s
  match editFault e s' with
  | some r => (freeSlots e.chain.length s', .refused r)
  | none => (release (applyEdit false e s'), .applied)

/-- R31: an edit is presented: forced, deferred or refused for want of room, or applied at once. -/
def present (force : Bool) (e : Edit) (s : State) : State × Presented :=
  if force then forceEdit e s
  else if mustDefer s e then
    if Config.maxPending ≤ s.edit.pending.length then (freeSlots e.chain.length s, .refused .editQueueFull)
    else (joinPending e s, .deferred)
  else (release (applyEdit false e s), .applied)

end Sys2Proof.Machine
end

