-- ==== Sys2Proof/Machine/CueOps.lean ====
section
/-! DEFINITION. CueOps.lean: cue line operations (R125, R126), the firing of marks (R118, R119, R121), re-arming (R122) and the
arming around a jump (R123). -/

namespace Sys2Proof.Machine

/-- The level of a cue line: high exactly when latched high or pulsing (R125). -/
def CueLine.level (l : CueLine) : Bool := l.latch || decide (0 < l.pulse)

/-- R126: SET. -/
def CueLine.set (l : CueLine) : CueLine := { l with latch := true }

/-- R126: CLEAR. -/
def CueLine.clear (_ : CueLine) : CueLine := ⟨false, 0⟩

/-- R126: PULSE for `ms`. -/
def CueLine.retrigger (ms : Nat) (l : CueLine) : CueLine := { l with pulse := ms }

/-- R125: the pulse end. -/
def CueLine.pulseEnd (l : CueLine) : CueLine := { l with pulse := 0 }

/-- A value clamped to `lo`..`hi`. -/
def clampInt (lo hi x : Int) : Int := max lo (min hi x)

/-- R69: a new cruise speed clamped to -Vmax..+Vmax. -/
def setCruise (x : Int) (s : State) : State :=
  { s with scroll := { s.scroll with cruise := clampInt (-(s.scroll.vmax : Int)) s.scroll.vmax x } }

/-- R119 step 3: one action is carried out. -/
def runAction (s : State) : CueAction → State
  | .pause => s
  | .cruise x => setCruise x s
  | .pulse l steps => s.modLine l (CueLine.retrigger (steps * 10))
  | .set l => s.modLine l CueLine.set
  | .clear l => s.modLine l CueLine.clear

/-- The action list of a cue, empty when it is undefined (R115). -/
def cueActions (s : State) (cue : Nat) : List CueAction :=
  if h : 1 ≤ cue ∧ cue ≤ 64 then s.cues.defs[cue - 1]'(by omega) else []

/-- The mark list with the records for which `f` holds given an armed state. -/
def armWhere (f : MarkRecord → Bool) (armed : Bool) (marks : List MarkRecord) : List MarkRecord :=
  marks.map fun m => if f m then { m with armed := armed } else m

/-- A change of the mark list. -/
def State.setMarks (s : State) (marks : List MarkRecord) : State := { s with layout := { s.layout with marks := marks } }

/-- R119, R121: one record fires. -/
def fireMark (s : State) (m : MarkRecord) : State :=
  let disarmed := s.setMarks (armWhere (sameMark m) false s.layout.marks)
  let actions := cueActions disarmed m.cue
  raise (.cuePassed m.cue m.story m.line m.char m.position actions.isEmpty) (actions.foldl runAction disarmed)

/-- R118: every armed mark of a forward advance fires, in list order. -/
def fireMarks (p p' : Nat) (s : State) : State :=
  ((marksPassed s.layout.marks p p').filter MarkRecord.armed).foldl fireMark s

/-- R122: the re-arm check. -/
def rearm (p' : Nat) (s : State) : State :=
  s.setMarks (armWhere (fun m => decide (p' + Config.fine < m.position)) true s.layout.marks)

/-- R118, R122: the cue unit takes an advance report. -/
def takeAdvance (p p' : Nat) (s : State) : State := rearm p' (if p < p' then fireMarks p p' s else s)

/-- R123: the armed state of a mark around a jump to `p`, in three bands. -/
def jumpArming (p : Nat) (m : MarkRecord) : MarkRecord :=
  if m.position ≤ p then { m with armed := false }
  else if m.position ≤ p + Config.fine then m
  else { m with armed := true }

/-- R65 case 1, R78: whether a mark stops the scroll: armed, and its cue has a PAUSE action. -/
def isPauseMark (s : State) (m : MarkRecord) : Bool := m.armed && (cueActions s m.cue).contains .pause

end Sys2Proof.Machine
end

