-- ==== Sys2Proof/Machine/ScrollOps.lean ====
section
/-! DEFINITION. ScrollOps.lean: the demand (R73, R74), the scroll frame (R76 to R79), position reports (R164), and jumps (R86,
R87). -/

namespace Sys2Proof.Machine

/-! ## Demand (R73, R74) -/

/-- R74 step 1: the magnitude with the dead zone taken out. -/
def pastDeadZone (dead m : Nat) : Nat := if m ≤ dead then 0 else (m - dead) * 128 / (128 - dead)

/-- R74 step 2, R75: the curve speed at a normalized magnitude. -/
def curveSpeed (curve : Vector Nat 9) (m' : Nat) : Nat :=
  let q := fun k => curve.toList.getD k 0
  if m' = 128 then q 8 else q (m' / 16) + (q (m' / 16 + 1) - q (m' / 16)) * (m' % 16) / 16

/-- R74: the lever demand of a port whose last value is a deflection. -/
def leverDemand (curve : Vector Nat 9) (vmax : Nat) (port : Port) : Int :=
  match port.value with
  | .deflection negative m =>
      let speed := min (curveSpeed curve (pastDeadZone port.dead m) * port.gain / 64) vmax
      if negative then (if port.reverse then -(speed : Int) else 0) else speed
  | .none => 0
  | .detents _ => 0

/-- R73: the demand of a scroll frame. -/
def demand (s : State) : Int :=
  match s.scroll.state with
  | .idle | .stopped | .held => 0
  | .cruise => clampInt (-(s.scroll.vmax : Int)) s.scroll.vmax s.scroll.cruise
  | .manual =>
      match s.hub.holder with
      | some h => leverDemand s.scroll.curve s.scroll.vmax s.hub.ports[h.port]
      | none => 0

/-! ## The scroll frame (R76 to R79) -/

/-- The magnitude `x` with the sign of `d`. -/
def withSign (d : Int) (x : Int) : Int := if d < 0 then -x else x

/-- R76: the velocity step toward the demand `d` under the limits `a` and `b`. -/
def velocityStep (a b : Nat) (v d : Int) : Int :=
  if v = 0 then withSign d (min d.natAbs a)
  else if 0 < v * d then
    if v.natAbs < d.natAbs then withSign v (min ((v.natAbs : Int) + a) d.natAbs)
    else withSign v (max ((v.natAbs : Int) - b) d.natAbs)
  else withSign v (max ((v.natAbs : Int) - b) 0)

/-- R68: the direction after a velocity step. -/
def nextDirection (old : Direction) (v : Int) : Direction :=
  if 0 < v then .forward else if v < 0 then .backward else old

/-- R78: the first armed pause mark a forward CRUISE frame reaches. -/
def pauseAt (s : State) (v : Int) (p p' : Nat) : Option MarkRecord :=
  if s.scroll.state = .cruise ∧ 0 < v then (marksPassed s.layout.marks p p').find? (isPauseMark s) else none

/-- A change of position and velocity. -/
def State.setMotion (s : State) (p : Nat) (v : Int) : State := { s with scroll := { s.scroll with p := p, v := v } }

/-- R77: a CRUISE scroll that is clamped at an end stops. -/
def clampStop (cause : ScrollCause) (s : State) : State :=
  if s.scroll.state = .cruise then setScrollState .stopped cause s else s

/-- R76 to R79: the velocity step, the position step with its clamps, and the new position, velocity and state, with their
notice. -/
def moveFrame (s : State) : State :=
  let d := demand s
  let v := velocityStep s.scroll.accel s.scroll.brake s.scroll.v d
  let s1 :=
    { s with scroll := { s.scroll with lastDemand := d, direction := nextDirection s.scroll.direction v } }
  let trial : Int := s.scroll.p + v
  let top : Int := ((s.rows * Config.fine : Nat) : Int)
  let clamped := (clampInt 0 top trial).toNat
  match pauseAt s v s.scroll.p clamped with
  | some m => setScrollState .held (.pause m.cue) (s1.setMotion m.position 0)
  | none =>
      if top < trial then clampStop .atEnd (s1.setMotion clamped 0)
      else if trial < 0 then clampStop .atTop (s1.setMotion clamped 0)
      else s1.setMotion clamped v

/-- R164: the link counts a scroll frame and writes the position slot when the count reaches the interval. -/
def countFrame (s : State) : State :=
  if s.link.interval = 0 then s
  else if s.link.frameCount + 1 < s.link.interval then
    { s with link := { s.link with frameCount := s.link.frameCount + 1 } }
  else
    let number := s.link.reportNumber + 1
    let report : Report :=
      ⟨number, s.scroll.p, s.scroll.v, s.scroll.state, s.store.onAirId, takeAnchor s.store.stories s.scroll.p⟩
    { s with link := { s.link with frameCount := 0, reportNumber := number, slot := some report } }

/-- R79: one scroll frame, whole. -/
def scrollFrame (s : State) : State :=
  let moved := moveFrame s
  countFrame (release (recomputeStates (takeAdvance s.scroll.p moved.scroll.p moved)))

/-- A frame that is owed is taken (log 6). -/
def takeFrame (s : State) : State :=
  scrollFrame { s with scroll := { s.scroll with framesOwed := s.scroll.framesOwed - 1 } }

/-- R89: the internal frame timer, while it is the source in use, expires and gives one scroll frame; `into` is how far into its
next period it already is (log 29). -/
def internalExpiry (into : Nat) (s : State) : State :=
  match s.scroll.frameTimer with
  | some _ =>
      { s with scroll := { s.scroll with frameTimer := some into, framesOwed := s.scroll.framesOwed + 1 } }
  | none => s

/-! ## Jumps (R86, R87) -/

/-- R86: the position goes to a target row, clamped to 0..L; marks are armed around it and story states recomputed. -/
def jumpTo (row : Int) (s : State) : State :=
  let p := (clampInt 0 s.rows row).toNat * Config.fine
  let moved := { s with scroll := { s.scroll with p := p } }
  recomputeStates (moved.setMarks (moved.layout.marks.map (jumpArming p)))

/-- The on-air story (R10, R87). -/
def onAirStory (s : State) : Option Story := s.store.stories.find? fun st => st.state == .onAir

/-- R87: the target row of NEXT. -/
def nextTarget (s : State) : Nat :=
  match onAirStory s with
  | some st => match firstWithRows (storiesAfter s.store.stories st.id) with
    | some y => startRow s.store.stories y.id
    | none => s.rows
  | none => s.rows

/-- R87: the target row of PREV. -/
def prevTarget (s : State) : Nat :=
  match onAirStory s with
  | some st =>
      let start := startRow s.store.stories st.id
      if start + 2 < readingRow s.scroll.p s.rows then start
      else match lastWithRows (storiesBefore s.store.stories st.id) with
        | some y => startRow s.store.stories y.id
        | none => start
  | none => 0

/-- R87: a key jump, which does not act during a reflow. -/
def keyJump (row : Nat) (s : State) : State := if s.reflowing then s else jumpTo row s

end Sys2Proof.Machine
end

