-- ==== Sys2Proof/Machine/HubOps.lean ====
section
/-! DEFINITION. HubOps.lean: the control ports and their receivers (R94, R95, R97 to R100, R172), scroll authority (R103 to
R112), the key actions and wheel detents (R80 to R85, R101, R102), and a report as it is taken (R96). -/

namespace Sys2Proof.Machine

/-! ## Decoding (R94, R95, R172) -/

/-- The kind a kind code announces (R170, R172). -/
def kindOfCode (b : Byte) : Option ControllerKind :=
  match b.toNat with
  | 1 => some .lever
  | 2 => some .pedal
  | 3 => some .wheel
  | 4 => some .keypad
  | _ => none

/-- The LEN a report of a kind has (R172). -/
def ControllerKind.len : ControllerKind → Nat
  | .lever => 4
  | .pedal => 4
  | .wheel => 4
  | .keypad => 3

/-- A valid report: its kind, raw value byte (0 for a KEYPAD, which has none) and key set (R95, R172). -/
structure ControlReport where
  kind : ControllerKind
  raw : Byte
  keys : KeySet
deriving DecidableEq, Repr

/-- Whether a key is in a key set (R172). -/
def KeySet.has (keys : KeySet) (bit : Nat) : Bool := keys.getLsbD bit

/-- R95: the decoded value of a report. -/
def decodeValue (r : ControlReport) (reverse : Bool) : PortValue :=
  match r.kind with
  | .lever =>
      let raw := max r.raw.toInt (-127)
      .deflection (decide (raw < 0)) (raw.natAbs * 128 / 127)
  | .pedal => .deflection (KeySet.has r.keys 8 && reverse) (r.raw.toNat * 128 / 255)
  | .wheel => .detents r.raw.toInt
  | .keypad => .none

/-- The frame of a report (R172). -/
def reportFrame (r : ControlReport) : List Byte :=
  let keys : Word16 := r.keys.setWidth 16
  let body : List Byte :=
    match r.kind with
    | .lever => [4, 1, r.raw] ++ bytes16 keys
    | .pedal => [4, 2, r.raw] ++ bytes16 keys
    | .wheel => [4, 3, r.raw] ++ bytes16 keys
    | .keypad => [3, 4] ++ bytes16 keys
  0xA5 :: (body ++ [-body.sum])

/-- R94, R172: the report that the bytes after a start byte make, once they are all there and their sum is 0; none where the check
fails. -/
def parseReport : List Byte → Option ControlReport
  | [len, kind, raw, k0, k1, check] =>
      match kindOfCode kind with
      | some k =>
          if k ≠ .keypad ∧ len + kind + raw + k0 + k1 + check = 0 then some ⟨k, raw, (word16 k0 k1).setWidth 9⟩ else none
      | none => none
  | [len, kind, k0, k1, check] =>
      match kindOfCode kind with
      | some k =>
          if k = .keypad ∧ len + kind + k0 + k1 + check = 0 then some ⟨k, 0, (word16 k0 k1).setWidth 9⟩ else none
      | none => none
  | _ => none

/-- R94 cases 2 and 3: whether the bytes so far announce a kind outside the four, or a length that is not its kind's. -/
def badAnnouncement : List Byte → Bool
  | len :: kind :: _ =>
      match kindOfCode kind with
      | some k => decide (len.toNat ≠ k.len)
      | none => true
  | _ => false

/-- The LEN byte of the bytes after a start byte. -/
def lenOf : List Byte → Nat
  | len :: _ => len.toNat
  | [] => 0

/-- What a port's receiver makes of one byte (R94, R172): its next state, and a report when the byte completes one. -/
def portByte (r : Receiver) (b : Byte) : Receiver × Option ControlReport :=
  match r with
  | .hunting => if b = 0xA5 then (.inFrame [] 0, none) else (.hunting, none)
  | .inFrame got _ =>
      let got' := got ++ [b]
      if badAnnouncement got' then (.hunting, none)
      else if 2 ≤ got'.length ∧ got'.length = lenOf got' + 2 then (.hunting, parseReport got')
      else (.inFrame got' 0, none)

/-! ## Authority (R103, R108, R111, R112) -/

/-- R103: the holder changes, with its AUTHORITY notice; the release timer is set. -/
def setHolder (new : Option Holder) (timer : Option Nat) (cause : AuthorityCause) (s : State) : State :=
  raise (.authority new (s.hub.holder.map Holder.port) cause)
    { s with hub := { s.hub with holder := new, releaseTimer := timer } }

/-- R100: must-rest is set on a holder that loses its hold to another hand or a stop. -/
def restHolder (s : State) : State :=
  match s.hub.holder with
  | some h => s.modPort h.port fun x => { x with mustRest := true }
  | none => s

/-- R112: the scroll controller asks for a hold to end; the former holder gets must-rest. -/
def endHold (cause : AuthorityCause) (s : State) : State :=
  match s.hub.holder with
  | some _ => setHolder none none cause (restHolder s)
  | none => s

/-- R81, R83, R112: the hold of a lever or pedal ends; a wheel holder is not displaced. -/
def endLeverHold (s : State) : State := if leverHolds s then endHold .ended s else s

/-- Whether a port holds authority. -/
def holds (n : Fin 6) (s : State) : Bool :=
  match s.hub.holder with
  | some h => h.port == n
  | none => false

/-- R85, R111: a holder's port went STALE. -/
def stopLost (s : State) : State :=
  if s.scroll.state = .manual ∨ s.scroll.state = .cruise then setScrollState .stopped .controlLost s else s

/-- R111: authority is released when the holder's port is lost. -/
def loseControl (n : Fin 6) (s : State) : State :=
  if holds n s then stopLost (setHolder none none .controlLost s) else s

/-- R104: whether a request from a role is permitted. -/
def permitted (role : Role) (s : State) : Bool :=
  match s.hub.holder with
  | none => true
  | some h =>
      h.role == role || (role == .operator && s.hub.priority == .operatorFirst)
        || (role == .presenter && s.hub.priority == .presenterFirst)

/-- R108: a refused request, with one CONTENTION notice until the port has been at rest. -/
def contend (n : Fin 6) (s : State) : State :=
  match s.hub.holder with
  | none => s
  | some h =>
      if s.hub.ports[n].refused then s
      else raise (.contention n s.hub.ports[n].role h) (s.modPort n fun x => { x with refused := true })

/-! ## Port states (R97 to R99) -/

/-- R97: a LIVE port goes STALE, by its timeout or a change of kind; refused is cleared and a hold lost. -/
def goStale (n : Fin 6) (s : State) : State :=
  let kind := s.hub.ports[n].kind
  loseControl n
    (raise (.portState n .stale s.hub.ports[n].state kind)
      (s.modPort n fun x => { x with state := .stale, timer := none, refused := false }))

/-- R97: a port in EMPTY or STALE enters LIVE, with must-rest; the notice carries the kind of the report (log 20). -/
def goLive (n : Fin 6) (kind : ControllerKind) (s : State) : State :=
  raise (.portState n .live s.hub.ports[n].state (some kind))
    (s.modPort n fun x => { x with state := .live, mustRest := true })

/-- R97, R99: a port is put into OFF. -/
def portOff (n : Fin 6) (s : State) : State :=
  loseControl n
    (raise (.portState n .off s.hub.ports[n].state s.hub.ports[n].kind)
      (s.modPort n fun x => { x with state := .off, timer := none, mustRest := false, refused := false }))

/-- R97: a port leaves OFF. Its notice carries the kind as the transition leaves it, none (log 43). -/
def portOn (n : Fin 6) (s : State) : State :=
  raise (.portState n .empty s.hub.ports[n].state none)
    (s.modPort n fun x =>
      { x with state := .empty, kind := none, value := .none, keys := 0, timer := none, mustRest := false,
               refused := false })

/-- R98: the report timer is set to 0 and the timeout in force taken. -/
def Port.restartTimer (x : Port) : Port := { x with timer := some 0, armedTimeout := x.timeout }

/-! ## Key actions and detents (R80 to R84, R101, R102, R107) -/

/-- R69: the lowest cruise speed a port may set: 0 without reverse. -/
def cruiseFloor (n : Fin 6) (s : State) : Int := if s.hub.ports[n].reverse then -(s.scroll.vmax : Int) else 0

/-- R69: the cruise speed set to a value clamped for a port. -/
def portCruise (n : Fin 6) (x : Int) (s : State) : State :=
  { s with scroll := { s.scroll with cruise := clampInt (cruiseFloor n s) s.scroll.vmax x } }

/-- R69, R83, R84: in MANUAL the cruise speed is first set to the current velocity (log 21), then changed by `delta`, and the result
clamped for the port. R83 also says that a negative cruise speed on a port without reverse is brought to 0 at the first press: FASTER from
above -K follows R83's table, and gives the sum, which is above 0 (log 47). -/
def trimCruise (n : Fin 6) (delta : Int) (s : State) : State :=
  let s' := if s.scroll.state = .manual then portCruise n s.scroll.v s else s
  portCruise n (s'.scroll.cruise + delta) s'

/-- R80: the stop, by SCROLL_STOP or the STOP key. -/
def stopScroll (cause : ScrollCause) (s : State) : State :=
  let s' := endHold .stopped s
  if s'.scroll.state = .idle then s' else setScrollState .stopped cause s'

/-- R81: the RESUME key. -/
def resumeKey (n : Fin 6) (s : State) : State :=
  match s.scroll.state with
  | .stopped | .held => setScrollState .cruise (.port n) s
  | .manual => setScrollState .cruise (.port n) (endLeverHold s)
  | .cruise | .idle => s

/-- R83: FASTER and SLOWER, with the change of the cruise speed. -/
def speedKey (n : Fin 6) (delta : Int) (s : State) : State :=
  let s' := trimCruise n delta s
  match s.scroll.state with
  | .idle => s'
  | .manual => setScrollState .cruise (.port n) (endLeverHold s')
  | .stopped | .cruise | .held => setScrollState .cruise (.port n) s'

/-- R84: wheel detents, clamped to -16..+15. -/
def wheelDetents (n : Fin 6) (count : Int) (s : State) : State :=
  let s' := trimCruise n (clampInt (-16) 15 count * s.hub.ports[n].step) s
  if s.scroll.state = .idle then s' else setScrollState .cruise (.port n) s'

/-- The action keys other than MARK, in the order they act (R101). -/
inductive ActionKey where
  | stop | resume | faster | slower | next | prev | top
deriving DecidableEq, Repr

/-- The bit of an action key (R172). -/
def ActionKey.bit : ActionKey → Nat
  | .stop => 0
  | .resume => 1
  | .faster => 2
  | .slower => 3
  | .next => 4
  | .prev => 5
  | .top => 6

/-- The action keys in the order of R101. -/
def actionKeys : List ActionKey := [.stop, .resume, .faster, .slower, .next, .prev, .top]

/-- R101: what a key does once it may act. -/
def runKey (n : Fin 6) (k : ActionKey) (s : State) : State :=
  match k with
  | .stop => stopScroll (.port n) s
  | .resume => resumeKey n s
  | .faster => speedKey n s.scroll.keyStep s
  | .slower => speedKey n (-(s.scroll.keyStep : Int)) s
  | .next => keyJump (nextTarget s) s
  | .prev => keyJump (prevTarget s) s
  | .top => keyJump 0 s

/-- R107: a pressed action key is judged, and acts or contends. -/
def judgeKey (n : Fin 6) (pressed : KeySet) (s : State) (k : ActionKey) : State :=
  if KeySet.has pressed k.bit then (if permitted s.hub.ports[n].role s then runKey n k s else contend n s) else s

/-- R102: the MARK key. `taken` is the state in which the report was taken, whose position and anchor the notice carries. -/
def markKey (n : Fin 6) (pressed : KeySet) (taken s : State) : State :=
  if KeySet.has pressed 7 then raise (.markKey n taken.scroll.p (takeAnchor taken.store.stories taken.scroll.p)) s else s

/-- R101: the pressed keys of a report act, MARK last. No step of a report before its keys moves the position. -/
def runKeys (n : Fin 6) (pressed : KeySet) (s : State) : State :=
  markKey n pressed s (actionKeys.foldl (judgeKey n pressed) s)

/-- R101: whether an action key is pressed; REVERSE is none. -/
def anyActionKey (pressed : KeySet) : Bool := decide ((pressed &&& 0x0FF) ≠ 0)

/-! ## A report (R96, R100, R105, R106, R109, R110) -/

/-- R100: whether a report is at rest for its kind. -/
def atRest (kind : ControllerKind) (value : PortValue) (dead : Nat) (pressed : KeySet) : Bool :=
  match kind, value with
  | .wheel, .detents c => decide (c = 0) && !anyActionKey pressed
  | .keypad, _ => !anyActionKey pressed
  | _, .deflection _ m => decide (m ≤ dead)
  | _, _ => true

/-- R109: the release of a holder at rest. -/
def releaseHold (s : State) : State :=
  match s.hub.holder with
  | none => s
  | some h =>
      let s' := setHolder none none .released s
      if h.kind ≠ .wheel ∧ s.scroll.state = .manual then setScrollState .stopped (.port h.port) s' else s'

/-- The release timer. -/
def State.setReleaseTimer (s : State) (t : Option Nat) : State := { s with hub := { s.hub with releaseTimer := t } }

/-- R96 step 6, R109: a lever or pedal holder's report starts, keeps or stops the release timer. A wheel's timer is R106's and
R110's. -/
def holderTiming (n : Fin 6) (rest : Bool) (s : State) : State :=
  match s.hub.holder with
  | none => s
  | some h =>
      if h.port ≠ n ∨ h.kind = .wheel then s
      else if rest then
        match s.hub.releaseTimer with
        | none => if s.hub.releaseDelay = 0 then releaseHold s else s.setReleaseTimer (some 0)
        | some _ => s
      else s.setReleaseTimer none

/-- R105: a lever or pedal takes authority. -/
def leverTakes (n : Fin 6) (kind : ControllerKind) (s : State) : State :=
  let s' := setHolder (some ⟨n, s.hub.ports[n].role, kind⟩) none .taken (restHolder s)
  if s.scroll.state = .idle then s' else setScrollState .manual (.port n) s'

/-- R105: the request of a lever or pedal report, when it makes one. -/
def leverRequest (n : Fin 6) (kind : ControllerKind) (m : Nat) (s : State) : State :=
  let x := s.hub.ports[n]
  if !holds n s && !x.mustRest && !x.refused && decide (x.dead < m) then
    if permitted x.role s then leverTakes n kind s else contend n s
  else s

/-- R106: the request of a wheel report, when it makes one. -/
def wheelRequest (n : Fin 6) (count : Int) (s : State) : State :=
  if count = 0 then s
  else if permitted s.hub.ports[n].role s then
    let s' :=
      if holds n s then s.setReleaseTimer (some 0)
      else setHolder (some ⟨n, s.hub.ports[n].role, .wheel⟩) (some 0) .taken (restHolder s)
    wheelDetents n count s'
  else contend n s

/-- R96 step 7: the request a report's value calls for. -/
def makeRequest (n : Fin 6) (kind : ControllerKind) (value : PortValue) (s : State) : State :=
  match value with
  | .deflection _ m => leverRequest n kind m s
  | .detents c => wheelRequest n c s
  | .none => s

/-- R96 steps 1 and 2, R99: the port's state as a report of a kind finds it and leaves it, and whether it is a first report. -/
def enterReport (n : Fin 6) (kind : ControllerKind) (s : State) : State × Bool :=
  let x := s.hub.ports[n]
  let changed := x.state = .live ∧ x.kind ≠ some kind
  let s1 := if changed then goStale n s else s
  if s1.hub.ports[n].state = .live then (s1.modPort n Port.restartTimer, false)
  else ((goLive n kind s1).modPort n Port.restartTimer, true)

/-- R96 steps 3 to 8: a report on a port that is LIVE. -/
def takeReport (n : Fin 6) (r : ControlReport) (first : Bool) (s : State) : State :=
  let value := decodeValue r s.hub.ports[n].reverse
  let pressed : KeySet := if first then 0 else r.keys &&& ~~~s.hub.ports[n].keys
  let rest := atRest r.kind value s.hub.ports[n].dead pressed
  let s3 := s.modPort n fun x => { x with value := value, kind := some r.kind }
  let s4 := if rest then s3.modPort n fun x => { x with mustRest := false, refused := false } else s3
  let s5 := if first then s4 else runKeys n pressed s4
  let s6 := holderTiming n rest s5
  let s7 := if first then s6 else makeRequest n r.kind value s6
  s7.modPort n fun x => { x with keys := r.keys }

/-- R94, R96: a valid report; on a port that is OFF it is ignored. -/
def validReport (n : Fin 6) (r : ControlReport) (s : State) : State :=
  if s.hub.ports[n].state = .off then s
  else
    let e := enterReport n r.kind s
    takeReport n r e.2 e.1

/-- R94: one byte on a control port. -/
def receivePortByte (n : Fin 6) (s : State) (b : Byte) : State :=
  let r := portByte s.hub.ports[n].receiver b
  let s' := s.modPort n fun x => { x with receiver := r.1 }
  match r.2 with
  | some report => validReport n report s'
  | none => s'

/-- R94 case 4: a gap in a report frame; the frame is discarded. -/
def portGap (n : Fin 6) (s : State) : State := s.modPort n fun x => { x with receiver := .hunting }

/-- R98: a LIVE port's report timer reaches its timeout. -/
def reportTimeout (n : Fin 6) (s : State) : State := if s.hub.ports[n].state = .live then goStale n s else s

/-- R109, R110: the holder's release timer reaches the release delay. -/
def releaseExpiry (s : State) : State :=
  match s.hub.releaseTimer with
  | some _ => releaseHold s
  | none => s

end Sys2Proof.Machine
end

