-- ==== Sys2Proof/Machine/ScriptCommands.lean ====
section
/-! DEFINITION. ScriptCommands.lean: what taking a load, edit or reading command does (R17, R18, R21 to R34, R41): the checks in
the order of its rule, the effect, and the reply. -/

namespace Sys2Proof.Machine

/-- R170: whether a yes/no field holds 0 or 1. -/
def yesNoOk (b : Byte) : Bool := decide (b.toNat ≤ 1)

/-- R170: a placement kind and its id. -/
def placementOf (kind : Byte) (id : Word16) : Option Placement :=
  match kind.toNat with
  | 0 => some .atEnd
  | 1 => some (.before id.toNat)
  | 2 => some (.after id.toNat)
  | _ => none

/-! ## Loads (R21 to R29) -/

/-- The open load with a tag (R21). -/
def findLoad (s : State) (tag : Nat) : Option Load := s.edit.loads.find? fun l => l.tag == tag

/-- A change of the open loads. -/
def State.setLoads (s : State) (loads : List Load) : State := { s with edit := { s.edit with loads := loads } }

/-- The loads with the one with a tag changed by `f`. -/
def mapLoad : List Load → Nat → (Load → Load) → List Load
  | [], _, _ => []
  | l :: rest, tag, f => if l.tag = tag then f l :: rest else l :: mapLoad rest tag f

/-- R27: a load's slot becomes free; its chain goes with its edit. -/
def closeLoad (tag : Nat) (s : State) : State := s.setLoads (s.edit.loads.eraseP fun l => l.tag == tag)

/-- R29: a load is aborted; its chain and its slot become free. -/
def abortLoad (l : Load) (s : State) : State := freeSlots l.chain.length (closeLoad l.tag s)

/-- R28: a load's idle time is set back to 0. -/
def touchLoad (tag : Nat) (s : State) : State := s.setLoads (mapLoad s.edit.loads tag fun l => { l with idle := 0 })

/-- R25: the number of cue marks in the engine. -/
def markTotal (s : State) : Nat :=
  (s.store.stories.map Story.markCount).sum + (s.edit.pending.map PendingEdit.marks).sum + (s.edit.loads.map Load.marks).sum

/-- R25: whether a line's marks would break the budget; a line without marks always passes. -/
def overBudget (marks : Nat) (s : State) : Bool := decide (0 < marks) && decide (Config.maxMarks < markTotal s + marks)

/-- R24 step 4: a line stored into the next slot of a load's chain. -/
def storeLine (text : Line) (l : Load) : Load :=
  { l with
    chain := l.chain.set l.received text
    received := l.received + 1
    marks := l.marks + lineMarks text
    idle := 0 }

/-- Stories still arriving: open NEW loads (R22 checks 3 and 6). -/
def newLoads (s : State) : List Load := s.edit.loads.filter fun l => l.mode == .new

/-- Pending insertions (R22 checks 3 and 6). -/
def pendingInserts (s : State) : List PendingEdit := s.edit.pending.filter fun r => r.edit.kind == .insert

/-- R22: the range checks of the command interpreter on LOAD_OPEN. -/
def loadOpenRanges (tag mode : Byte) (story n : Word16) (placeKind force : Byte) : Bool :=
  decide (tag ≠ 0) && decide (story ≠ 0) && decide (1 ≤ n.toNat ∧ n.toNat ≤ Config.maxLines) && decide (mode.toNat ≤ 1)
    && (decide (mode = 1) || decide (placeKind.toNat ≤ 2)) && yesNoOk force

/-- R22: the checks of the edit unit, in order. -/
def loadOpenFault (tag mode : Byte) (story n : Word16) (place : Placement) (s : State) : Option Reason :=
  if Config.loadSlots ≤ s.edit.loads.length then some .noSlot
  else if (findLoad s tag.toNat).isSome then some .tagInUse
  else if mode = 0 ∧ (hasStory s.store.stories story.toNat ∨ (newLoads s).any (fun l => l.story == story.toNat)
      ∨ (pendingInserts s).any (fun r => r.edit.story == story.toNat)) then some .storyExists
  else if mode = 0 ∧ placeFound s.store.stories place = false then some .noStory
  else if mode = 1 ∧ hasStory s.store.stories story.toNat = false then some .noStory
  else if mode = 0 ∧ Config.maxStories < s.store.stories.length + (pendingInserts s).length + (newLoads s).length + 1 then
    some .storyLimit
  else if s.store.freeCount < n.toNat then some .poolFull
  else none

/-- R23: a load is opened: its record, its reserved chain of empty lines, its slug. -/
def openLoad (tag : Byte) (editTag : Word16) (mode : Byte) (story n : Word16) (place : Placement) (force : Byte)
    (slug : Line) (s : State) : State :=
  let load : Load :=
    { tag := tag.toNat, editTag := editTag.toNat, mode := if mode = 0 then .new else .replace, story := story.toNat,
      n := n.toNat, place := place, slug := slug, force := decide (force = 1), chain := List.replicate n.toNat [],
      received := 0, marks := 0, idle := 0 }
  { s.setLoads (s.edit.loads ++ [load]) with store := { s.store with freeCount := s.store.freeCount - n.toNat } }

/-- LOAD_OPEN (R22, R23). The placement of a REPLACE load is ignored. -/
def cmdLoadOpen (seq tag : Byte) (editTag : Word16) (mode : Byte) (story n : Word16) (placeKind : Byte) (placeId : Word16)
    (force : Byte) (slug : List Byte) (s : State) : State :=
  if loadOpenRanges tag mode story n placeKind force then
    let place := (placementOf placeKind placeId).getD .atEnd
    match loadOpenFault tag mode story n place s with
    | some r => refuse 0x10 seq r s
    | none =>
        let prepared := prepareSlug slug
        answer 0x10 seq .ok prepared.truncated prepared.badMark (.loadOpened tag.toNat)
          (openLoad tag editTag mode story n place force prepared.text s)
  else refuse 0x10 seq .badValue s

/-- LOAD_LINE (R24, R25). -/
def cmdLoadLine (seq tag : Byte) (text : List Byte) (s : State) : State :=
  match findLoad s tag.toNat with
  | none => refuse 0x11 seq .noLoad s
  | some l =>
      if l.n ≤ l.received then refuse 0x11 seq .countOver (abortLoad l s)
      else
        let prepared := prepareLine text
        if overBudget (lineMarks prepared.text) s then
          answer 0x11 seq (.reason .markLimit) prepared.truncated prepared.badMark .bare (abortLoad l s)
        else
          answer 0x11 seq .ok prepared.truncated prepared.badMark (.linesReceived (l.received + 1))
            (s.setLoads (mapLoad s.edit.loads l.tag (storeLine prepared.text)))

/-- R27 step 4: the edit a complete load becomes. -/
def loadEdit (l : Load) : Edit :=
  match l.mode with
  | .replace => ⟨l.editTag, l.story, .replace l.slug l.chain⟩
  | .new => ⟨l.editTag, l.story, .insert l.place l.slug l.chain⟩

/-- The reply to an edit that was presented (R27, R31): the OK fields come from the state as the event leaves it (R161). -/
def presentedReply (code seq : Byte) (truncated badMark : Bool) (e : Edit) (okBody : State → ReplyBody)
    (r : State × Presented) : State :=
  match r.2 with
  | .applied => answer code seq .ok truncated badMark (okBody r.1) r.1
  | .deferred => answer code seq .deferred truncated badMark (.deferred e.tag) r.1
  | .refused reason => answer code seq (.reason reason) truncated badMark .bare r.1

/-- R27: a complete load is resolved; its slot becomes free in every outcome. -/
def resolveLoad (seq : Byte) (truncated badMark : Bool) (l : Load) (s : State) : State :=
  let e := loadEdit l
  let s' := closeLoad l.tag s
  match editFault e s' with
  | some r => answer 0x12 seq (.reason r) truncated badMark .bare (freeSlots l.chain.length s')
  | none =>
      presentedReply 0x12 seq truncated badMark e (fun t => .rowCount (rowCountOf t.store.stories l.story))
        (present l.force e s')

/-- LOAD_LAST (R26, R27). -/
def cmdLoadLast (seq tag : Byte) (text : List Byte) (s : State) : State :=
  match findLoad s tag.toNat with
  | none => refuse 0x12 seq .noLoad s
  | some l =>
      if s.reflowing then refuse 0x12 seq .busy (touchLoad l.tag s)
      else if l.n ≤ l.received then refuse 0x12 seq .countOver (abortLoad l s)
      else
        let prepared := prepareLine text
        if overBudget (lineMarks prepared.text) s then
          answer 0x12 seq (.reason .markLimit) prepared.truncated prepared.badMark .bare (abortLoad l s)
        else if l.received + 1 < l.n then
          answer 0x12 seq (.reason .countShort) prepared.truncated prepared.badMark .bare (abortLoad l s)
        else resolveLoad seq prepared.truncated prepared.badMark (storeLine prepared.text l) s

/-- LOAD_CANCEL (R29). -/
def cmdLoadCancel (seq tag : Byte) (s : State) : State :=
  match findLoad s tag.toNat with
  | none => refuse 0x13 seq .noLoad s
  | some l => reply 0x13 seq .ok .bare (abortLoad l s)

/-- R28: an open load's idle timer reaches 5,000 ms. -/
def loadIdleExpiry (tag : Nat) (s : State) : State :=
  match findLoad s tag with
  | none => s
  | some l => raise (.loadAborted tag) (abortLoad l s)

/-! ## Story commands (R32 to R34) -/

/-- The checks STORY_DELETE, STORY_MOVE and STORY_SKIP share: ranges, then BUSY, then the story (R32 to R34). -/
def storyFault (rangesOk : Bool) (story : Word16) (force : Byte) (s : State) : Option Reason :=
  if !rangesOk || decide (story = 0) || !yesNoOk force then some .badValue
  else if s.reflowing then some .busy
  else if !hasStory s.store.stories story.toNat then some .noStory
  else none

/-- STORY_DELETE (R32). -/
def cmdStoryDelete (seq : Byte) (editTag story : Word16) (force : Byte) (s : State) : State :=
  match storyFault true story force s with
  | some r => refuse 0x14 seq r s
  | none =>
      let e : Edit := ⟨editTag.toNat, story.toNat, .delete⟩
      presentedReply 0x14 seq false false e (fun t => .totalRows t.rows) (present (decide (force = 1)) e s)

/-- STORY_MOVE (R33). -/
def cmdStoryMove (seq : Byte) (editTag story : Word16) (placeKind : Byte) (placeId : Word16) (force : Byte) (s : State) :
    State :=
  match storyFault (decide (placeKind.toNat ≤ 2)) story force s with
  | some r => refuse 0x15 seq r s
  | none =>
      let place := (placementOf placeKind placeId).getD .atEnd
      if placeFound s.store.stories place then
        let e : Edit := ⟨editTag.toNat, story.toNat, .move place⟩
        presentedReply 0x15 seq false false e (fun t => .startRow (startRow t.store.stories story.toNat))
          (present (decide (force = 1)) e s)
      else refuse 0x15 seq .noStory s

/-- STORY_SKIP (R34). -/
def cmdStorySkip (seq : Byte) (editTag story : Word16) (request force : Byte) (s : State) : State :=
  match storyFault (decide (request.toNat ≤ 1)) story force s with
  | some r => refuse 0x16 seq r s
  | none =>
      let e : Edit := ⟨editTag.toNat, story.toNat, if request = 0 then .skip else .unskip⟩
      if overRowLimit e s then refuse 0x16 seq .rowLimit s
      else presentedReply 0x16 seq false false e (fun t => .totalRows t.rows) (present (decide (force = 1)) e s)

/-- EDIT_CANCEL (R41). -/
def cmdEditCancel (seq : Byte) (editTag : Word16) (s : State) : State :=
  match s.edit.pending.find? fun r => r.edit.tag == editTag.toNat with
  | none => refuse 0x17 seq .noEdit s
  | some r =>
      reply 0x17 seq .ok (.cancelled r.edit.kind r.edit.story) (freeSlots r.edit.chain.length (leavePending r s))

/-! ## Reading the store (R17, R18) -/

/-- R17: what READ_STORY gives of a record. -/
def storyFields (s : State) (st : Story) : StoryFields :=
  { edition := s.store.edition
    index := s.store.stories.findIdx fun x => x.id == st.id
    state := st.state
    revision := st.revision
    lineCount := st.chain.length
    rowCount := st.rowCount
    startRow := startRow s.store.stories st.id
    markCount := st.markCount
    pendingCount := st.pendingCount
    slug := st.slug }

/-- READ_STORY (R17). -/
def cmdReadStory (seq : Byte) (story : Word16) (s : State) : State :=
  match findStory s.store.stories story.toNat with
  | none => refuse 0x18 seq .noStory s
  | some st => reply 0x18 seq .ok (.story (storyFields s st)) s

/-- READ_RUNDOWN (R18). -/
def cmdReadRundown (seq first : Byte) (s : State) : State :=
  let entries := ((s.store.stories.drop first.toNat).take 48).map fun st => ⟨st.id, st.state, st.pendingCount⟩
  reply 0x19 seq .ok (.rundown s.store.edition s.store.stories.length first.toNat entries) s

end Sys2Proof.Machine
end

