-- ==== Sys2Proof/Machine/MotionCommands.lean ====
section
/-! DEFINITION. MotionCommands.lean: what taking a motion, settings or cue command does: SET_COLUMNS (R47, R48), SET_MOTION (R91),
SET_CURVE (R75), SET_PORT (R113), SET_FRAME_SOURCE (R89), SET_REPORTING (R164), the scroll commands (R80 to R82, R86, R88), the cue
commands (R116, R117, R127), and the completion of a reflow (R60, R61). -/

namespace Sys2Proof.Machine

/-- Whether `x` lies in `lo`..`hi`. -/
def inRange (lo hi x : Nat) : Bool := decide (lo ≤ x) && decide (x ≤ hi)

/-! ## The column count and reflow (R47, R48, R60, R61) -/

/-- R47: the checks of SET_COLUMNS, in order. -/
def setColumnsFault (c : Nat) (s : State) : Option Reason :=
  if !inRange 8 40 c then some .badValue
  else if s.reflowing then some .busy
  else if s.heads.toList.any (fun h => !(h.state == .disabled) && !h.geometry.holds c) then some .headTooNarrow
  else none

/-- SET_COLUMNS (R47, R48). -/
def cmdSetColumns (seq columns : Byte) (s : State) : State :=
  match setColumnsFault columns.toNat s with
  | some r => refuse 0x08 seq r s
  | none =>
      let replied := reply 0x08 seq .ok .bare s
      if columns.toNat = s.layout.columns then
        raise (.reflowDone true s.layout.columns s.layout.generation s.rows) replied
      else { replied with layout := { s.layout with target := some columns.toNat } }

/-- R60 steps 1 to 6: the new layout is installed and the position re-anchored. -/
def installLayout (c : Nat) (s : State) : State :=
  let anchor := takeAnchor s.store.stories s.scroll.p
  let oldRow := s.scroll.p / Config.fine
  let stories := s.store.stories.map (layStory c)
  let s1 :=
    { s with
      store := { s.store with stories := stories }
      layout := { s.layout with columns := c, generation := s.layout.generation + 1, target := none } }
  let s2 := reanchor anchor oldRow s1
  recomputeStates (s2.setMarks (rebuildMarks s.layout.marks stories none s2.scroll.p))

/-- R60, R61: the reflow work is done: the new layout is installed, or the reflow abandoned for its row total. -/
def reflowComplete (s : State) : State :=
  match s.layout.target with
  | none => s
  | some c =>
      let total := totalRows (s.store.stories.map (layStory c))
      if total ≤ Config.maxRows then
        let s' := installLayout c s
        release (raise (.reflowDone true s'.layout.columns s'.layout.generation s'.rows) s')
      else
        let s' := { s with layout := { s.layout with target := none } }
        release (raise (.reflowDone false s'.layout.columns s'.layout.generation s'.rows) s')

/-! ## Motion settings (R75, R89, R91) -/

/-- SET_MOTION (R91). -/
def cmdSetMotion (seq : Byte) (vmax a b delay : Word16) (priority : Byte) (k : Word16) (p : Byte) (s : State) : State :=
  if inRange 1 16384 vmax.toNat && inRange 1 4096 a.toNat && inRange 1 4096 b.toNat && inRange 0 5000 delay.toNat
      && inRange 0 1 priority.toNat && inRange 1 1024 k.toNat && inRange 0 64 p.toNat then
    reply 0x09 seq .ok .bare
      { s with
        scroll := { s.scroll with vmax := vmax.toNat, accel := a.toNat, brake := b.toNat, keyStep := k.toNat }
        hub :=
          { s.hub with
            releaseDelay := delay.toNat
            priority := if priority = 0 then .operatorFirst else .presenterFirst }
        edit := { s.edit with lookahead := p.toNat } }
  else refuse 0x09 seq .badValue s

/-- R75: whether a curve starts at 0 and does not fall. -/
def curveOrdered (q : Vector Nat 9) : Bool :=
  decide (q[0] = 0) && decide (q[0] ≤ q[1]) && decide (q[1] ≤ q[2]) && decide (q[2] ≤ q[3]) && decide (q[3] ≤ q[4])
    && decide (q[4] ≤ q[5]) && decide (q[5] ≤ q[6]) && decide (q[6] ≤ q[7]) && decide (q[7] ≤ q[8])

/-- SET_CURVE (R75). -/
def cmdSetCurve (seq : Byte) (points : Vector Word16 9) (s : State) : State :=
  let q := updAll points BitVec.toNat
  if q.toList.any fun x => decide (16384 < x) then refuse 0x0A seq .badValue s
  else if curveOrdered q then reply 0x0A seq .ok .bare { s with scroll := { s.scroll with curve := q } }
  else refuse 0x0A seq .curveOrder s

/-- R170: a rate code. -/
def rateOf (b : Byte) : Option Rate :=
  match b.toNat with
  | 0 => some .hz50
  | 1 => some .hz5994
  | 2 => some .hz60
  | _ => none

/-- R89, R170: the frame source a source code and a rate code name; the rate is looked at only for INTERNAL. -/
def frameSourceOf (source rate : Byte) : Option FrameSource :=
  if h : source.toNat < 4 then some (.head ⟨source.toNat, h⟩)
  else if source = 4 then (rateOf rate).map .internal
  else none

/-- SET_FRAME_SOURCE (R89, R90). -/
def cmdSetFrameSource (seq source rate : Byte) (s : State) : State :=
  match frameSourceOf source rate with
  | none => refuse 0x0C seq .badValue s
  | some src =>
      let s' := refreshSource { s with scroll := { s.scroll with setting := src } }
      reply 0x0C seq .ok (.frameSource s'.scroll.inUse (sourceRate s' s'.scroll.inUse)) s'

/-- SET_REPORTING (R164). -/
def cmdSetReporting (seq interval : Byte) (s : State) : State :=
  reply 0x0D seq .ok (.reporting interval.toNat)
    { s with link :=
        { s.link with
          interval := interval.toNat
          frameCount := 0
          slot := if interval = 0 then none else s.link.slot } }

/-! ## Port settings (R113) -/

/-- R93, R113: the ranges of SET_PORT. -/
def portRanges (port enabled role : Byte) (timeout : Word16) (gain dead reverse : Byte) (step : Word16) : Bool :=
  decide (port.toNat < 6) && yesNoOk enabled && decide (role.toNat ≤ 1) && inRange 50 1000 timeout.toNat
    && inRange 0 128 gain.toNat && inRange 0 32 dead.toNat && yesNoOk reverse && inRange 1 256 step.toNat

/-- R113: the holder role follows the holder port's role. -/
def followRole (n : Fin 6) (role : Role) (s : State) : State :=
  { s with hub :=
      { s.hub with holder := s.hub.holder.map fun h => if h.port = n then { h with role := role } else h } }

/-- R97, R99, R113: a change of enabled puts a port into or out of OFF. -/
def setEnabled (n : Fin 6) (enabled : Bool) (s : State) : State :=
  if enabled then (if s.hub.ports[n].state = .off then portOn n s else s)
  else (if s.hub.ports[n].state = .off then s else portOff n s)

/-- SET_PORT (R113). -/
def cmdSetPort (seq port enabled role : Byte) (timeout : Word16) (gain dead reverse : Byte) (step : Word16) (s : State) :
    State :=
  if portRanges port enabled role timeout gain dead reverse step then
    let n : Fin 6 := Fin.ofNat 6 port.toNat
    let r : Role := if role = 0 then .operator else .presenter
    let s1 := s.modPort n fun x =>
      { x with role := r, timeout := timeout.toNat, gain := gain.toNat, dead := dead.toNat,
               reverse := decide (reverse = 1), step := step.toNat }
    reply 0x0B seq .ok .bare (setEnabled n (decide (enabled = 1)) (followRole n r s1))
  else refuse 0x0B seq .badValue s

/-! ## Scroll commands (R80 to R82, R86, R88) -/

/-- R80, R170: a scroll command's reply carries the motion as it stands after the command, with every result. -/
def motionReply (code seq : Byte) (result : Result) (s : State) : State :=
  reply code seq result (.motion ⟨s.scroll.state, s.scroll.p, s.scroll.v, s.scroll.cruise⟩) s

/-- SCROLL_STOP (R80). -/
def cmdScrollStop (seq : Byte) (s : State) : State := motionReply 0x20 seq .ok (stopScroll .host s)

/-- R81: what SCROLL_RESUME does when no lever holds authority. -/
def resumeScroll (s : State) : State :=
  if s.scroll.state = .stopped ∨ s.scroll.state = .held then setScrollState .cruise .host s else s

/-- SCROLL_RESUME (R81). -/
def cmdScrollResume (seq : Byte) (s : State) : State :=
  if leverHolds s then motionReply 0x21 seq (.reason .heldByControl) s
  else motionReply 0x21 seq .ok (resumeScroll s)

/-- R82: what SCROLL_SPEED does when no lever holds authority. -/
def cruiseAt (speed : Int) (s : State) : State :=
  if s.scroll.state = .idle then setCruise speed s else setScrollState .cruise .host (setCruise speed s)

/-- SCROLL_SPEED (R82). -/
def cmdScrollSpeed (seq : Byte) (speed : Word16) (s : State) : State :=
  if leverHolds s then motionReply 0x22 seq (.reason .heldByControl) s
  else motionReply 0x22 seq .ok (cruiseAt speed.signed s)

/-- R86: the target row of JUMP LINE. -/
def lineTarget (s : State) (st : Story) (line : Nat) : Nat :=
  match rowOfLine s.store.stories st (min line (st.chain.length - 1)) with
  | some r => r
  | none => startRow s.store.stories st.id

/-- R86: the target row of a JUMP; none when its story is not in the rundown. -/
def jumpTarget (kind story line rows : Nat) (delta : Int) (s : State) : Option Int :=
  match kind with
  | 0 => some 0
  | 1 => (findStory s.store.stories story).map fun st => ((startRow s.store.stories st.id : Nat) : Int)
  | 2 => (findStory s.store.stories story).map fun st => ((lineTarget s st line : Nat) : Int)
  | _ => some (((rows / Config.fine : Nat) : Int) + delta)

/-- JUMP (R86). -/
def cmdJump (seq kind : Byte) (story line rows : Word16) (s : State) : State :=
  if 3 < kind.toNat ∨ ((kind = 1 ∨ kind = 2) ∧ story = 0) then motionReply 0x23 seq (.reason .badValue) s
  else if s.reflowing then motionReply 0x23 seq (.reason .busy) s
  else match jumpTarget kind.toNat story.toNat line.toNat s.scroll.p rows.signed s with
    | none => motionReply 0x23 seq (.reason .noStory) s
    | some row => motionReply 0x23 seq .ok (jumpTo row s)

/-- READ_POSITION (R88). -/
def cmdReadPosition (seq : Byte) (s : State) : State :=
  reply 0x24 seq .ok
    (.position
      { p := s.scroll.p, v := s.scroll.v, state := s.scroll.state, direction := s.scroll.direction,
        cruise := s.scroll.cruise, lastDemand := s.scroll.lastDemand, rows := s.rows, onAirId := s.store.onAirId,
        anchor := takeAnchor s.store.stories s.scroll.p, source := s.scroll.inUse,
        rate := sourceRate s s.scroll.inUse }) s

/-! ## Cue commands (R116, R117, R127) -/

/-- R116, R170: one action of CUE_DEFINE, where its fields lie in their ranges. -/
def actionOf (a : ActionField) : Option CueAction :=
  let line : Fin 8 := Fin.ofNat 8 a.line.toNat
  let lineOk : Bool := decide (a.line.toNat < 8)
  match a.kind.toNat with
  | 1 => some .pause
  | 2 => some (.cruise a.value.signed)
  | 3 => if lineOk && inRange 1 255 a.value.toNat then some (.pulse line a.value.toNat) else none
  | 4 => if lineOk then some (.set line) else none
  | 5 => if lineOk then some (.clear line) else none
  | _ => none

/-- R116: an action list, where every action is well formed. -/
def actionsOf : List ActionField → Option (List CueAction)
  | [] => some []
  | a :: rest =>
      match actionOf a, actionsOf rest with
      | some x, some xs => some (x :: xs)
      | _, _ => none

/-- CUE_DEFINE (R116). -/
def cmdCueDefine (seq cue : Byte) (actions : List ActionField) (s : State) : State :=
  if inRange 1 64 cue.toNat && decide (actions.length ≤ 4) then
    match actionsOf actions with
    | some list =>
        reply 0x28 seq .ok .bare
          { s with cues := { s.cues with defs := upd s.cues.defs (Fin.ofNat 64 (cue.toNat - 1)) fun _ => list } }
    | none => refuse 0x28 seq .badValue s
  else refuse 0x28 seq .badValue s

/-- CUE_READ (R117). It changes nothing of the engine; the model numbers its reply (log 14). -/
def cmdCueRead (seq cue : Byte) (s : State) : State :=
  if inRange 1 64 cue.toNat then
    let named := s.layout.marks.filter fun m => m.cue == cue.toNat
    { reply 0x29 seq .ok (.cue s.fresh (cueActions s cue.toNat) named.length (named.filter MarkRecord.armed).length) s with
      fresh := s.fresh + 1 }
  else refuse 0x29 seq .badValue s

/-- R127: what an OUTPUT_SET operation does to a line. -/
def lineOperation (operation : Nat) (ms : Nat) : CueLine → CueLine :=
  match operation with
  | 0 => CueLine.set
  | 1 => CueLine.clear
  | _ => CueLine.retrigger ms

/-- R127: an operation on every line whose bit is set in the mask. -/
def operateLines (mask : Byte) (operation ms : Nat) (lines : Vector CueLine 8) : Vector CueLine 8 :=
  (List.finRange 8).foldl
    (fun v i => if mask.getLsbD i.val then upd v i (lineOperation operation ms) else v) lines

/-- OUTPUT_SET (R127). -/
def cmdOutputSet (seq mask operation duration : Byte) (s : State) : State :=
  if 2 < operation.toNat ∨ (operation = 2 ∧ duration = 0) then refuse 0x2A seq .badValue s
  else
    let lines := operateLines mask operation.toNat (duration.toNat * 10) s.cues.lines
    reply 0x2A seq .ok (.lines lines) { s with cues := { s.cues with lines := lines } }

end Sys2Proof.Machine
end

