-- ==== Sys2Proof/Machine/HeadCommands.lean ====
section
/-! DEFINITION. HeadCommands.lean: what taking a head command does (R130 to R135, R144). -/

namespace Sys2Proof.Machine

/-- The head a head number names (R130). -/
def headOf (b : Byte) : Option (Fin 4) := if h : b.toNat < 4 then some ⟨b.toNat, h⟩ else none

/-- R129, R130: a geometry from its fields, where every setting but the reading row lies in its range. -/
def geometryOf (width height : Word16) (scale leading : Byte) (margin : Word16) (readingRow rate : Byte) :
    Option Geometry :=
  match rateOf rate with
  | none => none
  | some r =>
      if inRange 320 1920 width.toNat && decide (width.toNat % 16 = 0) && inRange 240 1080 height.toNat
          && inRange 1 4 scale.toNat && inRange 0 31 leading.toNat && inRange 0 256 margin.toNat
          && decide (margin.toNat % 16 = 0) then
        some ⟨width.toNat, height.toNat, scale.toNat, leading.toNat, margin.toNat, readingRow.toNat, r⟩
      else none

/-- R130: checks 2 to 5 of HEAD_CONFIG, in order. -/
def headConfigFault (h : Fin 4) (g : Geometry) (s : State) : Option Reason :=
  if s.heads[h].state ≠ .disabled then some .headActive
  else if !inRange 1 15 g.windowRows then some .rowsExceed
  else if g.windowRows ≤ g.readingRow then some .badValue
  else if !g.holdsRows s.layout then some .headTooNarrow
  else none

/-- HEAD_CONFIG (R130). A new nominal rate can change the rate of the source in use (R90). -/
def cmdHeadConfig (seq head : Byte) (width height : Word16) (scale leading : Byte) (margin : Word16)
    (readingRow rate : Byte) (s : State) : State :=
  match headOf head, geometryOf width height scale leading margin readingRow rate with
  | some h, some g =>
      match headConfigFault h g s with
      | some r => refuse 0x30 seq r s
      | none =>
          reply 0x30 seq .ok (.geometry g.pitch g.windowRows)
            (refreshSource (s.modHead h fun x => { x with geometry := g }))
  | _, _ => refuse 0x30 seq .badValue s

/-- R131: a head prepared for STARTING. -/
def Head.prepare (h : Head) : Head :=
  { h.clearBand with
    bias := 0
    window := ⟨0, 0, 0, 0⟩
    degraded := false
    syncLost := false
    syncTimer := some 0
    frame := none }

/-- HEAD_START (R131). -/
def cmdHeadStart (seq head : Byte) (s : State) : State :=
  match headOf head with
  | none => refuse 0x31 seq .badValue s
  | some h =>
      if s.heads[h].state ≠ .disabled then refuse 0x31 seq .headActive s
      else if !s.heads[h].geometry.holdsRows s.layout then refuse 0x31 seq .headTooNarrow s
      else reply 0x31 seq .ok .bare (setHeadState h .starting (s.modHead h Head.prepare))

/-- R135: a head is stopped. -/
def stopHead (h : Fin 4) (s : State) : State :=
  match s.heads[h].state with
  | .disabled | .stopping => s
  | .starting | .running | .blanked =>
      if inRender h s then
        clearDegraded h (setHeadState h .stopping (s.modHead h Head.clearRequests))
      else enterDisabled h s

/-- HEAD_STOP (R135). For a head that it leaves as it is, the reply gives the state the head is in (log 44). -/
def cmdHeadStop (seq head : Byte) (s : State) : State :=
  match headOf head with
  | none => refuse 0x32 seq .badValue s
  | some h =>
      let s' := stopHead h s
      reply 0x32 seq .ok (.headState s'.heads[h].state) s'

/-- HEAD_BLANK (R134). -/
def cmdHeadBlank (seq head : Byte) (s : State) : State :=
  match headOf head with
  | none => refuse 0x33 seq .badValue s
  | some h =>
      if s.heads[h].state = .starting ∨ s.heads[h].state = .running then
        reply 0x33 seq .ok .bare
          (clearDegraded h (setHeadState h .blanked (s.modHead h Head.clearRequests)))
      else refuse 0x33 seq .notRunning s

/-- HEAD_UNBLANK (R134). -/
def cmdHeadUnblank (seq head : Byte) (s : State) : State :=
  match headOf head with
  | none => refuse 0x34 seq .badValue s
  | some h =>
      match s.heads[h].state with
      | .blanked => reply 0x34 seq .ok .bare (setHeadState h .starting s)
      | .starting | .running => reply 0x34 seq .ok .bare s
      | .disabled | .stopping => refuse 0x34 seq .notRunning s

/-- R132, R170: an appearance record from its fields, where every on/off field is 0 or 1. -/
def appearanceOf (f : AppearanceFields) : Option Appearance :=
  if yesNoOk f.mirror && yesNoOk f.flip && yesNoOk f.marker && yesNoOk f.arrows then
    some
      { mirror := decide (f.mirror = 1)
        flip := decide (f.flip = 1)
        text := #v[f.text0, f.text1, f.text2, f.text3]
        background := f.background
        marker := decide (f.marker = 1)
        markerColour := f.markerColour
        arrows := decide (f.arrows = 1) }
  else none

/-- R132: a new appearance is made pending; a DISABLED head puts it in force at once. -/
def Head.offerAppearance (a : Appearance) (h : Head) : Head :=
  let h' := { h with pendingAppearance := some a }
  if h.state = .disabled then h'.takeAppearance else h'

/-- HEAD_APPEARANCE (R132). -/
def cmdHeadAppearance (seq head : Byte) (f : AppearanceFields) (s : State) : State :=
  match headOf head, appearanceOf f with
  | some h, some a => reply 0x35 seq .ok .bare (s.modHead h (Head.offerAppearance a))
  | _, _ => refuse 0x35 seq .badValue s

/-- R144: what HEAD_READ gives of a half. -/
def halfFields (x : BandHalf) : HalfFields :=
  ⟨x.block, x.remaining.length, if x.remaining.isEmpty then none else some x.urgent⟩

/-- Whether a slot is RENDERING (R137). -/
def Slot.isRendering : Slot → Bool
  | .rendering _ => true
  | .empty => false
  | .valid _ _ => false

/-- Whether a slot is VALID (R137). -/
def Slot.isValid : Slot → Bool
  | .valid _ _ => true
  | .empty => false
  | .rendering _ => false

/-- R144: what HEAD_READ gives of a head. -/
def headFields (h : Head) : HeadFields :=
  { geometry := h.geometry
    appearance := h.appearance
    pendingAppearance := h.pendingAppearance
    state := h.state
    syncLost := h.syncLost
    degraded := h.degraded
    bias := h.bias
    halves := updAll h.halves halfFields
    emptySlots := h.slots.toList.countP (· == .empty)
    renderingSlots := h.slots.toList.countP Slot.isRendering
    validSlots := h.slots.toList.countP Slot.isValid
    window := h.window }

/-- HEAD_READ (R144). -/
def cmdHeadRead (seq head : Byte) (s : State) : State :=
  match headOf head with
  | none => refuse 0x36 seq .badValue s
  | some h => reply 0x36 seq .ok (.head (headFields s.heads[h])) s

end Sys2Proof.Machine
end

