-- ==== Sys2Proof/Machine/Wire.lean ====
section
/-! DEFINITION. Wire.lean: the frames the engine sends (R158) and the layouts of replies, notices and position reports (R170,
R171). -/

namespace Sys2Proof.Machine

/-- A number as `n` bytes, little-endian (R170). -/
def le : Nat → Nat → List Byte
  | 0, _ => []
  | n + 1, x => BitVec.ofNat 8 x :: le n (x / 256)

/-- A signed number as `n` bytes, two's complement (R170). -/
def leSigned (n : Nat) (x : Int) : List Byte := le n (x % (256 ^ n : Nat)).toNat

/-- A yes/no field (R170). -/
def yesNo (b : Bool) : Byte := if b then 1 else 0

/-- A frame on the link: SYNC, LEN, the payload and CHECK (R158). -/
def frameBytes (payload : List Byte) : List Byte :=
  let len : Byte := BitVec.ofNat 8 payload.length
  0xC3 :: len :: payload ++ [-(len + payload.sum)]

/-! ## Codes of R170's value sets -/

/-- R170. -/
def ScrollState.code : ScrollState → Byte
  | .idle => 0 | .stopped => 1 | .cruise => 2 | .manual => 3 | .held => 4

/-- R170. -/
def Direction.code : Direction → Byte
  | .forward => 0 | .backward => 1

/-- R170. -/
def StoryState.code : StoryState → Byte
  | .ready => 0 | .onAir => 1 | .read => 2 | .skipped => 3

/-- R170. -/
def EditKind.code : EditKind → Byte
  | .replace => 0 | .insert => 1 | .delete => 2 | .move => 3 | .skip => 4 | .unskip => 5

/-- R170. -/
def FrameSource.code : FrameSource → Byte
  | .head n => BitVec.ofNat 8 n.val | .internal _ => 4

/-- R170. -/
def Rate.code : Rate → Byte
  | .hz50 => 0 | .hz5994 => 1 | .hz60 => 2

/-- R170. -/
def Role.code : Role → Byte
  | .operator => 0 | .presenter => 1

/-- R170: the code of a kind, 0 for none. -/
def kindCode : Option ControllerKind → Byte
  | none => 0 | some .lever => 1 | some .pedal => 2 | some .wheel => 3 | some .keypad => 4

/-- R170. -/
def PortState.code : PortState → Byte
  | .empty => 0 | .live => 1 | .stale => 2 | .off => 3

/-- R170. -/
def HeadState.code : HeadState → Byte
  | .disabled => 0 | .starting => 1 | .running => 2 | .blanked => 3 | .stopping => 4

/-- R170: the class of a half, 0 when it is no request. -/
def classCode : Option Bool → Byte
  | none => 0 | some true => 1 | some false => 2

/-- R170: the cause of a SCROLL_STATE notice and the byte after it. -/
def ScrollCause.code : ScrollCause → List Byte
  | .host => [0, 0] | .port n => [1, BitVec.ofNat 8 n.val] | .atEnd => [2, 0] | .atTop => [3, 0]
  | .pause cue => [4, BitVec.ofNat 8 cue] | .script => [5, 0] | .controlLost => [6, 0]

/-- R170. -/
def AuthorityCause.code : AuthorityCause → Byte
  | .taken => 0 | .released => 1 | .stopped => 2 | .ended => 3 | .controlLost => 4

/-- R170. -/
def StartCause.code : StartCause → Byte
  | .power => 0 | .pin => 1 | .command => 2

/-- R170. -/
def linkRateCode : LinkRate → Byte
  | .baud115200 => 0 | .baud230400 => 1 | .baud460800 => 2 | .baud921600 => 3

/-- R171. -/
def Reason.code : Reason → Byte
  | .unknownCommand => 16 | .badLength => 17 | .badValue => 18 | .busy => 19 | .noSlot => 20 | .poolFull => 21
  | .storyExists => 22 | .noStory => 23 | .storyLimit => 24 | .markLimit => 25 | .countShort => 26 | .countOver => 27
  | .noLoad => 28 | .editQueueFull => 29 | .noEdit => 30 | .rowLimit => 31 | .headActive => 32 | .headTooNarrow => 33
  | .rowsExceed => 34 | .curveOrder => 35 | .heldByControl => 36 | .notRunning => 37 | .tagInUse => 38

/-- R162, R171: the result byte. -/
def Result.code : Result → Byte
  | .ok => 0 | .deferred => 1 | .reason r => r.code

/-- R171: the flags byte. -/
def flagsByte (truncated badMark : Bool) : Byte := (if truncated then 1 else 0) + (if badMark then 2 else 0)

/-- R170: a port field, FFh for none. -/
def portByteOf : Option (Fin 6) → Byte
  | none => 0xFF | some n => BitVec.ofNat 8 n.val

/-! ## Shared layouts -/

/-- R170: the seven bytes of an anchor. The character index of SLUG and END, which R56 calls absent, is sent as 0 (log 45). -/
def anchorBytes : Option Anchor → List Byte
  | none => le 2 0 ++ le 2 0xFFFF ++ [0] ++ le 2 0
  | some a => match a.place with
    | .line l i => le 2 a.story ++ le 2 l ++ [BitVec.ofNat 8 i] ++ le 2 a.fraction
    | .slug => le 2 a.story ++ le 2 0xFFFE ++ [0] ++ le 2 a.fraction
    | .storyEnd => le 2 a.story ++ le 2 0xFFFD ++ [0] ++ le 2 a.fraction

/-- R170: a cue action as CUE_READ gives it; a field its kind does not use is a free value (log 14). -/
def actionBytes (nonce index : Nat) : CueAction → List Byte
  | .pause =>
      [1, Config.unusedActionByte nonce index 1, Config.unusedActionByte nonce index 2, Config.unusedActionByte nonce index 3]
  | .cruise x => [2, Config.unusedActionByte nonce index 1] ++ leSigned 2 x
  | .pulse l steps => [3, BitVec.ofNat 8 l.val] ++ le 2 steps
  | .set l => [4, BitVec.ofNat 8 l.val, Config.unusedActionByte nonce index 2, Config.unusedActionByte nonce index 3]
  | .clear l => [5, BitVec.ofNat 8 l.val, Config.unusedActionByte nonce index 2, Config.unusedActionByte nonce index 3]

/-- R166: the sixteen capacities, in its order. -/
def capacities : List Nat :=
  [Config.maxStories, Config.poolSlots, Config.maxLines, Config.maxLineBytes, Config.maxRows, Config.loadSlots,
    Config.maxPending, Config.maxMarks, 64, 6, 4, 8, Config.queueSize, Config.queueSize, Config.noticeQueueSize,
    Config.maxPayload]

/-- R170: the HEAD_CONFIG fields from width to nominal rate. -/
def geometryBytes (g : Geometry) : List Byte :=
  le 2 g.width ++ le 2 g.height ++ le 1 g.scale ++ le 1 g.leading ++ le 2 g.margin ++ le 1 g.readingRow ++ [g.rate.code]

/-- R170: an appearance record as in HEAD_APPEARANCE after the head. -/
def appearanceBytes (a : Appearance) : List Byte :=
  [yesNo a.mirror, yesNo a.flip] ++ bytesColour a.text[0] ++ bytesColour a.text[1] ++ bytesColour a.text[2]
    ++ bytesColour a.text[3] ++ bytesColour a.background ++ [yesNo a.marker] ++ bytesColour a.markerColour ++ [yesNo a.arrows]

/-- R170: one half of HEAD_READ; 80000000h stands for no block. -/
def halfBytes (h : HalfFields) : List Byte :=
  (match h.block with
    | some b => leSigned 4 b
    | none => le 4 0x80000000) ++ le 1 h.remaining ++ [classCode h.urgent]

/-- R170: a window row of HEAD_READ, signed in two bytes; free where they cannot hold it (log 15). -/
def windowRowBytes (row : Int) : List Byte :=
  if -32768 ≤ row ∧ row ≤ 32767 then leSigned 2 row else bytes16 (Config.wideRow row)

/-- R170: the level mask or latch mask of the cue lines, bit k for line k. -/
def lineMask (f : CueLine → Bool) (lines : Vector CueLine 8) : Byte :=
  BitVec.ofNat 8 ((lines.toList.zipIdx.map fun (l, k) => if f l then 2 ^ k else 0).sum)

/-- R170: the fields of a reply from offset 4. -/
def ReplyBody.bytes : ReplyBody → List Byte
  | .bare => []
  | .deferred tag => le 2 tag
  | .identify rate => bytes16 Config.partCode ++ [Config.partRevision, linkRateCode rate] ++ capacities.flatMap (le 2)
  | .status f =>
      [f.state.code] ++ le 4 f.p ++ leSigned 2 f.v ++ [portByteOf (f.holder.map Holder.port), kindCode (f.holder.map Holder.kind)]
        ++ f.heads.toList.map HeadState.code ++ le 2 f.freeCount ++ le 1 f.pending ++ le 1 f.loads
        ++ [yesNo f.reflowing] ++ le 1 f.lost
  | .frameSource source rate => [source.code, rate.code]
  | .reporting n => le 1 n
  | .loadOpened tag => le 1 tag
  | .linesReceived n => le 2 n
  | .rowCount n => le 2 n
  | .totalRows n => le 2 n
  | .startRow n => le 2 n
  | .cancelled kind id => [kind.code] ++ le 2 id
  | .story f =>
      le 2 f.edition.toNat ++ le 1 f.index ++ [f.state.code] ++ le 2 f.revision.toNat ++ le 2 f.lineCount ++ le 2 f.rowCount
        ++ le 2 f.startRow ++ le 2 f.markCount ++ le 1 f.pendingCount ++ le 1 f.slug.length ++ f.slug
  | .rundown edition n first entries =>
      le 2 edition.toNat ++ le 1 n ++ le 1 first ++ le 1 entries.length
        ++ entries.flatMap fun e => le 2 e.id ++ [e.state.code] ++ le 1 e.pendingCount
  | .motion f => [f.state.code] ++ le 4 f.p ++ leSigned 2 f.v ++ leSigned 2 f.cruise
  | .position f =>
      le 4 f.p ++ leSigned 2 f.v ++ [f.state.code, f.direction.code] ++ leSigned 2 f.cruise ++ leSigned 2 f.lastDemand
        ++ le 2 f.rows ++ le 2 f.onAirId ++ anchorBytes f.anchor ++ [f.source.code, f.rate.code]
  | .cue nonce actions marks armed =>
      [yesNo !actions.isEmpty] ++ le 1 actions.length ++ (actions.zipIdx.flatMap fun (a, i) => actionBytes nonce i a)
        ++ le 2 marks ++ le 2 armed
  | .lines f => [lineMask CueLine.level f, lineMask CueLine.latch f] ++ f.toList.flatMap fun l => le 2 l.pulse
  | .geometry pitch rows => le 1 pitch ++ le 1 rows
  | .headState st => [st.code]
  | .head f =>
      geometryBytes f.geometry ++ le 1 f.geometry.pitch ++ le 1 f.geometry.windowRows ++ appearanceBytes f.appearance
        ++ [yesNo f.pendingAppearance.isSome]
        ++ (match f.pendingAppearance with
          | some a => appearanceBytes a
          | none => List.replicate 22 0)
        ++ [f.state.code, yesNo f.syncLost, yesNo f.degraded] ++ leSigned 4 f.bias ++ halfBytes f.halves[0]
        ++ halfBytes f.halves[1] ++ le 1 f.emptySlots ++ le 1 f.renderingSlots ++ le 1 f.validSlots
        ++ windowRowBytes f.window.topRow ++ windowRowBytes f.window.bottomRow ++ leSigned 2 f.window.readingRow

/-- R162, R170: the payload of a reply. -/
def Reply.payload (r : Reply) : List Byte :=
  [r.code, r.seq, r.result.code, flagsByte r.truncated r.badMark] ++ r.body.bytes

/-- R170: the payload of a notice; its sequence byte is 0. The flags of CUE_PASSED but UNDEFINED, which R121 and R170 do not name, are
sent as 0 (log 46). -/
def Notice.payload : Notice → List Byte
  | .started cause => [0x80, 0, cause.code] ++ bytes16 Config.partCode ++ [Config.partRevision]
  | .scrollState new previous p v cause => [0x81, 0, new.code, previous.code] ++ le 4 p ++ leSigned 2 v ++ cause.code
  | .onAir story => [0x83, 0] ++ le 2 story
  | .editApplied tag kind story => [0x84, 0] ++ le 2 tag ++ [kind.code] ++ le 2 story
  | .editDiscarded tag reason => [0x85, 0] ++ le 2 tag ++ [reason.code]
  | .loadAborted tag => [0x86, 0] ++ le 1 tag ++ [1]
  | .reflowDone ok columns generation rows =>
      [0x87, 0, if ok then 0 else Reason.rowLimit.code] ++ le 1 columns ++ le 2 generation.toNat ++ le 2 rows
  | .cuePassed cue story line char position isUndefined =>
      [0x88, 0] ++ le 1 cue ++ le 2 story ++ le 2 line ++ le 1 char ++ le 4 position ++ [yesNo isUndefined]
  | .authority holder previous cause =>
      [0x89, 0, portByteOf (holder.map Holder.port),
        (match holder with
          | some h => h.role.code
          | none => 0),
        kindCode (holder.map Holder.kind), portByteOf previous, cause.code]
  | .contention port role holder =>
      [0x8A, 0, portByteOf (some port), role.code, portByteOf (some holder.port), holder.role.code]
  | .portState port new previous kind => [0x8B, 0, portByteOf (some port), new.code, previous.code, kindCode kind]
  | .headState head new previous => [0x8C, 0, BitVec.ofNat 8 head.val, new.code, previous.code]
  | .headDegraded head missing => [0x8D, 0, BitVec.ofNat 8 head.val] ++ le 1 missing
  | .headClear head => [0x8E, 0, BitVec.ofNat 8 head.val]
  | .markKey port p anchor => [0x8F, 0, portByteOf (some port)] ++ le 4 p ++ anchorBytes anchor
  | .syncState head present => [0x90, 0, BitVec.ofNat 8 head.val, yesNo present]

/-- R164, R170: the payload of a POSITION frame. -/
def Report.payload (r : Report) : List Byte :=
  [0x82, 0, r.number] ++ le 4 r.p ++ leSigned 2 r.v ++ [r.state.code] ++ le 2 r.onAirId ++ anchorBytes r.anchor

end Sys2Proof.Machine
end

