-- ==== Sys2Proof/Machine/LinkOps.lean ====
section
/-! DEFINITION. LinkOps.lean: the device commands (R166 to R169), the full reset (R169), the command interpreter (R161), the link
receiver (R159, R160) and transmitter (R162 to R165), and the passing of a millisecond. -/

namespace Sys2Proof.Machine

/-! ## Device commands (R166 to R169) -/

/-- IDENTIFY (R166). -/
def cmdIdentify (seq : Byte) (s : State) : State := reply 0x01 seq .ok (.identify s.link.rate) s

/-- R167: what STATUS gives. -/
def statusFields (s : State) : StatusFields :=
  { state := s.scroll.state, p := s.scroll.p, v := s.scroll.v, holder := s.hub.holder, heads := updAll s.heads Head.state,
    freeCount := s.store.freeCount, pending := s.edit.pending.length, loads := s.edit.loads.length,
    reflowing := s.reflowing, lost := s.link.lost }

/-- STATUS (R167): the reply is built, and the lost-notice count set to 0. -/
def cmdStatus (seq : Byte) (s : State) : State :=
  let s' := reply 0x02 seq .ok (.status (statusFields s)) s
  { s' with link := { s'.link with lost := 0 } }

/-- RESTART (R169): the reply joins the queue, and no further command is taken. -/
def cmdRestart (seq : Byte) (s : State) : State :=
  let s' := reply 0x03 seq .ok .bare s
  { s' with link := { s'.link with restart := .replying } }

/-- A frame with a code that is no command's (R161, R162): the reply code is 7Fh, whatever the code. -/
def cmdUnknown (seq : Byte) (s : State) : State := refuse 0x3F seq .unknownCommand s

/-- BAD_LENGTH (R161). The scroll commands, 20h..23h, carry their fields with every result (R170, log 40). -/
def badLengthReply (code seq : Byte) (s : State) : State :=
  if inRange 0x20 0x23 code.toNat then motionReply code seq (.reason .badLength) s else refuse code seq .badLength s

/-- R114: the control hub after CLEAR_SHOW. -/
def clearHub (h : Hub) : Hub :=
  { h with
    ports := updAll h.ports fun x => if x.state = .live then { x with mustRest := true } else x
    holder := none
    releaseTimer := none }

/-- R20, R37, R62, R66, R92, R114, R128, R145, R146, R164: every block after CLEAR_SHOW. -/
def clearShow (s : State) : State :=
  { s with
    store := { stories := [], insertions := 0, edition := 0, onAirId := 0, freeCount := Config.poolSlots }
    edit := { s.edit with loads := [], pending := [] }
    layout := { s.layout with target := none, marks := [] }
    scroll :=
      { s.scroll with p := 0, v := 0, cruise := 0, state := .idle, direction := .forward, lastDemand := 0 }
    hub := clearHub s.hub
    heads := updAll s.heads fun h => { h.clearBand with bias := 0 }
    link := { s.link with slot := none } }

/-- CLEAR_SHOW (R168). -/
def cmdClearShow (seq : Byte) (s : State) : State := reply 0x04 seq .ok .bare (clearShow s)

/-! ## Full reset (R169) -/

/-- R169: a full reset with its cause, the link rate taken from the straps; STARTED is raised last and sent first. The model's
queue and its numbering of free values are not the engine's and stay. -/
def fullReset (cause : StartCause) (rate : LinkRate) (s : State) : State :=
  { State.reset with
    pending := s.pending
    fresh := s.fresh
    link := { State.reset.link with notices := [.started cause], rate := rate } }

/-- R169: the engine while the RESET input is held: every block at its full-reset values, the transmit line idle. -/
def heldInReset (s : State) : State :=
  { State.reset with
    pending := s.pending
    fresh := s.fresh
    resetHeld := true
    link := { State.reset.link with notices := [], sending := none, rate := s.link.rate } }

/-- R169: the full reset that follows a RESTART, when the last byte of its reply has been sent: the reply is the last in its
queue and is being sent, or has been sent (log 26). -/
def restartReset (rate : LinkRate) (s : State) : State :=
  match s.link.restart with
  | .due => fullReset .command rate s
  | .replying =>
      if s.link.sending = some .reply ∧ s.link.replies.length = 1 then fullReset .command rate s else s
  | .none => s

/-! ## The command interpreter (R161) -/

/-- R161: a command taken is carried out by its owning block. Events are no commands and do nothing here. -/
def runCommand (i : Instr) (s : State) : State :=
  match i with
  | .identify seq => cmdIdentify seq s
  | .status seq => cmdStatus seq s
  | .restart seq => cmdRestart seq s
  | .clearShow seq => cmdClearShow seq s
  | .unknownCommand _ seq _ => cmdUnknown seq s
  | .setColumns seq c => cmdSetColumns seq c s
  | .setMotion seq vmax a b delay priority k p => cmdSetMotion seq vmax a b delay priority k p s
  | .setCurve seq q => cmdSetCurve seq q s
  | .setPort seq port enabled role timeout gain dead reverse step =>
      cmdSetPort seq port enabled role timeout gain dead reverse step s
  | .setFrameSource seq source rate => cmdSetFrameSource seq source rate s
  | .setReporting seq interval => cmdSetReporting seq interval s
  | .loadOpen seq tag editTag mode story n placeKind placeId force slug =>
      cmdLoadOpen seq tag editTag mode story n placeKind placeId force slug s
  | .loadLine seq tag text => cmdLoadLine seq tag text s
  | .loadLast seq tag text => cmdLoadLast seq tag text s
  | .loadCancel seq tag => cmdLoadCancel seq tag s
  | .storyDelete seq editTag story force => cmdStoryDelete seq editTag story force s
  | .storyMove seq editTag story placeKind placeId force => cmdStoryMove seq editTag story placeKind placeId force s
  | .storySkip seq editTag story request force => cmdStorySkip seq editTag story request force s
  | .editCancel seq editTag => cmdEditCancel seq editTag s
  | .readStory seq story => cmdReadStory seq story s
  | .readRundown seq first => cmdReadRundown seq first s
  | .scrollStop seq => cmdScrollStop seq s
  | .scrollResume seq => cmdScrollResume seq s
  | .scrollSpeed seq speed => cmdScrollSpeed seq speed s
  | .jump seq kind story line rows => cmdJump seq kind story line rows s
  | .readPosition seq => cmdReadPosition seq s
  | .cueDefine seq cue actions => cmdCueDefine seq cue actions s
  | .cueRead seq cue => cmdCueRead seq cue s
  | .outputSet seq mask operation duration => cmdOutputSet seq mask operation duration s
  | .headConfig seq head width height scale leading margin readingRow rate =>
      cmdHeadConfig seq head width height scale leading margin readingRow rate s
  | .headStart seq head => cmdHeadStart seq head s
  | .headStop seq head => cmdHeadStop seq head s
  | .headBlank seq head => cmdHeadBlank seq head s
  | .headUnblank seq head => cmdHeadUnblank seq head s
  | .headAppearance seq head f => cmdHeadAppearance seq head f s
  | .headRead seq head => cmdHeadRead seq head s
  | .linkFrame _ => s
  | .byteGapTimeout => s
  | .lineBreak => s
  | .transmitDone => s
  | .controllerReport _ _ => s
  | .portByteGapTimeout _ => s
  | .reportTimeout _ => s
  | .releaseTimerExpiry => s
  | .loadIdleTimeout _ => s
  | .internalTimerExpiry => s
  | .scrollFrame => s
  | .frameStart _ => s
  | .syncLossExpiry _ => s
  | .renderComplete => s
  | .pulseEnd _ => s
  | .reflowComplete => s
  | .powerUp _ => s
  | .resetPinAssert => s
  | .resetPinRelease _ => s
  | .restartReset _ => s

/-- R161: checks 1 and 2 of a payload, and the command carried out or refused. -/
def interpret (payload : List Byte) (s : State) : State :=
  match parsePayload payload with
  | .command i => runCommand i s
  | .badLength code seq => badLengthReply code seq s

/-- R161, R169: the interpreter can take a command: the reply queue has room, and no RESTART has been taken. -/
def readyToTake (s : State) : Bool :=
  decide (s.link.replies.length < Config.queueSize) && decide (s.link.restart = .none)

/-- R161: the interpreter takes the oldest waiting frame, when it can. -/
def takeNext (s : State) : State :=
  match s.link.received with
  | [] => s
  | payload :: rest =>
      if readyToTake s then interpret payload { s with link := { s.link with received := rest } } else s

/-- R160: a complete frame joins the receive queue, or is discarded when it holds 4. -/
def joinReceived (payload : List Byte) (s : State) : State :=
  if s.link.received.length < Config.queueSize then
    { s with link := { s.link with received := s.link.received ++ [payload] } }
  else s

/-- R160, R161: a frame is handed to the receive queue and taken if it can be; an idle transmitter then chooses. -/
def frameArrives (payload : List Byte) (s : State) : State := pump (takeNext (joinReceived payload s))

/-- R161: whether a command that arrives now is taken at once. -/
def canTake (s : State) : Bool := s.link.received.isEmpty && readyToTake s

/-! ## The link receiver (R159) -/

/-- What the link receiver makes of one byte (R159): its next state, and the payload of a frame the byte completes. -/
def linkByte (r : Receiver) (b : Byte) : Receiver × Option (List Byte) :=
  match r with
  | .hunting => if b = 0xC3 then (.inFrame [] 0, none) else (.hunting, none)
  | .inFrame got _ =>
      let got' := got ++ [b]
      if lenOf got' < 2 ∨ Config.maxPayload < lenOf got' then (.hunting, none)
      else if got'.length = lenOf got' + 2 then
        (.hunting, if got'.sum = 0 then some (got'.tail.dropLast) else none)
      else (.inFrame got' 0, none)

/-- R159, R160: one byte on the command link. -/
def receiveByte (s : State) (b : Byte) : State :=
  let r := linkByte s.link.receiver b
  let s' := { s with link := { s.link with receiver := r.1 } }
  match r.2 with
  | some payload => frameArrives payload s'
  | none => s'

/-- R159: the frame in progress is discarded and the receiver hunts. -/
def dropFrame (s : State) : State := { s with link := { s.link with receiver := .hunting } }

/-! ## The transmitter (R162 to R165) -/

/-- R162, R169: the oldest reply has been sent and leaves; when it is the reply to a RESTART, the full reset is due; otherwise the
room it makes lets a waiting command be taken. -/
def replySent (s : State) : State :=
  let rest := s.link.replies.tail
  let due := s.link.restart = .replying ∧ rest = []
  takeNext
    { s with link :=
        { s.link with
          replies := rest
          sending := none
          restart := if due then .due else s.link.restart } }

/-- R163, R165: the transmitter finishes its frame, which leaves its queue. -/
def transmitDone (s : State) : State :=
  match s.link.sending with
  | none => s
  | some .reply => replySent s
  | some .notice => { s with link := { s.link with notices := s.link.notices.tail, sending := none } }
  | some (.report _) => { s with link := { s.link with sending := none } }

/-! ## Time (log 2) -/

/-- A byte gap grows by a millisecond; a frame whose gap passes 20 ms is discarded (R94, R159). -/
def tickReceiver : Receiver → Receiver
  | .hunting => .hunting
  | .inFrame got gap => if Config.byteGapLimit < gap + 1 then .hunting else .inFrame got (gap + 1)

/-- A timer that reaches its limit within the millisecond. -/
def reaches (timer : Option Nat) (limit : Nat) : Bool :=
  match timer with
  | some t => decide (limit ≤ t + 1)
  | none => false

/-- R98: a port's report timer and byte gap over a millisecond. -/
def tickPort (s : State) (n : Fin 6) : State :=
  let s' := s.modPort n fun x => { x with receiver := tickReceiver x.receiver }
  if reaches s.hub.ports[n].timer s.hub.ports[n].armedTimeout then reportTimeout n s'
  else s'.modPort n fun x => { x with timer := x.timer.map (· + 1) }

/-- R109, R110: the release timer over a millisecond. -/
def tickRelease (s : State) : State :=
  if reaches s.hub.releaseTimer s.hub.releaseDelay then releaseExpiry s
  else s.setReleaseTimer (s.hub.releaseTimer.map (· + 1))

/-- R28: one load's idle time over a millisecond. -/
def tickLoad (s : State) (tag : Nat) : State :=
  match findLoad s tag with
  | none => s
  | some l =>
      if Config.loadIdleLimit ≤ l.idle + 1 then loadIdleExpiry tag s
      else s.setLoads (mapLoad s.edit.loads tag fun x => { x with idle := x.idle + 1 })

/-- R136: a head's sync-loss timer over a millisecond. -/
def tickHead (s : State) (h : Fin 4) : State :=
  if reaches s.heads[h].syncTimer s.heads[h].geometry.rate.syncLimit then syncLoss h s
  else s.modHead h fun x => { x with syncTimer := x.syncTimer.map (· + 1) }

/-- R125: a cue line's pulse over a millisecond. -/
def CueLine.tick (l : CueLine) : CueLine := { l with pulse := l.pulse - 1 }

/-- R89: the internal frame timer over a millisecond, 60 of its units (log 29). -/
def tickFrameTimer (s : State) : State :=
  match s.scroll.frameTimer, s.scroll.inUse with
  | some t, .internal r =>
      if r.period ≤ t + 60 then internalExpiry (t + 60 - r.period) s
      else { s with scroll := { s.scroll with frameTimer := some (t + 60) } }
  | _, _ => s

/-- One millisecond of the time base passes; timers that run out expire, in the order of log 4. The internal frame timer counts the
millisecond before the heads do, so that one that a sync loss starts begins at 0 (R89, R90). -/
def tickMs (s : State) : State :=
  let s1 := { s with link := { s.link with receiver := tickReceiver s.link.receiver } }
  let s2 := (List.finRange 6).foldl tickPort s1
  let s3 := tickRelease s2
  let s4 := (s3.edit.loads.map Load.tag).foldl tickLoad s3
  let s5 := tickFrameTimer s4
  let s6 := (List.finRange 4).foldl tickHead s5
  { s6 with cues := { s6.cues with lines := updAll s6.cues.lines CueLine.tick } }

/-- What the engine does by itself when no command or event waits: it takes a scroll frame that is owed, or a millisecond passes
(logs 2, 6). Held in reset it does nothing (R169). -/
def tick (s : State) : State :=
  if s.resetHeld then s
  else if 0 < s.scroll.framesOwed then pump (takeFrame s)
  else pump (tickMs s)

/-! ## Rows of the table -/

/-- A host command arrives whole on the link (log 5). Taken at once, it is carried out by `run`; otherwise its frame goes to the
receive queue. A payload no frame can carry is discarded (R158, R159, log 33). Held in reset, the engine takes nothing (R169). -/
def submit (i : Instr) (run : State → State) (s : State) : Host.Outcome State Fault Refusal :=
  if s.resetHeld || decide (Config.maxPayload < (payloadOf i).length) then .next s
  else if canTake s then .next (pump (run s))
  else .next (frameArrives (payloadOf i) s)

/-- An event of the engine, after which an idle transmitter chooses (R165). Held in reset, nothing happens (R169, log 27). -/
def live (f : State → State) (s : State) : Host.Outcome State Fault Refusal :=
  if s.resetHeld then .next s else .next (pump (f s))

/-! ## Outputs -/

/-- R160, R169: the link-ready line. -/
def linkReady (s : State) : Bool := decide (s.link.received.length < Config.queueSize) && !s.resetHeld

/-- R158, R165: the frame on the transmit line, if one is being sent. -/
def txFrame (s : State) : Option (List Byte) :=
  match s.link.sending with
  | none => none
  | some .reply => s.link.replies.head?.map fun r => frameBytes r.payload
  | some .notice => s.link.notices.head?.map fun n => frameBytes n.payload
  | some (.report r) => some (frameBytes r.payload)

/-- R125: the level of a cue line at its output. -/
def lineLevel (s : State) (l : Fin 8) : Bool := s.cues.lines[l].level

end Sys2Proof.Machine
end

