-- ==== Sys2Proof/Machine/Heads.lean ====
section
/-! DEFINITION. Heads.lean: the meanings of the head commands and of the events of the heads and the render unit. -/

namespace Sys2Proof.Machine

/-- HEAD_CONFIG (R130). -/
def execHeadConfig (seq head : Byte) (width height : Word16) (scale leading : Byte) (margin : Word16)
    (readingRow rate : Byte) (s : State) : Host.Outcome State Fault Refusal :=
  submit (.headConfig seq head width height scale leading margin readingRow rate)
    (cmdHeadConfig seq head width height scale leading margin readingRow rate) s

/-- HEAD_START (R131). -/
def execHeadStart (seq head : Byte) (s : State) : Host.Outcome State Fault Refusal :=
  submit (.headStart seq head) (cmdHeadStart seq head) s

/-- HEAD_STOP (R135). -/
def execHeadStop (seq head : Byte) (s : State) : Host.Outcome State Fault Refusal :=
  submit (.headStop seq head) (cmdHeadStop seq head) s

/-- HEAD_BLANK (R134). -/
def execHeadBlank (seq head : Byte) (s : State) : Host.Outcome State Fault Refusal :=
  submit (.headBlank seq head) (cmdHeadBlank seq head) s

/-- HEAD_UNBLANK (R134). -/
def execHeadUnblank (seq head : Byte) (s : State) : Host.Outcome State Fault Refusal :=
  submit (.headUnblank seq head) (cmdHeadUnblank seq head) s

/-- HEAD_APPEARANCE (R132). -/
def execHeadAppearance (seq head : Byte) (fields : AppearanceFields) (s : State) : Host.Outcome State Fault Refusal :=
  submit (.headAppearance seq head fields) (cmdHeadAppearance seq head fields) s

/-- HEAD_READ (R144). -/
def execHeadRead (seq head : Byte) (s : State) : Host.Outcome State Fault Refusal :=
  submit (.headRead seq head) (cmdHeadRead seq head) s

/-- A head's frame start (R139). -/
def execFrameStart (head : Fin 4) (s : State) : Host.Outcome State Fault Refusal := live (frameStart head) s

/-- A head's sync-loss timer expires (R136). -/
def execSyncLossExpiry (head : Fin 4) (s : State) : Host.Outcome State Fault Refusal := live (syncLoss head) s

/-- The render unit completes its job (R156). -/
def execRenderComplete (s : State) : Host.Outcome State Fault Refusal := live renderComplete s

end Sys2Proof.Machine
end

