-- ==== Sys2Proof/Machine/Link.lean ====
section
/-! DEFINITION. Link.lean: the meanings of the device commands, of the command link's events and of the resets. -/

namespace Sys2Proof.Machine

/-- IDENTIFY (R166). -/
def execIdentify (seq : Byte) (s : State) : Host.Outcome State Fault Refusal := submit (.identify seq) (cmdIdentify seq) s

/-- STATUS (R167). -/
def execStatus (seq : Byte) (s : State) : Host.Outcome State Fault Refusal := submit (.status seq) (cmdStatus seq) s

/-- RESTART (R169). -/
def execRestart (seq : Byte) (s : State) : Host.Outcome State Fault Refusal := submit (.restart seq) (cmdRestart seq) s

/-- CLEAR_SHOW (R168). -/
def execClearShow (seq : Byte) (s : State) : Host.Outcome State Fault Refusal := submit (.clearShow seq) (cmdClearShow seq) s

/-- A frame whose code is no command's (R161). The interpreter checks the code it finds. -/
def execUnknownCommand (code seq : Byte) (rest : List Byte) (s : State) : Host.Outcome State Fault Refusal :=
  submit (.unknownCommand code seq rest) (interpret (code :: seq :: rest)) s

/-- SET_REPORTING (R164). -/
def execSetReporting (seq interval : Byte) (s : State) : Host.Outcome State Fault Refusal :=
  submit (.setReporting seq interval) (cmdSetReporting seq interval) s

/-- Bytes on the command link (R159, log 31). Held in reset the receiver takes none. -/
def execLinkFrame (bytes : List Byte) (s : State) : Host.Outcome State Fault Refusal :=
  if s.resetHeld then .next s else .next (bytes.foldl receiveByte s)

/-- The link receiver's byte-gap timer passes 20 ms (R159). -/
def execByteGapTimeout (s : State) : Host.Outcome State Fault Refusal := live dropFrame s

/-- A bad stop bit or a break on the link (R159). -/
def execLineBreak (s : State) : Host.Outcome State Fault Refusal := live dropFrame s

/-- The transmitter finishes a frame (R165). -/
def execTransmitDone (s : State) : Host.Outcome State Fault Refusal := live transmitDone s

/-- Power-up (R169). -/
def execPowerUp (straps : LinkRate) (s : State) : Host.Outcome State Fault Refusal :=
  if s.resetHeld then .next s else .next (fullReset .power straps s)

/-- The RESET input is held (R169). -/
def execResetPinAssert (s : State) : Host.Outcome State Fault Refusal := .next (heldInReset s)

/-- The RESET input is released (R169). -/
def execResetPinRelease (straps : LinkRate) (s : State) : Host.Outcome State Fault Refusal :=
  .next (fullReset .pin straps s)

/-- The full reset a RESTART leads to (R169). -/
def execRestartReset (straps : LinkRate) (s : State) : Host.Outcome State Fault Refusal := live (restartReset straps) s

end Sys2Proof.Machine
end

