-- ==== Sys2Proof/Machine/Motion.lean ====
section
/-! DEFINITION. Motion.lean: the meanings of the motion settings, the scroll commands, the cue commands, and the events of the
scroll controller and the cue lines. -/

namespace Sys2Proof.Machine

/-- SET_MOTION (R91). -/
def execSetMotion (seq : Byte) (vmax a b delay : Word16) (priority : Byte) (k : Word16) (p : Byte) (s : State) :
    Host.Outcome State Fault Refusal :=
  submit (.setMotion seq vmax a b delay priority k p) (cmdSetMotion seq vmax a b delay priority k p) s

/-- SET_CURVE (R75). -/
def execSetCurve (seq : Byte) (q : Vector Word16 9) (s : State) : Host.Outcome State Fault Refusal :=
  submit (.setCurve seq q) (cmdSetCurve seq q) s

/-- SET_FRAME_SOURCE (R89, R90). -/
def execSetFrameSource (seq source rate : Byte) (s : State) : Host.Outcome State Fault Refusal :=
  submit (.setFrameSource seq source rate) (cmdSetFrameSource seq source rate) s

/-- SCROLL_STOP (R80). -/
def execScrollStop (seq : Byte) (s : State) : Host.Outcome State Fault Refusal :=
  submit (.scrollStop seq) (cmdScrollStop seq) s

/-- SCROLL_RESUME (R81). -/
def execScrollResume (seq : Byte) (s : State) : Host.Outcome State Fault Refusal :=
  submit (.scrollResume seq) (cmdScrollResume seq) s

/-- SCROLL_SPEED (R82). -/
def execScrollSpeed (seq : Byte) (speed : Word16) (s : State) : Host.Outcome State Fault Refusal :=
  submit (.scrollSpeed seq speed) (cmdScrollSpeed seq speed) s

/-- JUMP (R86). -/
def execJump (seq kind : Byte) (story line rows : Word16) (s : State) : Host.Outcome State Fault Refusal :=
  submit (.jump seq kind story line rows) (cmdJump seq kind story line rows) s

/-- READ_POSITION (R88). -/
def execReadPosition (seq : Byte) (s : State) : Host.Outcome State Fault Refusal :=
  submit (.readPosition seq) (cmdReadPosition seq) s

/-- CUE_DEFINE (R116). -/
def execCueDefine (seq cue : Byte) (actions : List ActionField) (s : State) : Host.Outcome State Fault Refusal :=
  submit (.cueDefine seq cue actions) (cmdCueDefine seq cue actions) s

/-- CUE_READ (R117). -/
def execCueRead (seq cue : Byte) (s : State) : Host.Outcome State Fault Refusal :=
  submit (.cueRead seq cue) (cmdCueRead seq cue) s

/-- OUTPUT_SET (R127). -/
def execOutputSet (seq mask operation duration : Byte) (s : State) : Host.Outcome State Fault Refusal :=
  submit (.outputSet seq mask operation duration) (cmdOutputSet seq mask operation duration) s

/-- The internal frame timer expires (R89). -/
def execInternalTimerExpiry (s : State) : Host.Outcome State Fault Refusal := live (internalExpiry 0) s

/-- A scroll frame (R79). -/
def execScrollFrame (s : State) : Host.Outcome State Fault Refusal := live takeFrame s

/-- A cue line's pulse ends (R125). -/
def execPulseEnd (line : Fin 8) (s : State) : Host.Outcome State Fault Refusal :=
  live (fun s => s.modLine line CueLine.pulseEnd) s

end Sys2Proof.Machine
end

