-- ==== Sys2Proof/Machine/Ports.lean ====
section
/-! DEFINITION. Ports.lean: the meanings of SET_PORT and of the control ports' events. -/

namespace Sys2Proof.Machine

/-- SET_PORT (R113). -/
def execSetPort (seq port enabled role : Byte) (timeout : Word16) (gain dead reverse : Byte) (step : Word16) (s : State) :
    Host.Outcome State Fault Refusal :=
  submit (.setPort seq port enabled role timeout gain dead reverse step)
    (cmdSetPort seq port enabled role timeout gain dead reverse step) s

/-- Bytes on a control port; a report that is complete and valid is taken (R94, R96, log 31). -/
def execControllerReport (port : Fin 6) (bytes : List Byte) (s : State) : Host.Outcome State Fault Refusal :=
  live (fun s => bytes.foldl (receivePortByte port) s) s

/-- More than 20 ms pass between two bytes of a report frame (R94). -/
def execPortByteGapTimeout (port : Fin 6) (s : State) : Host.Outcome State Fault Refusal := live (portGap port) s

/-- A port's report timer reaches its timeout (R98). -/
def execReportTimeout (port : Fin 6) (s : State) : Host.Outcome State Fault Refusal := live (reportTimeout port) s

/-- The release timer reaches the release delay (R109, R110). -/
def execReleaseTimerExpiry (s : State) : Host.Outcome State Fault Refusal := live releaseExpiry s

end Sys2Proof.Machine
end

