-- ==== Sys2Proof/Machine/Script.lean ====
section
/-! DEFINITION. Script.lean: the meanings of the load, edit and store reading commands, of the load idle timeout, and of the
column count and its reflow. -/

namespace Sys2Proof.Machine

/-- SET_COLUMNS (R47, R48). -/
def execSetColumns (seq columns : Byte) (s : State) : Host.Outcome State Fault Refusal :=
  submit (.setColumns seq columns) (cmdSetColumns seq columns) s

/-- LOAD_OPEN (R22, R23). -/
def execLoadOpen (seq tag : Byte) (editTag : Word16) (mode : Byte) (story n : Word16) (placeKind : Byte) (placeId : Word16)
    (force : Byte) (slug : List Byte) (s : State) : Host.Outcome State Fault Refusal :=
  submit (.loadOpen seq tag editTag mode story n placeKind placeId force slug)
    (cmdLoadOpen seq tag editTag mode story n placeKind placeId force slug) s

/-- LOAD_LINE (R24). -/
def execLoadLine (seq tag : Byte) (text : List Byte) (s : State) : Host.Outcome State Fault Refusal :=
  submit (.loadLine seq tag text) (cmdLoadLine seq tag text) s

/-- LOAD_LAST (R26, R27). -/
def execLoadLast (seq tag : Byte) (text : List Byte) (s : State) : Host.Outcome State Fault Refusal :=
  submit (.loadLast seq tag text) (cmdLoadLast seq tag text) s

/-- LOAD_CANCEL (R29). -/
def execLoadCancel (seq tag : Byte) (s : State) : Host.Outcome State Fault Refusal :=
  submit (.loadCancel seq tag) (cmdLoadCancel seq tag) s

/-- STORY_DELETE (R32). -/
def execStoryDelete (seq : Byte) (editTag story : Word16) (force : Byte) (s : State) : Host.Outcome State Fault Refusal :=
  submit (.storyDelete seq editTag story force) (cmdStoryDelete seq editTag story force) s

/-- STORY_MOVE (R33). -/
def execStoryMove (seq : Byte) (editTag story : Word16) (placeKind : Byte) (placeId : Word16) (force : Byte) (s : State) :
    Host.Outcome State Fault Refusal :=
  submit (.storyMove seq editTag story placeKind placeId force)
    (cmdStoryMove seq editTag story placeKind placeId force) s

/-- STORY_SKIP (R34). -/
def execStorySkip (seq : Byte) (editTag story : Word16) (request force : Byte) (s : State) :
    Host.Outcome State Fault Refusal :=
  submit (.storySkip seq editTag story request force) (cmdStorySkip seq editTag story request force) s

/-- EDIT_CANCEL (R41). -/
def execEditCancel (seq : Byte) (editTag : Word16) (s : State) : Host.Outcome State Fault Refusal :=
  submit (.editCancel seq editTag) (cmdEditCancel seq editTag) s

/-- READ_STORY (R17). -/
def execReadStory (seq : Byte) (story : Word16) (s : State) : Host.Outcome State Fault Refusal :=
  submit (.readStory seq story) (cmdReadStory seq story) s

/-- READ_RUNDOWN (R18). -/
def execReadRundown (seq first : Byte) (s : State) : Host.Outcome State Fault Refusal :=
  submit (.readRundown seq first) (cmdReadRundown seq first) s

/-- A load's idle timer reaches 5,000 ms (R28). -/
def execLoadIdleTimeout (tag : Byte) (s : State) : Host.Outcome State Fault Refusal := live (loadIdleExpiry tag.toNat) s

/-- The reflow work is done (R60, R61). -/
def execReflowComplete (s : State) : Host.Outcome State Fault Refusal := live reflowComplete s

end Sys2Proof.Machine
end

