-- ==== Sys2Proof/Machine/Dispatch.lean ====
section
/-! DEFINITION. Dispatch.lean: one arm for each row of the table, its meaning called by name. -/

namespace Sys2Proof.Machine

def exec (i : Instr) (s : State) : Host.Outcome State Fault Refusal :=
  match i with
  | .identify seq => Sys2Proof.Machine.execIdentify seq s
  | .status seq => Sys2Proof.Machine.execStatus seq s
  | .restart seq => Sys2Proof.Machine.execRestart seq s
  | .clearShow seq => Sys2Proof.Machine.execClearShow seq s
  | .unknownCommand code seq rest => Sys2Proof.Machine.execUnknownCommand code seq rest s
  | .setColumns seq columns => Sys2Proof.Machine.execSetColumns seq columns s
  | .setMotion seq vmax a b delay priority k p => Sys2Proof.Machine.execSetMotion seq vmax a b delay priority k p s
  | .setCurve seq q => Sys2Proof.Machine.execSetCurve seq q s
  | .setPort seq port enabled role timeout gain dead reverse step => Sys2Proof.Machine.execSetPort seq port enabled role timeout gain dead reverse step s
  | .setFrameSource seq source rate => Sys2Proof.Machine.execSetFrameSource seq source rate s
  | .setReporting seq interval => Sys2Proof.Machine.execSetReporting seq interval s
  | .loadOpen seq tag editTag mode story n placeKind placeId force slug => Sys2Proof.Machine.execLoadOpen seq tag editTag mode story n placeKind placeId force slug s
  | .loadLine seq tag text => Sys2Proof.Machine.execLoadLine seq tag text s
  | .loadLast seq tag text => Sys2Proof.Machine.execLoadLast seq tag text s
  | .loadCancel seq tag => Sys2Proof.Machine.execLoadCancel seq tag s
  | .storyDelete seq editTag story force => Sys2Proof.Machine.execStoryDelete seq editTag story force s
  | .storyMove seq editTag story placeKind placeId force => Sys2Proof.Machine.execStoryMove seq editTag story placeKind placeId force s
  | .storySkip seq editTag story request force => Sys2Proof.Machine.execStorySkip seq editTag story request force s
  | .editCancel seq editTag => Sys2Proof.Machine.execEditCancel seq editTag s
  | .readStory seq story => Sys2Proof.Machine.execReadStory seq story s
  | .readRundown seq first => Sys2Proof.Machine.execReadRundown seq first s
  | .scrollStop seq => Sys2Proof.Machine.execScrollStop seq s
  | .scrollResume seq => Sys2Proof.Machine.execScrollResume seq s
  | .scrollSpeed seq speed => Sys2Proof.Machine.execScrollSpeed seq speed s
  | .jump seq kind story line rows => Sys2Proof.Machine.execJump seq kind story line rows s
  | .readPosition seq => Sys2Proof.Machine.execReadPosition seq s
  | .cueDefine seq cue actions => Sys2Proof.Machine.execCueDefine seq cue actions s
  | .cueRead seq cue => Sys2Proof.Machine.execCueRead seq cue s
  | .outputSet seq mask operation duration => Sys2Proof.Machine.execOutputSet seq mask operation duration s
  | .headConfig seq head width height scale leading margin readingRow rate => Sys2Proof.Machine.execHeadConfig seq head width height scale leading margin readingRow rate s
  | .headStart seq head => Sys2Proof.Machine.execHeadStart seq head s
  | .headStop seq head => Sys2Proof.Machine.execHeadStop seq head s
  | .headBlank seq head => Sys2Proof.Machine.execHeadBlank seq head s
  | .headUnblank seq head => Sys2Proof.Machine.execHeadUnblank seq head s
  | .headAppearance seq head fields => Sys2Proof.Machine.execHeadAppearance seq head fields s
  | .headRead seq head => Sys2Proof.Machine.execHeadRead seq head s
  | .linkFrame bytes => Sys2Proof.Machine.execLinkFrame bytes s
  | .byteGapTimeout => Sys2Proof.Machine.execByteGapTimeout s
  | .lineBreak => Sys2Proof.Machine.execLineBreak s
  | .transmitDone => Sys2Proof.Machine.execTransmitDone s
  | .controllerReport port bytes => Sys2Proof.Machine.execControllerReport port bytes s
  | .portByteGapTimeout port => Sys2Proof.Machine.execPortByteGapTimeout port s
  | .reportTimeout port => Sys2Proof.Machine.execReportTimeout port s
  | .releaseTimerExpiry => Sys2Proof.Machine.execReleaseTimerExpiry s
  | .loadIdleTimeout tag => Sys2Proof.Machine.execLoadIdleTimeout tag s
  | .internalTimerExpiry => Sys2Proof.Machine.execInternalTimerExpiry s
  | .scrollFrame => Sys2Proof.Machine.execScrollFrame s
  | .frameStart head => Sys2Proof.Machine.execFrameStart head s
  | .syncLossExpiry head => Sys2Proof.Machine.execSyncLossExpiry head s
  | .renderComplete => Sys2Proof.Machine.execRenderComplete s
  | .pulseEnd line => Sys2Proof.Machine.execPulseEnd line s
  | .reflowComplete => Sys2Proof.Machine.execReflowComplete s
  | .powerUp straps => Sys2Proof.Machine.execPowerUp straps s
  | .resetPinAssert => Sys2Proof.Machine.execResetPinAssert s
  | .resetPinRelease straps => Sys2Proof.Machine.execResetPinRelease straps s
  | .restartReset straps => Sys2Proof.Machine.execRestartReset straps s

end Sys2Proof.Machine
end

