-- ==== Sys2Proof/Machine/Video.lean ====
section
/-! DEFINITION. Video.lean: the pixels of a drawn row (R151 to R155) and what a head shows at each point of its frame (R133, R143).
Both are functions of State: scanout changes nothing. -/

namespace Sys2Proof.Machine

/-! ## A drawn row (R151 to R155) -/

/-- The colour index of a pixel of a drawn row. -/
inductive PixelIndex where
  | text (n : Fin 4)
  | background
  | arrow
deriving DecidableEq, Repr

/-- The substitute glyph's points: a rectangle one point wide, inset one point from each edge of the cell (R155). -/
def substitutePoint (x y : Nat) : Bool :=
  decide (1 ≤ x) && decide (x ≤ 14) && decide (1 ≤ y) && decide (y ≤ 30) && (x == 1 || x == 14 || y == 1 || y == 30)

/-- Whether a point of the glyph of a visible character is on (R152, R155, R173). The patterns of 21h..7Eh are free (log 12). -/
def glyphPoint (char : Byte) (x y : Nat) : Bool :=
  if char = spaceByte then false
  else if 0x21 ≤ char.toNat ∧ char.toNat ≤ 0x7E then Config.glyph char x y
  else substitutePoint x y

/-- A visible character with the colour and emphasis it is drawn with. -/
structure StyledChar where
  char : Byte
  style : Style
deriving DecidableEq, Repr

/-- R152: the characters of a row with their styles; a character's codes act before it is drawn. -/
def styledChars : Style → List Cell → List StyledChar
  | _, [] => []
  | st, c :: rest =>
      let st' := c.codes.foldl Style.apply st
      ⟨c.char, st'⟩ :: styledChars st' rest

/-- The characters a drawing holds, from its colour and emphasis at the start (R150, R152). -/
def Drawing.chars (d : Drawing) : List StyledChar := styledChars ⟨d.colour, d.emphasis⟩ (scanLine d.content).cells

/-- R152: the index of a point of a character: its text index where the point is on, or, with emphasis, where it is off. -/
def StyledChar.pixel (c : StyledChar) (x y : Nat) : PixelIndex :=
  if glyphPoint c.char x y == c.style.emphasis then .background else .text c.style.colour

/-- R154: whether pixel (x, y) of the arrow's area of `w` by `h` pixels is drawn. The triangle has its base on the left edge
and its point at the middle of the right edge. The base column and a pixel wholly inside are drawn, a pixel wholly outside is
not, and a pixel on an edge is free (log 13). -/
def arrowPixel (w h x y : Nat) : Bool :=
  if x = 0 then true
  else if (x + 1) * h ≤ 2 * w * y ∧ (x + 1) * h ≤ 2 * w * (h - (y + 1)) then true
  else if 2 * w * (y + 1) ≤ x * h ∨ 2 * w * (h - y) ≤ x * h then false
  else Config.arrowEdge w h x y

/-- The width of the arrow's area (R154). -/
def Drawing.arrowWidth (d : Drawing) : Nat := min d.margin (16 * d.scale)

/-- R151, R154: the index of a pixel of the margin. -/
def Drawing.marginPixel (d : Drawing) (x y : Nat) : PixelIndex :=
  let left := d.margin - d.arrowWidth
  if d.arrow && decide (left ≤ x) && arrowPixel d.arrowWidth (32 * d.scale) (x - left) y then .arrow else .background

/-- R151: the index of pixel `x` of line `y` of a drawn row. -/
def Drawing.pixel (d : Drawing) (x y : Nat) : PixelIndex :=
  if x < d.margin then d.marginPixel x y
  else
    match d.chars[(x - d.margin) / (16 * d.scale)]? with
    | some c => c.pixel ((x - d.margin) % (16 * d.scale) / d.scale) (y / d.scale)
    | none => .background

/-- The width of a drawn row (chapter 8, Drawing a Row). -/
def Drawing.width (d : Drawing) : Nat := d.margin + d.columns * 16 * d.scale

/-! ## Scanout (R143) -/

/-- R143 step 3: the colour an index takes. -/
def Appearance.colourOf (a : Appearance) : PixelIndex → Colour
  | .text n => a.text[n]
  | .background => a.background
  | .arrow => if a.arrows then a.markerColour else a.background

/-- R143 steps 1 to 3: pixel `x` of output line `i`, before the marker, flip and mirror. -/
def Head.rowPixel (h : Head) (f : ScanFrame) (x i : Nat) : Colour :=
  let pitch := h.geometry.pitch
  let u : Int := f.top + i
  let line := (u % pitch).toNat
  if h.geometry.windowRows * pitch ≤ i ∨ 32 * h.geometry.scale ≤ line then h.appearance.background
  else
    match f.ready.find? fun e => e.1 == u / pitch with
    | none => h.appearance.background
    | some e => match h.slots[e.2] with
      | .valid _ d => if x < d.width then h.appearance.colourOf (d.pixel x line) else h.appearance.background
      | .empty => h.appearance.background
      | .rendering _ => h.appearance.background

/-- R143 step 4: the composed frame, with the reading marker. -/
def Head.framePixel (h : Head) (f : ScanFrame) (x i : Nat) : Colour :=
  let markerLine := h.geometry.readingRow * h.geometry.pitch
  if h.appearance.marker && (i == markerLine || i == markerLine + 1) then h.appearance.markerColour
  else h.rowPixel f x i

/-- R132, R143 step 5: the place in the composed frame that output pixel `x` of output line `i` shows. -/
def Head.turned (h : Head) (x i : Nat) : Nat × Nat :=
  (if h.appearance.mirror then h.geometry.width - 1 - x else x,
    if h.appearance.flip then h.geometry.height - 1 - i else i)

/-- What a head drives at a pixel: its data, and whether data enable is active. -/
structure PixelOut where
  colour : Colour
  enable : Bool
deriving DecidableEq, Repr

/-- R133, R143: a head's output at pixel `x` of output line `i` of the frame in progress (log 32). -/
def headPixel (s : State) (n : Fin 4) (x i : Nat) : PixelOut :=
  let h := s.heads[n]
  match h.state with
  | .disabled => ⟨⟨0, 0, 0⟩, false⟩
  | .running =>
      match h.frame with
      | some f => ⟨h.framePixel f (h.turned x i).1 (h.turned x i).2, true⟩
      | none => ⟨h.appearance.background, true⟩
  | .starting => ⟨h.appearance.background, true⟩
  | .blanked => ⟨h.appearance.background, true⟩
  | .stopping => ⟨h.appearance.background, true⟩

end Sys2Proof.Machine
end

