-- ==== Sys2Proof/Safety.lean ====
section
/-! DEFINITION. Safety.lean: the terms the statements use: when a command is taken at once, what an answer leaves, and the
invariants of the engine. -/

namespace Sys2Proof.Machine

/-- A command that arrives is taken at once: the RESET input is not held, no frame waits, the reply queue has room, and no
RESTART has been taken (R161, R169). -/
abbrev Ready (s : State) : Prop :=
  s.resetHeld = false ∧ s.link.received = [] ∧ s.link.replies.length < Config.queueSize ∧ s.link.restart = .none

/-- The state with one reply more, which an idle transmitter begins to send (R162, R165). -/
def answered (r : Reply) (s : State) : State :=
  { s with link :=
      { s.link with replies := s.link.replies ++ [r], sending := some (s.link.sending.getD .reply) } }

/-- A reply with result OK and both flags clear. `code` is the reply's own, the command's plus 40h (R162). -/
def okReply (code seq : Byte) (body : ReplyBody) : Reply := ⟨code, seq, .ok, false, false, body⟩

/-- A reply that ends after its flags with a reason (R162, R170). -/
def reasonReply (code seq : Byte) (r : Reason) : Reply := ⟨code, seq, .reason r, false, false, .bare⟩

/-- The source in use that a setting gives: the head while it can serve, else the internal timer at its nominal rate (R89). -/
def sourceGiven (s : State) : FrameSource → FrameSource
  | .internal r => .internal r
  | .head n =>
      if ((s.heads[n]).state = .starting ∨ (s.heads[n]).state = .running ∨ (s.heads[n]).state = .blanked)
          ∧ (s.heads[n]).syncLost = false then .head n
      else .internal (s.heads[n]).geometry.rate

/-! ## Invariants -/

/-- The queues of the command link keep their bounds, what is being sent is in its queue, and every waiting payload has a length
that a frame can have (R158, R160, R162, R163). -/
abbrev LinkInv (s : State) : Prop :=
  s.link.received.length ≤ 4 ∧ s.link.replies.length ≤ 4 ∧ s.link.notices.length ≤ 32 ∧ s.link.lost ≤ 255
    ∧ (s.link.sending = some .reply → s.link.replies ≠ [])
    ∧ (s.link.sending = some .notice → s.link.notices ≠ [])
    ∧ (∀ payload ∈ s.link.received, 2 ≤ payload.length ∧ payload.length ≤ 220)

/-- The lines in the chains of stories, open loads and pending edits. -/
def heldSlots (s : State) : Nat :=
  (s.store.stories.map fun st => st.chain.length).sum + (s.edit.loads.map fun l => l.chain.length).sum
    + (s.edit.pending.map fun r => r.edit.chain.length).sum

/-- Every line slot of the pool is free or in one chain: the four conditions number 4,096 together (R11). Pending edits have
arrival numbers of their own, below the next one (R38), and a story's pending count numbers those that name it (R37). -/
abbrev PoolInv (s : State) : Prop :=
  s.store.freeCount + heldSlots s = 4096
    ∧ (s.edit.pending.map PendingEdit.arrival).Nodup ∧ (∀ r ∈ s.edit.pending, r.arrival < s.edit.nextArrival)
    ∧ (∀ st ∈ s.store.stories, st.pendingCount = s.edit.pending.countP fun r => r.edit.story = st.id)

/-- The slug an edit's kind carries; empty where it carries none (R37). -/
def EditBody.slug : EditBody → Line
  | .replace slug _ => slug
  | .insert _ slug _ => slug
  | .delete => []
  | .move _ => []
  | .skip => []
  | .unskip => []

/-- The cue marks in the engine are counted where they stand, in a story's record (R16), a pending edit's and an open load's, whose
chain has a line for each slot it reserved, empty while it is still to come (R21), and number at most 256 (R25). A slug has at most 24
characters (R15). -/
abbrev TextInv (s : State) : Prop :=
  (s.store.stories.map Story.markCount).sum + (s.edit.pending.map PendingEdit.marks).sum + (s.edit.loads.map Load.marks).sum ≤ 256
    ∧ (∀ st ∈ s.store.stories, st.markCount = (st.chain.map lineMarks).sum)
    ∧ (∀ r ∈ s.edit.pending, r.marks = (r.edit.chain.map lineMarks).sum)
    ∧ (∀ l ∈ s.edit.loads, l.chain.length = l.n ∧ l.marks = (l.chain.map lineMarks).sum
      ∧ ∀ text ∈ l.chain.drop l.received, text = [])
    ∧ (∀ st ∈ s.store.stories, st.slug.length ≤ 24) ∧ (∀ r ∈ s.edit.pending, r.edit.body.slug.length ≤ 24)
    ∧ (∀ l ∈ s.edit.loads, l.slug.length ≤ 24)

/-- The ids in use: of the stories in the rundown, of the pending insertions and of the open NEW loads (R1, R22). -/
def idsInUse (s : State) : List Nat :=
  s.store.stories.map Story.id ++ (pendingInserts s).map (fun r => r.edit.story) ++ (newLoads s).map Load.story

/-- No two stories share an id, arriving ones included, each is 1..65535, and they number at most 96 (R1, R22). The load and edit
capacities are kept (R21, R37). -/
abbrev RundownInv (s : State) : Prop :=
  (idsInUse s).Nodup ∧ (idsInUse s).length ≤ 96 ∧ (∀ id ∈ idsInUse s, 1 ≤ id ∧ id ≤ 65535)
    ∧ s.edit.loads.length ≤ 4 ∧ s.edit.pending.length ≤ 8

/-- The holder's port is LIVE, with the role and kind the authority record gives, and no KEYPAD (R103). MANUAL is the state of a
lever's hold and of no other, but for IDLE (R70). -/
abbrev AuthorityInv (s : State) : Prop :=
  (∀ h ∈ s.hub.holder,
      s.hub.ports[h.port].state = .live ∧ s.hub.ports[h.port].role = h.role
        ∧ s.hub.ports[h.port].kind = some h.kind ∧ h.kind ≠ .keypad)
    ∧ (s.scroll.state = .manual → leverHolds s = true)
    ∧ (leverHolds s = true → s.scroll.state = .manual ∨ s.scroll.state = .idle)

/-- Whether an edit's kind carries a chain (R37). -/
def EditBody.carriesChain : EditBody → Bool
  | .replace _ _ => true
  | .insert _ _ _ => true
  | .delete => false
  | .move _ => false
  | .skip => false
  | .unskip => false

/-- A chain that a load or an edit carries holds a line (R2, R21). -/
abbrev ChainsHeld (s : State) : Prop :=
  (∀ l ∈ s.edit.loads, l.chain ≠ [])
    ∧ (∀ r ∈ s.edit.pending, r.edit.body.carriesChain = true → r.edit.chain ≠ [])

/-- The on-air id is the id of the story that is ON_AIR, and 0 where none is (R10). -/
abbrev OnAirKept (s : State) : Prop :=
  (∀ st ∈ s.store.stories, st.state = .onAir → s.store.onAirId = st.id)
    ∧ ((∀ st ∈ s.store.stories, st.state ≠ .onAir) → s.store.onAirId = 0)

/-- The position lies within the script (R67), whose rows are those its directory lays out at the column count in force (R51,
R52), the mark list holds records for exactly the marks of the stories with rows (R63, R64), and the on-air id is true (R10). -/
abbrev PositionInv (s : State) : Prop :=
  RundownInv s ∧ ChainsHeld s ∧ 1 ≤ s.layout.columns ∧ (∀ c ∈ s.layout.target, 1 ≤ c)
    ∧ (∀ st ∈ s.store.stories, st.chain ≠ [] ∧ layStory s.layout.columns st = st)
    ∧ s.scroll.p ≤ s.rows * 1024
    ∧ (s.layout.marks.map fun m => { m with armed := false }) = markRecords 0 s.store.stories
    ∧ OnAirKept s

/-- The band of a head (R137): a half holds blocks of its own parity, its remaining set holds EMPTY slots of that half, and a slot
is RENDERING only for the render unit's job (R156). A head that is DISABLED, BLANKED or STOPPING asks for no rows (R147), and a
DISABLED head's slots are EMPTY (R135). -/
abbrev BandInv (s : State) : Prop :=
  ∀ h : Fin 4,
    (∀ half : Fin 2,
      (∀ b ∈ s.heads[h].halves[half].block, b % 2 = (half.val : Int))
        ∧ (∀ i ∈ s.heads[h].halves[half].remaining, halfOf i = half ∧ s.heads[h].slots[i] = .empty)
        ∧ (s.heads[h].state ≠ .starting → s.heads[h].state ≠ .running → s.heads[h].halves[half].remaining = []))
    ∧ (∀ i : Fin 32, (s.heads[h].slots[i]).isRendering = true →
        s.job.any (fun j => decide (j.head = h ∧ j.slot = i ∧ s.heads[h].slots[i] = .rendering j.tag)) = true)
    ∧ (s.heads[h].state = .disabled → ∀ i : Fin 32, s.heads[h].slots[i] = .empty)

/-- The motion settings lie in their ranges (R75, R91), and no speed passes 16,384 (R68, R69). -/
abbrev MotionInv (s : State) : Prop :=
  (1 ≤ s.scroll.vmax ∧ s.scroll.vmax ≤ 16384) ∧ (1 ≤ s.scroll.accel ∧ s.scroll.accel ≤ 4096)
    ∧ (1 ≤ s.scroll.brake ∧ s.scroll.brake ≤ 4096) ∧ (1 ≤ s.scroll.keyStep ∧ s.scroll.keyStep ≤ 1024)
    ∧ s.edit.lookahead ≤ 64 ∧ s.hub.releaseDelay ≤ 5000
    ∧ curveOrdered s.scroll.curve = true ∧ s.scroll.curve[8] ≤ 16384
    ∧ s.scroll.v.natAbs ≤ 16384 ∧ s.scroll.cruise.natAbs ≤ 16384

/-- A geometry with every setting in its range (R129). -/
abbrev Geometry.inRange (g : Geometry) : Prop :=
  (320 ≤ g.width ∧ g.width ≤ 1920 ∧ g.width % 16 = 0) ∧ (240 ≤ g.height ∧ g.height ≤ 1080)
    ∧ (1 ≤ g.scale ∧ g.scale ≤ 4) ∧ g.leading ≤ 31 ∧ (g.margin ≤ 256 ∧ g.margin % 16 = 0)
    ∧ (1 ≤ g.windowRows ∧ g.windowRows ≤ 15) ∧ g.readingRow < g.windowRows

/-- The duration of an action's pulse in steps of 10 ms; 0 for another kind (R115). -/
def CueAction.steps : CueAction → Nat
  | .pulse _ steps => steps
  | .pause => 0
  | .cruise _ => 0
  | .set _ => 0
  | .clear _ => 0

/-- The settings of the layout, the ports, the cues and the heads lie in their ranges (R47, R93, R115, R125, R129), a bias in its
own (R138), and a head that is not DISABLED holds rows of the column count in force and of a reflow's target (R47, R130, R131). -/
abbrev OutputInv (s : State) : Prop :=
  (8 ≤ s.layout.columns ∧ s.layout.columns ≤ 40) ∧ (∀ c ∈ s.layout.target, 8 ≤ c ∧ c ≤ 40)
    ∧ (∀ n : Fin 6, 50 ≤ s.hub.ports[n].timeout ∧ s.hub.ports[n].timeout ≤ 1000 ∧ s.hub.ports[n].gain ≤ 128
        ∧ s.hub.ports[n].dead ≤ 32 ∧ 1 ≤ s.hub.ports[n].step ∧ s.hub.ports[n].step ≤ 256)
    ∧ (∀ c : Fin 64, s.cues.defs[c].length ≤ 4
        ∧ ∀ a ∈ s.cues.defs[c], a.steps ≤ 255 ∧ ∀ l : Fin 8, a ≠ .pulse l 0)
    ∧ (∀ l : Fin 8, s.cues.lines[l].pulse ≤ 2550)
    ∧ (∀ h : Fin 4, s.heads[h].geometry.inRange ∧ (-8388608 ≤ s.heads[h].bias ∧ s.heads[h].bias ≤ 8388607)
        ∧ (s.heads[h].state ≠ .disabled → s.heads[h].geometry.holdsRows s.layout = true))

/-! ## Terms of the script's statements -/

/-- The placement a kind code and an id give: END, BEFORE or AFTER (R170). -/
def placementGiven (kind : Byte) (id : Word16) : Placement :=
  if kind = 1 then .before id.toNat else if kind = 2 then .after id.toNat else .atEnd

/-- The state with a load given up: its slot is closed and its chain's slots are free (R29). `before` and `after` are the other
open loads. -/
def loadDropped (before : List Load) (l : Load) (after : List Load) (s : State) : State :=
  { s with
    edit := { s.edit with loads := before ++ after }
    store := { s.store with freeCount := s.store.freeCount + l.chain.length } }

/-- A line whose marks would take the marks in the engine above 256 (R25). -/
abbrev BreaksBudget (text : Line) (s : State) : Prop := 0 < lineMarks text ∧ 256 < markTotal s + lineMarks text

/-- The rows of some stories together (R52). -/
def rowsOf (stories : List Story) : Nat := (stories.map Story.rowCount).sum

/-- A story of the rundown with its neighbours: the first one that carries its id. -/
abbrev Found (s : State) (before : List Story) (st : Story) (after : List Story) : Prop :=
  s.store.stories = before ++ st :: after ∧ ∀ x ∈ before, x.id ≠ st.id

/-- A row of the story lies in the protection window, R-1..R+P (R35). `before` are the stories before it. -/
def Protected (s : State) (before : List Story) (st : Story) : Prop :=
  ∃ r, rowsOf before ≤ r ∧ r < rowsOf before + st.rowCount ∧ s.scroll.p / 1024 ≤ r + 1
    ∧ r ≤ s.scroll.p / 1024 + s.edit.lookahead

/-- An insertion row that lies in R+1..R+P (R36). -/
abbrev RowProtected (s : State) (row : Nat) : Prop :=
  s.scroll.p / 1024 + 1 ≤ row ∧ row ≤ s.scroll.p / 1024 + s.edit.lookahead

/-- The row at which the story of a placement would begin (R36); no row where the placement names a story not in the rundown. -/
def PlacedAt (s : State) (place : Placement) (row : Nat) : Prop :=
  match place with
  | .atEnd => row = s.rows
  | .before x => ∃ before y after, Found s before y after ∧ y.id = x ∧ row = rowsOf before
  | .after x => ∃ before y after, Found s before y after ∧ y.id = x ∧ row = rowsOf before + y.rowCount

/-- An edit that the window holds back (R36 cases 1 to 4). One whose story or placement story has left the rundown is held by none
(R39). -/
def HeldByWindow (s : State) (e : Edit) : Prop :=
  let named := fun p : List Story → Story → Prop => ∃ before st after, Found s before st after ∧ st.id = e.story ∧ p before st
  match e.body with
  | .replace _ _ => named fun before st => Protected s before st
  | .delete => named fun before st => Protected s before st
  | .skip => named fun before st => Protected s before st
  | .move place => ∃ row, PlacedAt s place row
      ∧ named fun before st => Protected s before st ∨ (0 < st.rowCount ∧ RowProtected s row)
  | .insert place _ _ => ∃ row, PlacedAt s place row ∧ RowProtected s row
  | .unskip => named fun before _ => RowProtected s (rowsOf before)

/-- A pending edit that waits rightly: an older one for its story waits too, or the window holds it (R39). -/
def WaitsRightly (s : State) (r : PendingEdit) : Prop :=
  (∃ x ∈ s.edit.pending, x.edit.story = r.edit.story ∧ x.arrival < r.arrival) ∨ HeldByWindow s r.edit

/-- The state with a pending edit taken from the list and from its story's pending count (R37, R39). -/
def pendingTaken (r : PendingEdit) (s : State) : State :=
  { s with
    edit := { s.edit with pending := s.edit.pending.filter fun x => x.arrival ≠ r.arrival }
    store :=
      { s.store with
        stories := mapStory s.store.stories r.edit.story fun st => { st with pendingCount := st.pendingCount - 1 } } }

/-- An edit whose story or placement story is not in the rundown (R40 cases 1 and 2). -/
def Homeless (e : Edit) (s : State) : Prop :=
  (e.needsStory = true ∧ ∀ st ∈ s.store.stories, st.id ≠ e.story)
    ∨ ∃ place ∈ e.place, ∀ row, ¬ PlacedAt s place row

/-- The three story commands with the code of their reply, whether their own fields lie in range, and the edit they bring
(R32 to R34). -/
def storyCommands (seq : Byte) (editTag story : Word16) (placeKind : Byte) (placeId : Word16) (request force : Byte) :
    List (Instr × Byte × Bool × EditBody) :=
  [(.storyDelete seq editTag story force, 0x54, true, .delete),
   (.storyMove seq editTag story placeKind placeId force, 0x55, decide (placeKind.toNat ≤ 2),
     .move (placementGiven placeKind placeId)),
   (.storySkip seq editTag story request force, 0x56, decide (request.toNat ≤ 1), if request = 0 then .skip else .unskip)]

/-- A head whose ring bias has taken Δ: it moves by Δ, or, out of its range, becomes 0 and the band is emptied (R138). -/
def BiasShifted (delta : Int) (a b : Head) : Prop :=
  b = if -8388608 ≤ a.bias + delta ∧ a.bias + delta ≤ 8388607 then { a with bias := a.bias + delta }
      else { a with bias := 0, halves := Vector.replicate 2 ⟨none, [], false⟩, slots := Vector.replicate 32 .empty }

/-- A mark's name: its story, line, character and ordinal (R63). -/
def MarkRecord.key (m : MarkRecord) : Nat × Nat × Nat × Nat := (m.story, m.line, m.char, m.ordinal)

/-- The anchor of the present position as an edit leaves it, for the rundown after the edit (R43 to R45, R56). -/
def editAnchor (e : Edit) (s : State) (after : List Story) : Option Anchor :=
  (takeAnchor s.store.stories s.scroll.p).bind fun a => placeAnchor e s.store.stories after a

/-- What a change of the rows does to the position and the heads (R57, R58): where the script has rows before and after, the position
is that of the anchor, and every head takes the same Δ, the rows by which the reading row has moved; otherwise the position is 0 and no
head takes any. -/
def Reanchored (anchor : Option Anchor) (s t : State) : Prop :=
  if 0 < s.rows ∧ 0 < t.rows then
    (∃ a ∈ anchor, t.scroll.p = anchorRow t.store.stories a * 1024 + a.fraction)
      ∧ ∀ h : Fin 4, BiasShifted (((t.scroll.p / 1024 : Nat) : Int) - ((s.scroll.p / 1024 : Nat) : Int)) s.heads[h] t.heads[h]
  else t.scroll.p = 0 ∧ t.heads = s.heads

/-- The mark list of `t` as it follows from that of `s` (R63, R64, R124): a record for each mark of the stories with rows; the
records of the story `fresh` are new, and armed where they lie ahead of the position; every other keeps its armed state. -/
def MarksCarried (fresh : Option Nat) (s t : State) : Prop :=
  (t.layout.marks.map fun m => { m with armed := false }) = markRecords 0 t.store.stories
    ∧ ∀ m ∈ t.layout.marks,
      (fresh = some m.story → (m.armed = true ↔ t.scroll.p < m.position))
        ∧ (fresh ≠ some m.story → ∀ o, s.layout.marks.find? (fun x => x.key = m.key) = some o → m.armed = o.armed)

/-- The state with notices raised one after another (R163). -/
def noticesRaised (ns : List Notice) (s : State) : State := ns.foldl (fun t n => raise n t) s

/-- What a change of scroll state between `s` and `t` raises: SCROLL_STATE, with the position and the velocity of `t`; nothing where the
state is the same (R72). -/
def stateNotices (cause : ScrollCause) (s t : State) : List Notice :=
  if t.scroll.state = s.scroll.state then []
  else [.scrollState t.scroll.state s.scroll.state t.scroll.p t.scroll.v cause]

/-- What a change of the on-air id between `s` and `t` raises: ON_AIR, with the new id; nothing where the id is the same (R10). -/
def onAirNotices (s t : State) : List Notice :=
  if t.store.onAirId = s.store.onAirId then [] else [.onAir t.store.onAirId]

/-- The velocity, the direction and the state as they follow L between 0 and more than 0, and stay where L does (R71). -/
def RowsFollowed (s t : State) : Prop :=
  ∃ p v d st, t.scroll = { s.scroll with p := p, v := v, direction := d, state := st }
    ∧ ((s.rows = 0 ↔ t.rows = 0) → v = s.scroll.v ∧ d = s.scroll.direction ∧ st = s.scroll.state)
    ∧ (s.rows = 0 → 0 < t.rows → v = 0 ∧ d = s.scroll.direction ∧ st = if leverHolds s then .manual else .stopped)
    ∧ (0 < s.rows → t.rows = 0 → p = 0 ∧ v = 0 ∧ d = .forward ∧ st = .idle)

/-- The frame of an edit `e` that is applied at once and answered by `r` (R10, R43, R58, R64, R71, R72, R124): the settings, the controls,
the cue unit, the render job and the column count stay; the position and the biases follow the anchor; the mark list follows the rundown,
the story `fresh` with new marks; the velocity, the direction and the state follow L; a change of state raises SCROLL_STATE with cause
SCRIPT, then one of the on-air id raises ON_AIR, and then the reply joins its queue. -/
def EditFrame (e : Edit) (fresh : Option Nat) (r : Reply) (s t : State) : Prop :=
  (t.pending = s.pending ∧ t.resetHeld = s.resetHeld ∧ t.hub = s.hub ∧ t.cues = s.cues ∧ t.job = s.job)
    ∧ (∃ marks, t.layout = { s.layout with marks := marks }) ∧ MarksCarried fresh s t
    ∧ RowsFollowed s t ∧ OnAirKept t
    ∧ Reanchored (editAnchor e s t.store.stories) s t
    ∧ t.link = (answered r (noticesRaised (stateNotices .script s t ++ onAirNotices s t) s)).link

/-- The rundown with its states taken afresh from a position (R8, R9). -/
def restated (t : State) (stories : List Story) : List Story :=
  recomputeFrom (readingRow t.scroll.p (rowsOf stories)) 0 stories

/-- What is left of `s` but the scroll controller's frame source: decided afresh from the state `t` (R89, R90). -/
def SourceRefreshed (s t : State) : Prop :=
  let use := sourceGiven t s.scroll.setting
  t.scroll = { s.scroll with
    inUse := use
    frameTimer := if use = s.scroll.inUse then s.scroll.frameTimer
      else match use with
        | .internal _ => some 0
        | .head _ => none }

/-- The reply of a scroll command: the motion as it stands in `t` (R80, R170). -/
def motionAnswer (code seq : Byte) (result : Result) (t : State) : Reply :=
  ⟨code, seq, result, false, false, .motion ⟨t.scroll.state, t.scroll.p, t.scroll.v, t.scroll.cruise⟩⟩

/-- The scroll state changed, with its notice where it is another (R72). -/
def stateChanged (new : ScrollState) (cause : ScrollCause) (s : State) : State :=
  if s.scroll.state = new then s
  else
    raise (.scrollState new s.scroll.state s.scroll.p s.scroll.v cause)
      { s with scroll := { s.scroll with state := new } }

/-- A hold ended at a stop or by a key: the holder gets must-rest, and AUTHORITY is raised (R100, R112). -/
def holdEnded (cause : AuthorityCause) (s : State) : State :=
  match s.hub.holder with
  | none => s
  | some h =>
      raise (.authority none (some h.port) cause)
        { s with hub :=
            { s.hub with
              ports := Vector.ofFn fun i =>
                if i = h.port then { s.hub.ports[i] with mustRest := true } else s.hub.ports[i]
              holder := none
              releaseTimer := none } }

/-- The holder's port is lost: authority is released, and a MANUAL or CRUISE scroll stops (R85, R111). -/
def controlLost (n : Fin 6) (s : State) : State :=
  if ∃ h ∈ s.hub.holder, h.port = n then
    (fun t => if s.scroll.state = .manual ∨ s.scroll.state = .cruise then stateChanged .stopped .controlLost t else t)
      (raise (.authority none (some n) .controlLost) { s with hub := { s.hub with holder := none, releaseTimer := none } })
  else s

/-- The cruise speed that a key or a wheel on port `n` sets by a change `delta`: in MANUAL the current velocity comes first, clamped
for the port as every new speed is (R69, R83, R84, log 21); the sum of a negative speed above -K and K is kept (log 47). -/
def cruiseTrimmed (n : Fin 6) (delta : Int) (s : State) : Int :=
  let clamped := fun x : Int => max (if (s.hub.ports[n]).reverse = true then -(s.scroll.vmax : Int) else 0) (min s.scroll.vmax x)
  clamped ((if s.scroll.state = .manual then clamped s.scroll.v else s.scroll.cruise) + delta)

/-- A jump to a row (R9, R10, R86, R123): the position, the marks armed around it in three bands, the states, the on-air id, and ON_AIR
where that id changes; nothing else. -/
def Jumped (target : Int) (s t : State) : Prop :=
  t.scroll = { s.scroll with p := (max 0 (min (s.rows : Int) target)).toNat * 1024 }
    ∧ t.layout = { s.layout with marks := s.layout.marks.map fun m =>
        { m with armed := if m.position ≤ t.scroll.p then false
            else if m.position ≤ t.scroll.p + 1024 then m.armed else true } }
    ∧ t.store.stories = restated t s.store.stories ∧ OnAirKept t
    ∧ t.store = { s.store with stories := t.store.stories, onAirId := t.store.onAirId }
    ∧ (t.pending = s.pending ∧ t.edit = s.edit ∧ t.hub = s.hub ∧ t.cues = s.cues ∧ t.heads = s.heads ∧ t.job = s.job)
    ∧ t.link = (noticesRaised (onAirNotices s t) s).link

/-- One action key newly down, by its bit (R172). -/
def onlyKey (bit : Nat) : KeySet := BitVec.twoPow 9 bit

/-- What a cue action leaves of cue line `l` (R126). -/
def lineAfter (l : Fin 8) (x : CueLine) : CueAction → CueLine
  | .pulse k steps => if k = l then ⟨x.latch, steps * 10⟩ else x
  | .set k => if k = l then ⟨true, x.pulse⟩ else x
  | .clear k => if k = l then ⟨false, 0⟩ else x
  | .pause => x
  | .cruise _ => x

/-- What a cue action leaves of the cruise speed (R69, R119). -/
def cruiseAfter (vmax : Nat) (x : Int) : CueAction → Int
  | .cruise speed => max (-(vmax : Int)) (min vmax speed)
  | .pulse _ _ => x
  | .set _ => x
  | .clear _ => x
  | .pause => x

/-- The demand of a scroll frame (R73). -/
def demandGiven (s : State) : Int :=
  match s.scroll.state, s.hub.holder with
  | .cruise, _ => max (-(s.scroll.vmax : Int)) (min s.scroll.vmax s.scroll.cruise)
  | .manual, some h => leverDemand s.scroll.curve s.scroll.vmax s.hub.ports[h.port]
  | _, _ => 0

/-- An armed mark whose cue has a PAUSE action and that lies in an advance (R65, R78). -/
abbrev PausesIn (s : State) (p p' : Nat) (m : MarkRecord) : Prop :=
  p < m.position ∧ m.position ≤ p' ∧ m.armed = true ∧ CueAction.pause ∈ cueActions s m.cue

/-- A lever demand's speed before its sign (R74 steps 1 to 4). -/
def demandMagnitude (curve : Vector Nat 9) (vmax dead gain m : Nat) : Nat :=
  let m' := if m ≤ dead then 0 else (m - dead) * 128 / (128 - dead)
  let q := fun k => curve.toList.getD k 0
  let speed := if m' = 128 then q 8 else q (m' / 16) + (q (m' / 16 + 1) - q (m' / 16)) * (m' - 16 * (m' / 16)) / 16
  min (speed * gain / 64) vmax

/-- The decoded value of a report (R95). -/
def valueGiven (r : ControlReport) (reverse : Bool) : PortValue :=
  match r.kind with
  | .lever => .deflection (r.raw.toInt < 0) ((if r.raw = 0x80 then 127 else r.raw.toInt.natAbs) * 128 / 127)
  | .pedal => .deflection (r.keys.getLsbD 8 && reverse) (r.raw.toNat * 128 / 255)
  | .wheel => .detents r.raw.toInt
  | .keypad => .none

/-- A request from a role that is permitted (R104). -/
abbrev Permitted (role : Role) (s : State) : Prop :=
  s.hub.holder = none ∨ (∃ h ∈ s.hub.holder, h.role = role) ∨ (role = .operator ∧ s.hub.priority = .operatorFirst)
    ∨ (role = .presenter ∧ s.hub.priority = .presenterFirst)

/-- Head `h` changed by `f`, every other head as it was. -/
def HeadChanged (h : Fin 4) (f : Head → Head) (s t : State) : Prop :=
  t.heads[h] = f s.heads[h] ∧ ∀ g : Fin 4, g ≠ h → t.heads[g] = s.heads[g]

/-- Everything but the heads, the link and the scroll controller is as it was. -/
def HeadFrame (s t : State) : Prop :=
  t.pending = s.pending ∧ t.store = s.store ∧ t.edit = s.edit ∧ t.layout = s.layout ∧ t.hub = s.hub ∧ t.cues = s.cues
    ∧ t.job = s.job ∧ t.resetHeld = s.resetHeld

/-- Whether a slot's row is visible: its place in the ring lies in the window of the head's last frame start, and its row in the
script (R148). -/
def State.inView (s : State) (h : Fin 4) (slot : Fin 32) : Bool :=
  let head := s.heads[h]
  match head.slotRow slot with
  | none => false
  | some row => decide (head.window.topRow - head.window.bias ≤ row - head.bias
      ∧ row - head.bias ≤ head.window.bottomRow - head.window.bias ∧ 0 ≤ row ∧ row < s.rows)

/-- The four keys of R148 for the request of a half, as a list to be compared from its front. -/
def requestKey (s : State) (h : Fin 4) (half : Fin 2) : List Nat :=
  let set := (s.heads[h]).halves[half]
  let seen := set.remaining.filter (s.inView h)
  [if set.urgent = true then (if seen = [] then 1 else 0) else 2, if set.urgent = true then seen.length else 0, h.val, half.val]

/-- The order of the slots of a request (R149): a visible one by its distance from the reading row of the window, then by its row; one
that is not visible by its row alone. -/
def slotKey (s : State) (h : Fin 4) (slot : Fin 32) : List Int :=
  let head := s.heads[h]
  match head.slotRow slot with
  | none => []
  | some row =>
      if s.inView h slot then
        [(((row - head.bias) - (head.window.readingRow - head.window.bias)).natAbs : Int), row]
      else [row]

/-- A geometry that holds rows of the column count in force and of a reflow's target (R47, R130). -/
abbrev HoldsRows (g : Geometry) (s : State) : Prop :=
  s.layout.columns * 16 * g.scale + g.margin ≤ g.width ∧ ∀ c ∈ s.layout.target, c * 16 * g.scale + g.margin ≤ g.width

/-! ## Terms of time -/

/-- A rate's period in units of 1/60,000 s (R89). -/
def timerPeriod : Rate → Nat
  | .hz50 => 1200
  | .hz5994 => 1001
  | .hz60 => 1000

/-- Three nominal frame periods in ms, rounded up (R136). -/
def syncPeriods (r : Rate) : Nat := (3 * timerPeriod r + 59) / 60

/-! ## Terms of the layouts (R170) -/

/-- The unsigned field of `n` bytes at offset `i` of a payload, little-endian (R170). -/
def fieldAt (bytes : List Byte) (i n : Nat) : Nat :=
  ((bytes.drop i).take n).foldr (fun b x => b.toNat + 256 * x) 0

/-- The field lengths that R170 allows a command's code: what follows the sequence byte agrees with the fixed length, or with the
count byte, or holds at least the tag of a line. -/
def fieldsFit (code : Byte) (fields : List Byte) : Prop :=
  let n := fields.length
  if code.toNat ∈ [0x01, 0x02, 0x03, 0x04, 0x20, 0x21, 0x24] then n = 0
  else if code.toNat ∈ [0x08, 0x0D, 0x13, 0x19, 0x29, 0x31, 0x32, 0x33, 0x34, 0x36] then n = 1
  else if code.toNat ∈ [0x0C, 0x17, 0x18, 0x22] then n = 2
  else if code = 0x2A then n = 3
  else if code = 0x14 then n = 5
  else if code = 0x16 then n = 6
  else if code = 0x23 then n = 7
  else if code = 0x15 then n = 8
  else if code = 0x0B then n = 10
  else if code = 0x30 then n = 11
  else if code = 0x09 then n = 12
  else if code = 0x0A then n = 18
  else if code = 0x35 then n = 23
  else if code = 0x10 then 13 ≤ n ∧ fieldAt fields 12 1 + 13 = n
  else if code = 0x28 then 2 ≤ n ∧ 4 * fieldAt fields 1 1 + 2 = n
  else 1 ≤ n

/-- The seven bytes of an anchor at offset `i`; the character index of SLUG and END is sent as 0 (R170, log 45). -/
def AnchorLaidOut (bytes : List Byte) (i : Nat) : Option Anchor → Prop
  | none => fieldAt bytes i 2 = 0 ∧ fieldAt bytes (i + 2) 2 = 0xFFFF ∧ fieldAt bytes (i + 4) 1 = 0 ∧ fieldAt bytes (i + 5) 2 = 0
  | some a =>
      fieldAt bytes i 2 = a.story % 65536 ∧ fieldAt bytes (i + 5) 2 = a.fraction % 65536
        ∧ match a.place with
          | .line l char => fieldAt bytes (i + 2) 2 = l % 65536 ∧ fieldAt bytes (i + 4) 1 = char % 256
          | .slug => fieldAt bytes (i + 2) 2 = 0xFFFE ∧ fieldAt bytes (i + 4) 1 = 0
          | .storyEnd => fieldAt bytes (i + 2) 2 = 0xFFFD ∧ fieldAt bytes (i + 4) 1 = 0

/-- A port field: FFh for none (R170). -/
def portField : Option (Fin 6) → Nat
  | none => 0xFF
  | some n => n.val

/-- The length of a notice and its fields from offset 2, by its code (R170). -/
def NoticeLaidOut (n : Notice) : Prop :=
  let b := n.payload
  let at1 := fun i => fieldAt b i 1
  let at2 := fun i => fieldAt b i 2
  match n with
  | .started cause => b.length = 6 ∧ at1 0 = 0x80 ∧ at1 2 = cause.code.toNat ∧ at2 3 = 0x2418 ∧ at1 5 = 1
  | .scrollState new previous p v cause =>
      b.length = 12 ∧ at1 0 = 0x81 ∧ at1 2 = new.code.toNat ∧ at1 3 = previous.code.toNat ∧ fieldAt b 4 4 = p % 2 ^ 32
        ∧ at2 8 = (v % 65536).toNat
        ∧ match cause with
          | .host => at1 10 = 0 ∧ at1 11 = 0
          | .port k => at1 10 = 1 ∧ at1 11 = k.val
          | .atEnd => at1 10 = 2 ∧ at1 11 = 0
          | .atTop => at1 10 = 3 ∧ at1 11 = 0
          | .pause cue => at1 10 = 4 ∧ at1 11 = cue % 256
          | .script => at1 10 = 5 ∧ at1 11 = 0
          | .controlLost => at1 10 = 6 ∧ at1 11 = 0
  | .onAir story => b.length = 4 ∧ at1 0 = 0x83 ∧ at2 2 = story % 65536
  | .editApplied tag kind story =>
      b.length = 7 ∧ at1 0 = 0x84 ∧ at2 2 = tag % 65536 ∧ at1 4 = kind.code.toNat ∧ at2 5 = story % 65536
  | .editDiscarded tag reason => b.length = 5 ∧ at1 0 = 0x85 ∧ at2 2 = tag % 65536 ∧ at1 4 = reason.code.toNat
  | .loadAborted tag => b.length = 4 ∧ at1 0 = 0x86 ∧ at1 2 = tag % 256 ∧ at1 3 = 1
  | .reflowDone ok columns generation rows =>
      b.length = 8 ∧ at1 0 = 0x87 ∧ at1 2 = (if ok = true then 0 else 31) ∧ at1 3 = columns % 256
        ∧ at2 4 = generation.toNat ∧ at2 6 = rows % 65536
  | .cuePassed cue story line char position isUndefined =>
      b.length = 13 ∧ at1 0 = 0x88 ∧ at1 2 = cue % 256 ∧ at2 3 = story % 65536 ∧ at2 5 = line % 65536 ∧ at1 7 = char % 256
        ∧ fieldAt b 8 4 = position % 2 ^ 32 ∧ at1 12 = (if isUndefined = true then 1 else 0)
  | .authority holder previous cause =>
      b.length = 7 ∧ at1 0 = 0x89 ∧ at1 2 = portField (holder.map Holder.port) ∧ at1 5 = portField previous
        ∧ at1 6 = cause.code.toNat
        ∧ (holder = none → at1 3 = 0 ∧ at1 4 = 0)
        ∧ (∀ h ∈ holder, at1 3 = h.role.code.toNat ∧ at1 4 = (kindCode (some h.kind)).toNat)
  | .contention port role holder =>
      b.length = 6 ∧ at1 0 = 0x8A ∧ at1 2 = port.val ∧ at1 3 = role.code.toNat ∧ at1 4 = holder.port.val
        ∧ at1 5 = holder.role.code.toNat
  | .portState port new previous kind =>
      b.length = 6 ∧ at1 0 = 0x8B ∧ at1 2 = port.val ∧ at1 3 = new.code.toNat ∧ at1 4 = previous.code.toNat
        ∧ at1 5 = (kindCode kind).toNat
  | .headState head new previous =>
      b.length = 5 ∧ at1 0 = 0x8C ∧ at1 2 = head.val ∧ at1 3 = new.code.toNat ∧ at1 4 = previous.code.toNat
  | .headDegraded head missing => b.length = 4 ∧ at1 0 = 0x8D ∧ at1 2 = head.val ∧ at1 3 = missing % 256
  | .headClear head => b.length = 3 ∧ at1 0 = 0x8E ∧ at1 2 = head.val
  | .markKey port p anchor =>
      b.length = 14 ∧ at1 0 = 0x8F ∧ at1 2 = port.val ∧ fieldAt b 3 4 = p % 2 ^ 32 ∧ AnchorLaidOut b 7 anchor
  | .syncState head present =>
      b.length = 4 ∧ at1 0 = 0x90 ∧ at1 2 = head.val ∧ at1 3 = (if present = true then 1 else 0)

/-- A reply's fields have the sizes the engine keeps: a slug of at most 24 characters (R15), at most 48 rundown entries (R18) and at
most 4 actions (R115). -/
def ReplyBody.bounded : ReplyBody → Prop
  | .story f => f.slug.length ≤ 24
  | .rundown _ _ _ entries => entries.length ≤ 48
  | .cue _ actions _ _ => actions.length ≤ 4
  | _ => True

/-- The four bytes of an action in a CUE_READ reply, as far as its kind uses them (R117, R170). -/
def ActionLaidOut (bytes : List Byte) (i : Nat) : CueAction → Prop
  | .pause => fieldAt bytes i 1 = 1
  | .cruise x => fieldAt bytes i 1 = 2 ∧ fieldAt bytes (i + 2) 2 = (x % 65536).toNat
  | .pulse l steps => fieldAt bytes i 1 = 3 ∧ fieldAt bytes (i + 1) 1 = l.val ∧ fieldAt bytes (i + 2) 2 = steps % 65536
  | .set l => fieldAt bytes i 1 = 4 ∧ fieldAt bytes (i + 1) 1 = l.val
  | .clear l => fieldAt bytes i 1 = 5 ∧ fieldAt bytes (i + 1) 1 = l.val

/-- The 22 bytes of an appearance record at offset `i` (R170). -/
def AppearanceLaidOut (bytes : List Byte) (i : Nat) (a : Appearance) : Prop :=
  let at1 := fun k => fieldAt bytes (i + k) 1
  let colour := fun k => (⟨BitVec.ofNat 8 (at1 k), BitVec.ofNat 8 (at1 (k + 1)), BitVec.ofNat 8 (at1 (k + 2))⟩ : Colour)
  at1 0 = (if a.mirror = true then 1 else 0) ∧ at1 1 = (if a.flip = true then 1 else 0)
    ∧ (∀ n : Fin 4, colour (2 + 3 * n.val) = a.text[n]) ∧ colour 14 = a.background
    ∧ at1 17 = (if a.marker = true then 1 else 0) ∧ colour 18 = a.markerColour ∧ at1 21 = (if a.arrows = true then 1 else 0)

/-- The length of a reply and its fields from offset 4, by the command it answers (R170). -/
def ReplyLaidOut (r : Reply) : Prop :=
  let b := r.payload
  let at1 := fun i => fieldAt b i 1
  let at2 := fun i => fieldAt b i 2
  match r.body with
  | .bare => b.length = 4
  | .deferred tag => b.length = 6 ∧ at2 4 = tag % 65536
  | .identify rate => b.length = 40 ∧ at2 4 = 0x2418 ∧ at1 6 = 1 ∧ at1 7 = (linkRateCode rate).toNat
  | .status f =>
      b.length = 23 ∧ at1 4 = f.state.code.toNat ∧ fieldAt b 5 4 = f.p % 2 ^ 32 ∧ at2 9 = (f.v % 65536).toNat
        ∧ at1 11 = portField (f.holder.map Holder.port) ∧ at1 12 = (kindCode (f.holder.map Holder.kind)).toNat
        ∧ (∀ h : Fin 4, at1 (13 + h.val) = (f.heads[h]).code.toNat) ∧ at2 17 = f.freeCount % 65536
        ∧ at1 19 = f.pending % 256 ∧ at1 20 = f.loads % 256 ∧ at1 21 = (if f.reflowing = true then 1 else 0)
        ∧ at1 22 = f.lost % 256
  | .frameSource source rate => b.length = 6 ∧ at1 4 = source.code.toNat ∧ at1 5 = rate.code.toNat
  | .reporting n => b.length = 5 ∧ at1 4 = n % 256
  | .loadOpened tag => b.length = 5 ∧ at1 4 = tag % 256
  | .linesReceived n => b.length = 6 ∧ at2 4 = n % 65536
  | .rowCount n => b.length = 6 ∧ at2 4 = n % 65536
  | .totalRows n => b.length = 6 ∧ at2 4 = n % 65536
  | .startRow n => b.length = 6 ∧ at2 4 = n % 65536
  | .cancelled kind id => b.length = 7 ∧ at1 4 = kind.code.toNat ∧ at2 5 = id % 65536
  | .story f =>
      b.length = 20 + f.slug.length ∧ at2 4 = f.edition.toNat ∧ at1 6 = f.index % 256 ∧ at1 7 = f.state.code.toNat
        ∧ at2 8 = f.revision.toNat ∧ at2 10 = f.lineCount % 65536 ∧ at2 12 = f.rowCount % 65536
        ∧ at2 14 = f.startRow % 65536 ∧ at2 16 = f.markCount % 65536 ∧ at1 18 = f.pendingCount % 256
        ∧ at1 19 = f.slug.length % 256 ∧ b.drop 20 = f.slug
  | .rundown edition n first entries =>
      b.length = 9 + 4 * entries.length ∧ at2 4 = edition.toNat ∧ at1 6 = n % 256 ∧ at1 7 = first % 256
        ∧ at1 8 = entries.length % 256
        ∧ ∀ (k : Nat) (e : RundownEntry), entries[k]? = some e →
          at2 (9 + 4 * k) = e.id % 65536 ∧ at1 (11 + 4 * k) = e.state.code.toNat ∧ at1 (12 + 4 * k) = e.pendingCount % 256
  | .motion f =>
      b.length = 13 ∧ at1 4 = f.state.code.toNat ∧ fieldAt b 5 4 = f.p % 2 ^ 32 ∧ at2 9 = (f.v % 65536).toNat
        ∧ at2 11 = (f.cruise % 65536).toNat
  | .position f =>
      b.length = 29 ∧ fieldAt b 4 4 = f.p % 2 ^ 32 ∧ at2 8 = (f.v % 65536).toNat ∧ at1 10 = f.state.code.toNat
        ∧ at1 11 = f.direction.code.toNat ∧ at2 12 = (f.cruise % 65536).toNat ∧ at2 14 = (f.lastDemand % 65536).toNat
        ∧ at2 16 = f.rows % 65536 ∧ at2 18 = f.onAirId % 65536 ∧ AnchorLaidOut b 20 f.anchor
        ∧ at1 27 = f.source.code.toNat ∧ at1 28 = f.rate.code.toNat
  | .cue _ actions marks armed =>
      b.length = 10 + 4 * actions.length ∧ at1 4 = (if actions = [] then 0 else 1) ∧ at1 5 = actions.length % 256
        ∧ (∀ (k : Nat) (a : CueAction), actions[k]? = some a → ActionLaidOut b (6 + 4 * k) a)
        ∧ at2 (6 + 4 * actions.length) = marks % 65536 ∧ at2 (8 + 4 * actions.length) = armed % 65536
  | .lines f =>
      b.length = 22
        ∧ (∀ l : Fin 8, ((at1 4).testBit l.val = true ↔ (f[l]).level = true) ∧ ((at1 5).testBit l.val = true ↔ (f[l]).latch = true)
          ∧ at2 (6 + 2 * l.val) = (f[l]).pulse % 65536)
  | .geometry pitch rows => b.length = 6 ∧ at1 4 = pitch % 256 ∧ at1 5 = rows % 256
  | .headState st => b.length = 5 ∧ at1 4 = st.code.toNat
  | .head f =>
      b.length = 89 ∧ at2 4 = f.geometry.width % 65536 ∧ at2 6 = f.geometry.height % 65536 ∧ at1 8 = f.geometry.scale % 256
        ∧ at1 9 = f.geometry.leading % 256 ∧ at2 10 = f.geometry.margin % 65536 ∧ at1 12 = f.geometry.readingRow % 256
        ∧ at1 13 = f.geometry.rate.code.toNat ∧ at1 14 = (32 * f.geometry.scale + f.geometry.leading) % 256
        ∧ at1 15 = f.geometry.height / (32 * f.geometry.scale + f.geometry.leading) % 256
        ∧ AppearanceLaidOut b 16 f.appearance
        ∧ (match f.pendingAppearance with
          | none => ∀ k < 23, at1 (38 + k) = 0
          | some a => at1 38 = 1 ∧ AppearanceLaidOut b 39 a)
        ∧ at1 61 = f.state.code.toNat ∧ at1 62 = (if f.syncLost = true then 1 else 0)
        ∧ at1 63 = (if f.degraded = true then 1 else 0) ∧ fieldAt b 64 4 = (f.bias % 2 ^ 32).toNat
        ∧ (∀ half : Fin 2,
          fieldAt b (68 + 6 * half.val) 4 = (match (f.halves[half]).block with
            | none => 0x80000000
            | some block => (block % 2 ^ 32).toNat)
          ∧ at1 (72 + 6 * half.val) = (f.halves[half]).remaining % 256
          ∧ at1 (73 + 6 * half.val) = (match (f.halves[half]).urgent with
            | none => 0
            | some urgent => if urgent = true then 1 else 2))
        ∧ at1 80 = f.emptySlots % 256 ∧ at1 81 = f.renderingSlots % 256 ∧ at1 82 = f.validSlots % 256
        ∧ (-32768 ≤ f.window.topRow → f.window.topRow ≤ 32767 → at2 83 = (f.window.topRow % 65536).toNat)
        ∧ (-32768 ≤ f.window.bottomRow → f.window.bottomRow ≤ 32767 → at2 85 = (f.window.bottomRow % 65536).toNat)
        ∧ at2 87 = (f.window.readingRow % 65536).toNat

/-- The codes of the value sets (R170, R171). -/
def CodesAreTabled : Prop :=
  [ScrollState.idle, .stopped, .cruise, .manual, .held].map ScrollState.code = [0, 1, 2, 3, 4]
    ∧ [Direction.forward, .backward].map Direction.code = [0, 1]
    ∧ [StoryState.ready, .onAir, .read, .skipped].map StoryState.code = [0, 1, 2, 3]
    ∧ [EditKind.replace, .insert, .delete, .move, .skip, .unskip].map EditKind.code = [0, 1, 2, 3, 4, 5]
    ∧ [FrameSource.head 0, .head 1, .head 2, .head 3, .internal .hz50].map FrameSource.code = [0, 1, 2, 3, 4]
    ∧ [Rate.hz50, .hz5994, .hz60].map Rate.code = [0, 1, 2] ∧ [Role.operator, .presenter].map Role.code = [0, 1]
    ∧ [none, some ControllerKind.lever, some .pedal, some .wheel, some .keypad].map kindCode = [0, 1, 2, 3, 4]
    ∧ [PortState.empty, .live, .stale, .off].map PortState.code = [0, 1, 2, 3]
    ∧ [HeadState.disabled, .starting, .running, .blanked, .stopping].map HeadState.code = [0, 1, 2, 3, 4]
    ∧ [AuthorityCause.taken, .released, .stopped, .ended, .controlLost].map AuthorityCause.code = [0, 1, 2, 3, 4]
    ∧ [StartCause.power, .pin, .command].map StartCause.code = [0, 1, 2]
    ∧ [LinkRate.baud115200, .baud230400, .baud460800, .baud921600].map linkRateCode = [0, 1, 2, 3]
    ∧ [Result.ok, .deferred].map Result.code = [0, 1]
    ∧ [Reason.unknownCommand, .badLength, .badValue, .busy, .noSlot, .poolFull, .storyExists, .noStory, .storyLimit, .markLimit,
        .countShort, .countOver, .noLoad, .editQueueFull, .noEdit, .rowLimit, .headActive, .headTooNarrow, .rowsExceed,
        .curveOrder, .heldByControl, .notRunning, .tagInUse].map (fun r => (Result.reason r).code) =
      [16, 17, 18, 19, 20, 21, 22, 23, 24, 25, 26, 27, 28, 29, 30, 31, 32, 33, 34, 35, 36, 37, 38]

end Sys2Proof.Machine
end

