-- ==== Sys2Proof/WellFormed.lean ====
section
/-! DEFINITION. WellFormed.lean: which terms of Instr a frame of the command link can carry (R158, R161, R170). Every event
is well formed: its operands' types bound them. -/

namespace Sys2Proof

/-- The operands fit a payload of 2..220 bytes laid out by R170; an UNKNOWN_COMMAND's code is no command's (R161). -/
def Instr.wf : Instr → Bool
  | .unknownCommand code _ rest => decide (code ∉ commandCodes) && decide (rest.length ≤ 218)
  | .loadOpen _ _ _ _ _ _ _ _ _ slug => decide (slug.length ≤ 205)
  | .loadLine _ _ text => decide (text.length ≤ 217)
  | .loadLast _ _ text => decide (text.length ≤ 217)
  | .cueDefine _ _ actions => decide (actions.length ≤ 54)
  | .identify _ | .status _ | .restart _ | .clearShow _ | .setColumns _ _ | .setMotion _ _ _ _ _ _ _ _
  | .setCurve _ _ | .setPort _ _ _ _ _ _ _ _ _ | .setFrameSource _ _ _ | .setReporting _ _ | .loadCancel _ _
  | .storyDelete _ _ _ _ | .storyMove _ _ _ _ _ _ | .storySkip _ _ _ _ _ | .editCancel _ _ | .readStory _ _
  | .readRundown _ _ | .scrollStop _ | .scrollResume _ | .scrollSpeed _ _ | .jump _ _ _ _ _ | .readPosition _
  | .cueRead _ _ | .outputSet _ _ _ _ | .headConfig _ _ _ _ _ _ _ _ _ | .headStart _ _ | .headStop _ _
  | .headBlank _ _ | .headUnblank _ _ | .headAppearance _ _ _ | .headRead _ _ | .linkFrame _ | .byteGapTimeout
  | .lineBreak | .transmitDone | .controllerReport _ _ | .portByteGapTimeout _ | .reportTimeout _
  | .releaseTimerExpiry | .loadIdleTimeout _ | .internalTimerExpiry | .scrollFrame | .frameStart _
  | .syncLossExpiry _ | .renderComplete | .pulseEnd _ | .reflowComplete | .powerUp _ | .resetPinAssert
  | .resetPinRelease _ | .restartReset _ => true

/-- Whether the row is a command the host sends in a frame (rather than an event of the engine). -/
def Instr.isHostCommand (i : Instr) : Bool := !(payloadOf i).isEmpty

end Sys2Proof
end

