-- ==== Sys2Proof/Certificates/Slice0/Obligations.lean ====
section
/-! DEFINITION. Obligations.lean: the statements for the provers. A completion statement says that `exec` of a row answers the next
state that the rules give, under hypotheses on the state and the operands alone. Where it gives that state as a record update of
`s`, every field that is not named is unchanged: that is the row's frame. -/

open Sys2Proof Sys2Proof.Machine

/-! ## Steps and resets -/

/-- Every step takes the command at the front of the queue and is that command's `exec` on the state with the queue's rest. The queue
is the model's (log 1); it holds commands and events, and is not the receive queue of the link. -/
def Obligations.StepRunsTheFrontCommand : Prop :=
  ∀ (c : Instr) (rest : List Instr) (s : State),
    step { s with pending := c :: rest } = exec c { s with pending := rest }

/-- The model's choice of log 2: with no command waiting, a scroll frame that is owed is taken, or a millisecond passes. In it every pulse
falls by 1, every running timer counts 1 ms or runs out, the internal timer counting 60 of its units (log 29), and the position and
velocity stand. A timer that runs out does what its row does: a byte gap past 20 ms discards its frame, a report timer makes its port
STALE, the release timer at the release delay ends the hold, an idle time of 5,000 ms aborts its load, a sync-loss timer at three frame
periods sets sync-lost, and the internal timer owes a scroll frame; one that the millisecond starts stands at 0 (log 4; R28, R89, R90,
R94, R98, R109, R110, R125, R136, R159). Held in reset, nothing happens. -/
def Obligations.IdleStepIsAFrameOrAMillisecond : Prop :=
  ∀ s : State, s.pending = [] →
    (s.resetHeld = true → step s = .next s)
      ∧ (s.resetHeld = false → 0 < s.scroll.framesOwed → step s = exec .scrollFrame s)
      ∧ (s.resetHeld = false → s.scroll.framesOwed ≤ 0 →
          let gapped := fun r : Receiver => match r with
            | .hunting => Receiver.hunting
            | .inFrame got gap => if gap < 20 then .inFrame got (gap + 1) else .hunting
          let silent := fun n : Fin 6 => (s.hub.ports[n]).state = .live
            ∧ ∃ k ∈ (s.hub.ports[n]).timer, (s.hub.ports[n]).armedTimeout ≤ k + 1
          let lost := fun h : Fin 4 => ∃ k ∈ (s.heads[h]).syncTimer, syncPeriods (s.heads[h]).geometry.rate ≤ k + 1
          ∃ t, step s = .next t ∧ t.scroll.p = s.scroll.p ∧ t.scroll.v = s.scroll.v
            ∧ (∀ l : Fin 8, t.cues.lines[l] = ⟨(s.cues.lines[l]).latch, (s.cues.lines[l]).pulse - 1⟩)
            ∧ t.link.receiver = gapped s.link.receiver
            ∧ (∀ n : Fin 6, (t.hub.ports[n]).receiver = gapped (s.hub.ports[n]).receiver
              ∧ (silent n → (t.hub.ports[n]).state = .stale ∧ (t.hub.ports[n]).timer = none)
              ∧ (¬ silent n → (s.hub.ports[n]).state = .live → (t.hub.ports[n]).state = .live
                ∧ (t.hub.ports[n]).timer = (s.hub.ports[n]).timer.map (· + 1)))
            ∧ (∀ h ∈ s.hub.holder, silent h.port → t.hub.holder = none ∧ t.hub.releaseTimer = none)
            ∧ (∀ h ∈ s.hub.holder, ¬ silent h.port →
              (∀ k ∈ s.hub.releaseTimer, s.hub.releaseDelay ≤ k + 1 → t.hub.holder = none ∧ t.hub.releaseTimer = none)
              ∧ ((∀ k ∈ s.hub.releaseTimer, k + 1 < s.hub.releaseDelay) →
                t.hub.holder = some h ∧ t.hub.releaseTimer = s.hub.releaseTimer.map (· + 1)))
            ∧ ((s.edit.loads.map Load.tag).Nodup → t.edit.loads =
              (s.edit.loads.filter fun l => decide (l.idle + 1 < 5000)).map fun l => { l with idle := l.idle + 1 })
            ∧ (∀ h : Fin 4, (lost h → (t.heads[h]).syncLost = true ∧ (t.heads[h]).syncTimer = none)
              ∧ (¬ lost h → (t.heads[h]).syncLost = (s.heads[h]).syncLost
                ∧ (t.heads[h]).syncTimer = (s.heads[h]).syncTimer.map (· + 1)))
            ∧ ((∀ h : Fin 4, ¬ lost h) → ∀ r k, s.scroll.inUse = .internal r → s.scroll.frameTimer = some k →
              t.scroll.frameTimer = some (if timerPeriod r ≤ k + 60 then k + 60 - timerPeriod r else k + 60)
                ∧ t.scroll.framesOwed = s.scroll.framesOwed + if timerPeriod r ≤ k + 60 then 1 else 0)
            ∧ (t.scroll.inUse ≠ s.scroll.inUse → ∀ r, t.scroll.inUse = .internal r → t.scroll.frameTimer = some 0))

/-- What a full reset leaves, block by block, with the values the spec gives (R19, R21, R35, R37, R66, R75, R91, R92, R114, R128, R132,
R145, R146, R164, R169). -/
def Obligations.ResetLeavesTheFullResetValues : Prop :=
  let r := State.reset
  (r.store.stories = [] ∧ r.store.edition = 0 ∧ r.store.insertions = 0 ∧ r.store.onAirId = 0 ∧ r.store.freeCount = 4096)
    ∧ (r.edit.loads = [] ∧ r.edit.pending = [] ∧ r.edit.lookahead = 12)
    ∧ (r.layout.target = none ∧ r.layout.columns = 24 ∧ r.layout.generation = 0 ∧ r.layout.marks = [] ∧ r.rows = 0)
    ∧ (r.scroll.p = 0 ∧ r.scroll.v = 0 ∧ r.scroll.cruise = 0 ∧ r.scroll.state = .idle ∧ r.scroll.direction = .forward
      ∧ r.scroll.lastDemand = 0 ∧ r.scroll.vmax = 2048 ∧ r.scroll.accel = 8 ∧ r.scroll.brake = 16 ∧ r.scroll.keyStep = 16
      ∧ r.scroll.curve = #v[0, 4, 12, 28, 56, 100, 170, 300, 1024] ∧ r.scroll.setting = .internal .hz60
      ∧ r.scroll.inUse = .internal .hz60 ∧ r.scroll.frameTimer = some 0)
    ∧ (∀ n : Fin 6, (r.hub.ports[n]).state = .empty ∧ (r.hub.ports[n]).kind = none ∧ (r.hub.ports[n]).value = .none
      ∧ (r.hub.ports[n]).keys = 0 ∧ (r.hub.ports[n]).mustRest = false ∧ (r.hub.ports[n]).refused = false
      ∧ (r.hub.ports[n]).timer = none ∧ (r.hub.ports[n]).receiver = .hunting ∧ (r.hub.ports[n]).timeout = 250
      ∧ (r.hub.ports[n]).gain = 64 ∧ (r.hub.ports[n]).dead = 6 ∧ (r.hub.ports[n]).step = 4
      ∧ (r.hub.ports[n]).role = (if n.val < 3 then .operator else .presenter)
      ∧ (r.hub.ports[n]).reverse = decide (n.val < 3))
    ∧ (r.hub.holder = none ∧ r.hub.releaseTimer = none ∧ r.hub.releaseDelay = 600 ∧ r.hub.priority = .operatorFirst)
    ∧ (∀ c : Fin 64, r.cues.defs[c] = []) ∧ (∀ l : Fin 8, r.cues.lines[l] = ⟨false, 0⟩ ∧ lineLevel r l = false)
    ∧ (∀ h : Fin 4, (r.heads[h]).state = .disabled ∧ (r.heads[h]).geometry = ⟨1280, 720, 2, 8, 64, 3, .hz60⟩
      ∧ (r.heads[h]).appearance =
        { mirror := false, flip := false
          text := #v[⟨0xFF, 0xFF, 0xFF⟩, ⟨0xFF, 0xFF, 0x00⟩, ⟨0x00, 0xFF, 0xFF⟩, ⟨0x00, 0xFF, 0x00⟩]
          background := ⟨0, 0, 0⟩, marker := true, markerColour := ⟨0xFF, 0, 0⟩, arrows := true }
      ∧ (r.heads[h]).pendingAppearance = none ∧ (r.heads[h]).bias = 0 ∧ (r.heads[h]).degraded = false
      ∧ (r.heads[h]).syncLost = false ∧ (r.heads[h]).syncTimer = none
      ∧ ((r.heads[h]).window.topRow = 0 ∧ (r.heads[h]).window.bottomRow = 0 ∧ (r.heads[h]).window.readingRow = 0)
      ∧ (∀ half : Fin 2, (r.heads[h]).halves[half].block = none ∧ (r.heads[h]).halves[half].remaining = [])
      ∧ (∀ i : Fin 32, (r.heads[h]).slots[i] = .empty))
    ∧ r.job = none
    ∧ (r.link.receiver = .hunting ∧ r.link.received = [] ∧ r.link.replies = [] ∧ r.link.notices = [.started .power]
      ∧ r.link.lost = 0 ∧ r.link.slot = none ∧ r.link.interval = 0 ∧ r.link.frameCount = 0 ∧ r.link.reportNumber = 0
      ∧ linkReady r = true)

/-- POWER_UP, RESET_PIN_RELEASE and RESTART_RESET each leave every block at its full-reset values, with STARTED the first frame
sent and the rate from the straps; while the RESET input is held every block stands at those values, link-ready is deasserted and the
transmit line idle (R169). That STARTED is being sent at the reset's end is the model's deduction (log 8), and the straps reach it as
the row's operand (log 7). The model's queue and its numbering of free values are not the engine's (logs 1, 14), RESTART_RESET comes
once the RESTART reply has been sent, or as it is (log 26), and no other row changes anything while the input is held (log 27). -/
def Obligations.FullResetsCompleteWithTheirCause : Prop :=
  ∀ (rate : LinkRate) (s : State),
    let full : StartCause → State := fun cause =>
      { State.reset with
        pending := s.pending
        fresh := s.fresh
        link := { State.reset.link with notices := [.started cause], sending := some .notice, rate := rate } }
    (s.resetHeld = false → exec (.powerUp rate) s = .next (full .power))
      ∧ exec (.resetPinRelease rate) s = .next (full .pin)
      ∧ (s.resetHeld = false →
          (s.link.restart = .due
            ∨ (s.link.restart = .replying ∧ s.link.sending = some .reply ∧ s.link.replies.length = 1)) →
          exec (.restartReset rate) s = .next (full .command))
      ∧ (∃ t, exec .resetPinAssert s = .next t ∧ t.resetHeld = true ∧ linkReady t = false ∧ txFrame t = none
        ∧ t.store = State.reset.store ∧ t.edit = State.reset.edit ∧ t.layout = State.reset.layout
        ∧ t.scroll = State.reset.scroll ∧ t.hub = State.reset.hub ∧ t.cues = State.reset.cues
        ∧ t.heads = State.reset.heads ∧ t.job = none ∧ t.link.received = [] ∧ t.link.replies = [] ∧ t.link.slot = none)
      ∧ (∀ i : Instr, s.resetHeld = true → i ≠ .resetPinAssert → (∀ straps, i ≠ .resetPinRelease straps) →
        exec i s = .next s)

/-! ## The command link -/

/-- A notice that is raised joins the queue at its end while it holds fewer than 32; otherwise it is discarded and the lost-notice
count rises by 1, to at most 255. Nothing else changes (R163). -/
def Obligations.RaisedNoticeJoinsOrIsCounted : Prop :=
  ∀ (n : Notice) (s : State),
    raise n s =
      if s.link.notices.length < 32 then { s with link := { s.link with notices := s.link.notices ++ [n] } }
      else { s with link := { s.link with lost := if s.link.lost < 255 then s.link.lost + 1 else 255 } }

/-- TRANSMIT_DONE: the frame that was being sent leaves its queue, and the transmitter chooses the oldest reply, else the oldest
notice, else the report in the slot (R162, R163, R165). When the reply that leaves is the last, a RESTART having been taken, the full
reset is due and nothing more is sent (R169). When a reply leaves while commands wait, the oldest is taken, with its meaning, the rest
waiting on (R160, R161). The reset that is due is RESTART_RESET's to take (log 26). -/
def Obligations.TransmitDoneSendsTheNextInOrder : Prop :=
  (∀ s : State, s.resetHeld = false → s.link.received = [] → s.link.restart = .none → LinkInv s →
    ∃ t, exec .transmitDone s = .next t
      ∧ t.link.replies = (if s.link.sending = some .reply then s.link.replies.tail else s.link.replies)
      ∧ t.link.notices = (if s.link.sending = some .notice then s.link.notices.tail else s.link.notices)
      ∧ (if t.link.replies ≠ [] then t.link.sending = some .reply ∧ t.link.slot = s.link.slot
        else if t.link.notices ≠ [] then t.link.sending = some .notice ∧ t.link.slot = s.link.slot
        else match s.link.slot with
          | some r => t.link.sending = some (.report r) ∧ t.link.slot = none
          | none => t.link.sending = none ∧ t.link.slot = none)
      ∧ (t.pending = s.pending ∧ t.store = s.store ∧ t.edit = s.edit ∧ t.layout = s.layout ∧ t.scroll = s.scroll
        ∧ t.hub = s.hub ∧ t.cues = s.cues ∧ t.heads = s.heads ∧ t.job = s.job)
      ∧ (t.link.receiver = s.link.receiver ∧ t.link.received = [] ∧ t.link.lost = s.link.lost ∧ t.link.restart = .none
        ∧ t.link.interval = s.link.interval ∧ t.link.frameCount = s.link.frameCount
        ∧ t.link.reportNumber = s.link.reportNumber))
  ∧ (∀ (s : State) (r : Reply), s.resetHeld = false → s.link.sending = some .reply → s.link.restart = .replying →
      s.link.replies = [r] →
      exec .transmitDone s = .next { s with link := { s.link with replies := [], sending := none, restart := .due } })
  ∧ (∀ (i : Instr) (s : State) (r : Reply) (replies : List Reply) (waiting : List (List Byte)), i.isHostCommand = true →
      i.wf = true → s.resetHeld = false → s.link.sending = some .reply → s.link.restart = .none →
      s.link.replies = r :: replies → replies.length < 4 → s.link.received = payloadOf i :: waiting →
      exec .transmitDone s =
        .next (pump (runCommand i
          { s with link := { s.link with replies := replies, sending := none, received := waiting } })))
  ∧ (∀ (i : Instr) (s : State), i.isHostCommand = true → i.wf = true → Ready s → exec i s = .next (pump (runCommand i s)))

/-- A command that cannot be taken, the reply queue being full or a RESTART having been taken, waits in the receive queue behind
those that wait there, or is discarded when 4 wait; nothing else changes, but that an idle transmitter chooses. A payload that no frame can
carry, of more than 220 bytes, is discarded (R158 to R162, R169, log 33). -/
def Obligations.CommandThatCannotBeTakenWaits : Prop :=
  ∀ (i : Instr) (s : State), s.resetHeld = false → i.isHostCommand = true →
    (220 < (payloadOf i).length → exec i s = .next s)
    ∧ (i.wf = true → (4 ≤ s.link.replies.length ∨ s.link.restart ≠ .none) →
      exec i s =
        .next (pump (if s.link.received.length < 4
          then { s with link := { s.link with received := s.link.received ++ [payloadOf i] } } else s)))

/-- A frame has SYNC, a LEN that counts its payload, the payload and a CHECK that makes the sum of LEN, payload and CHECK 0 modulo 256,
for every payload of at most 220 bytes (R158). The payloads of notices and position reports, and those of replies as long as a slug has at
most 24 characters, a rundown reply 48 entries and a cue 4 actions, have 2 to 220 bytes; notices and reports have the lengths and, field
by field at its offset, the values of R170's tables, and replies their four leading bytes and their fields (R162, R163, R164, R170, R171).
The character index of an anchor at SLUG or END is sent as 0 (log 45), so are the flags of CUE_PASSED but UNDEFINED (log 46), and a window
row out of its field's range is free (log 15). -/
def Obligations.FramesPassTheirOwnCheck : Prop :=
  (∀ payload : List Byte, payload.length ≤ 220 →
    ∃ check : Byte, frameBytes payload = 0xC3 :: BitVec.ofNat 8 payload.length :: payload ++ [check]
      ∧ (BitVec.ofNat 8 payload.length + payload.sum + check).toNat = 0
      ∧ (BitVec.ofNat 8 payload.length : Byte).toNat = payload.length)
  ∧ CodesAreTabled
  ∧ (∀ n : Notice, n.payload.length ≤ 220 ∧ fieldAt n.payload 1 1 = 0 ∧ NoticeLaidOut n)
  ∧ (∀ r : Report, r.payload.length = 19 ∧ fieldAt r.payload 0 1 = 0x82 ∧ fieldAt r.payload 1 1 = 0
      ∧ fieldAt r.payload 2 1 = r.number.toNat ∧ fieldAt r.payload 3 4 = r.p % 2 ^ 32
      ∧ fieldAt r.payload 7 2 = (r.v % 65536).toNat ∧ fieldAt r.payload 9 1 = r.state.code.toNat
      ∧ fieldAt r.payload 10 2 = r.onAirId % 65536 ∧ AnchorLaidOut r.payload 12 r.anchor)
  ∧ (∀ r : Reply, fieldAt r.payload 0 1 = r.code.toNat ∧ fieldAt r.payload 1 1 = r.seq.toNat
      ∧ fieldAt r.payload 2 1 = r.result.code.toNat
      ∧ fieldAt r.payload 3 1 = (if r.truncated = true then 1 else 0) + (if r.badMark = true then 2 else 0)
      ∧ (r.body.bounded → 4 ≤ r.payload.length ∧ r.payload.length ≤ 220) ∧ ReplyLaidOut r)

/-- For every host command whose operands a frame can carry, the payload written by R170 reads back as that command: no field and no
byte is dropped or confused (R158, R161, R170). -/
def Obligations.PayloadReadsBackAsItsCommand : Prop :=
  ∀ i : Instr, i.wf = true → i.isHostCommand = true → parsePayload (payloadOf i) = .command i

/-- The byte path and the command rows agree: the bytes of a host command's frame, received by a HUNTING receiver, do exactly what
the command's own row does, and complete; that the row stands for its whole frame is the model's choice (log 5). The command is answered
once, with its code + 40h (7Fh for a code that is no command's) and its sequence byte, and the fields of the reply have the sizes that the
engine keeps (R158 to R162). -/
def Obligations.FrameOfACommandIsThatCommand : Prop :=
  ∀ (i : Instr) (s : State), i.wf = true → i.isHostCommand = true → Ready s → s.link.receiver = .hunting →
    ∃ t r, exec (.linkFrame (frameBytes (payloadOf i))) s = .next t ∧ exec i s = .next t
      ∧ t.link.replies = s.link.replies ++ [r]
      ∧ (∀ code seq fields, payloadOf i = code :: seq :: fields →
        r.code = (if code ∈ commandCodes then code + 0x40 else 0x7F) ∧ r.seq = seq)
      ∧ ((∀ st ∈ s.store.stories, st.slug.length ≤ 24) → (∀ c : Fin 64, s.cues.defs[c].length ≤ 4) → r.body.bounded)

/-- A frame that is none has no effect: in HUNTING every byte but the start byte is ignored; on the link a LEN of 0, 1 or more than 220
or a CHECK that fails discards the frame, on a port a kind outside the four, a length that is not its kind's or a CHECK that fails; a byte
gap, whatever it counts (log 3), a bad stop bit or a break leaves the receiver hunting (R94, R159, R172). An idle transmitter chooses
(R165). -/
def Obligations.BadFramesAreDiscarded : Prop :=
  ∀ s : State, s.resetHeld = false →
    (s.link.receiver = .hunting →
      (∀ bytes : List Byte, (0xC3 : Byte) ∉ bytes → exec (.linkFrame bytes) s = .next s)
      ∧ (∀ len : Byte, (len.toNat < 2 ∨ 220 < len.toNat) → exec (.linkFrame [0xC3, len]) s = .next s)
      ∧ (∀ (payload : List Byte) (check : Byte), 2 ≤ payload.length → payload.length ≤ 220 →
          BitVec.ofNat 8 payload.length + payload.sum + check ≠ 0 →
          exec (.linkFrame (0xC3 :: BitVec.ofNat 8 payload.length :: payload ++ [check])) s = .next s))
      ∧ exec .byteGapTimeout s = .next (pump { s with link := { s.link with receiver := .hunting } })
      ∧ exec .lineBreak s = .next (pump { s with link := { s.link with receiver := .hunting } })
      ∧ (∀ n : Fin 6, ∃ ports : Vector Port 6,
        (∀ i : Fin 6, ports[i] = if i = n then { s.hub.ports[i] with receiver := .hunting } else s.hub.ports[i])
        ∧ exec (.portByteGapTimeout n) s = .next (pump { s with hub := { s.hub with ports := ports } }))
      ∧ (∀ n : Fin 6, (s.hub.ports[n]).receiver = .hunting →
        (∀ bytes : List Byte, (0xA5 : Byte) ∉ bytes → exec (.controllerReport n bytes) s = .next (pump s))
        ∧ (∀ len kind : Byte, ¬ (len = 4 ∧ (kind = 1 ∨ kind = 2 ∨ kind = 3)) → ¬ (len = 3 ∧ kind = 4) →
          exec (.controllerReport n [0xA5, len, kind]) s = .next (pump s))
        ∧ (∀ kind raw k0 k1 check : Byte, (kind = 1 ∨ kind = 2 ∨ kind = 3) → 4 + kind + raw + k0 + k1 + check ≠ 0 →
          exec (.controllerReport n [0xA5, 4, kind, raw, k0, k1, check]) s = .next (pump s))
        ∧ (∀ k0 k1 check : Byte, 3 + 4 + k0 + k1 + check ≠ 0 →
          exec (.controllerReport n [0xA5, 3, 4, k0, k1, check]) s = .next (pump s)))

/-- The bounds of the link's queues hold after every step from a state in which they hold (R160, R162, R163). -/
def Obligations.EveryStepKeepsTheLinkQueues : Prop :=
  ∀ s t : State, LinkInv s → step s = .next t → LinkInv t

/-! ## Device commands -/

/-- IDENTIFY changes nothing but the reply queue and answers with the part code, revision, link rate and the sixteen capacities, byte
by byte (R166). -/
def Obligations.IdentifyAnswers : Prop :=
  ∀ (seq : Byte) (s : State), Ready s →
    exec (.identify seq) s = .next (answered (okReply 0x41 seq (.identify s.link.rate)) s)
      ∧ (okReply 0x41 seq (.identify s.link.rate)).payload =
          [0x41, seq, 0, 0, 0x18, 0x24, 1, linkRateCode s.link.rate]
            ++ [96, 4096, 1024, 160, 32767, 4, 8, 256, 64, 6, 4, 8, 4, 4, 32, 220].flatMap (le 2)

/-- STATUS answers with the state it finds and sets the lost-notice count to 0 in the same event (R167). -/
def Obligations.StatusAnswersAndClearsTheLostCount : Prop :=
  ∀ (seq : Byte) (s : State), Ready s →
    exec (.status seq) s =
      .next
        { s with link :=
            { s.link with
              replies := s.link.replies ++
                [okReply 0x42 seq
                  (.status
                    { state := s.scroll.state, p := s.scroll.p, v := s.scroll.v, holder := s.hub.holder,
                      heads := #v[(s.heads[0]).state, (s.heads[1]).state, (s.heads[2]).state, (s.heads[3]).state],
                      freeCount := s.store.freeCount, pending := s.edit.pending.length, loads := s.edit.loads.length,
                      reflowing := s.layout.target.isSome, lost := s.link.lost })]
              sending := some (s.link.sending.getD .reply)
              lost := 0 } }

/-- RESTART answers OK and leaves every block as it is, and from then on no command is taken; a frame whose code is no command's is
answered with reply code 7Fh and UNKNOWN_COMMAND, whatever the code; a frame whose fields have a length that R170 does not allow its code
is answered BAD_LENGTH, by a scroll command with the motion as it stands (log 40); SET_REPORTING sets the interval, sets the frame counter
to 0, and at interval 0 empties the position slot (R161, R162, R164, R169, R170). -/
def Obligations.LinkCommandsAnswer : Prop :=
  ∀ (seq : Byte) (s : State), Ready s →
    exec (.restart seq) s =
      .next
        { s with link :=
            { s.link with
              replies := s.link.replies ++ [okReply 0x43 seq .bare]
              sending := some (s.link.sending.getD .reply)
              restart := .replying } }
    ∧ (∀ (code : Byte) (rest : List Byte), code ∉ commandCodes → rest.length ≤ 218 →
      exec (.unknownCommand code seq rest) s = .next (answered (reasonReply 0x7F seq .unknownCommand) s))
    ∧ (∀ (code : Byte) (fields : List Byte), s.link.receiver = .hunting → code ∈ commandCodes → fields.length ≤ 218 →
      ¬ fieldsFit code fields →
      exec (.linkFrame (frameBytes (code :: seq :: fields))) s =
        .next (answered
          (if 0x20 ≤ code.toNat ∧ code.toNat ≤ 0x23 then motionAnswer (code + 0x40) seq (.reason .badLength) s
            else reasonReply (code + 0x40) seq .badLength) s))
    ∧ (∀ n : Byte, exec (.setReporting seq n) s =
      .next (answered (okReply 0x4D seq (.reporting n.toNat))
        { s with link :=
            { s.link with interval := n.toNat, frameCount := 0, slot := if n = 0 then none else s.link.slot } }))

/-- CLEAR_SHOW clears the script, the loads, the pending edits, the mark list, the motion, the hold and the bands, ends a reflow, and
keeps every setting; it answers OK and raises no notice (R20, R37, R62, R66, R92, R114, R128, R145, R146, R164, R168). -/
def Obligations.ClearShowClearsTheScriptAndTheMotion : Prop :=
  ∀ (seq : Byte) (s : State), Ready s →
    ∃ t, exec (.clearShow seq) s = .next t
      ∧ t.store = { stories := [], insertions := 0, edition := 0, onAirId := 0, freeCount := 4096 }
      ∧ t.edit = { s.edit with loads := [], pending := [] }
      ∧ t.layout = { s.layout with target := none, marks := [] }
      ∧ t.scroll = { s.scroll with p := 0, v := 0, cruise := 0, state := .idle, direction := .forward, lastDemand := 0 }
      ∧ (t.hub.holder = none ∧ t.hub.releaseTimer = none ∧ t.hub.releaseDelay = s.hub.releaseDelay
        ∧ t.hub.priority = s.hub.priority)
      ∧ (∀ n : Fin 6, t.hub.ports[n] =
          { s.hub.ports[n] with mustRest := (s.hub.ports[n]).mustRest || (s.hub.ports[n]).state == .live })
      ∧ t.cues = s.cues
      ∧ (∀ h : Fin 4, ∃ halves slots, t.heads[h] = { s.heads[h] with bias := 0, halves := halves, slots := slots }
          ∧ (∀ half : Fin 2, (halves[half]).block = none ∧ (halves[half]).remaining = [])
          ∧ (∀ i : Fin 32, slots[i] = .empty))
      ∧ t.job = s.job
      ∧ t.link = { s.link with
          replies := s.link.replies ++ [okReply 0x44 seq .bare]
          sending := some (s.link.sending.getD .reply)
          slot := none }

/-! ## Settings -/

/-- SET_COLUMNS: its checks in order; a new count becomes the reflow's target, and the count in force raises REFLOW_DONE at once
(R47, R48). -/
def Obligations.SetColumnsStartsAReflow : Prop :=
  ∀ (seq c : Byte) (s : State), Ready s →
    exec (.setColumns seq c) s =
      .next
        (if c.toNat < 8 ∨ 40 < c.toNat then answered (reasonReply 0x48 seq .badValue) s
        else if s.layout.target ≠ none then answered (reasonReply 0x48 seq .busy) s
        else if ∃ h : Fin 4, (s.heads[h]).state ≠ .disabled
            ∧ (s.heads[h]).geometry.width < c.toNat * 16 * (s.heads[h]).geometry.scale + (s.heads[h]).geometry.margin then
          answered (reasonReply 0x48 seq .headTooNarrow) s
        else if c.toNat = s.layout.columns then
          answered (okReply 0x48 seq .bare)
            (raise (.reflowDone true s.layout.columns s.layout.generation s.rows) s)
        else
          answered (okReply 0x48 seq .bare) { s with layout := { s.layout with target := some c.toNat } })

/-- SET_MOTION applies its seven settings together, each to its owner, or none of them. SET_CURVE: a point above 16,384 is BAD_VALUE, a
first point other than 0 or a falling point is CURVE_ORDER, and otherwise the curve is replaced whole (R75, R91). -/
def Obligations.MotionSettingsApplyAllOrNone : Prop :=
  (∀ (seq : Byte) (vmax a b delay : Word16) (priority : Byte) (k : Word16) (p : Byte) (s : State), Ready s →
      exec (.setMotion seq vmax a b delay priority k p) s =
        .next
          (if (1 ≤ vmax.toNat ∧ vmax.toNat ≤ 16384) ∧ (1 ≤ a.toNat ∧ a.toNat ≤ 4096) ∧ (1 ≤ b.toNat ∧ b.toNat ≤ 4096)
              ∧ delay.toNat ≤ 5000 ∧ priority.toNat ≤ 1 ∧ (1 ≤ k.toNat ∧ k.toNat ≤ 1024) ∧ p.toNat ≤ 64 then
            answered (okReply 0x49 seq .bare)
              { s with
                scroll := { s.scroll with vmax := vmax.toNat, accel := a.toNat, brake := b.toNat, keyStep := k.toNat }
                hub :=
                  { s.hub with
                    releaseDelay := delay.toNat
                    priority := if priority = 0 then .operatorFirst else .presenterFirst }
                edit := { s.edit with lookahead := p.toNat } }
          else answered (reasonReply 0x49 seq .badValue) s))
  ∧ (∀ (seq : Byte) (q : Vector Word16 9) (s : State), Ready s →
      ∃ t, exec (.setCurve seq q) s = .next t
        ∧ (if ∃ k : Fin 9, 16384 < (q[k]).toNat then t = answered (reasonReply 0x4A seq .badValue) s
          else if q[0] ≠ 0 ∨ ∃ k : Fin 8, (q[k.val + 1]).toNat < (q[k.val]).toNat then
            t = answered (reasonReply 0x4A seq .curveOrder) s
          else ∃ curve : Vector Nat 9, (∀ k : Fin 9, curve[k] = (q[k]).toNat)
            ∧ t = answered (okReply 0x4A seq .bare) { s with scroll := { s.scroll with curve := curve } }))

/-- SET_PORT: a field out of range is BAD_VALUE and applies none; otherwise every setting of the port is stored, the holder role
follows, an EMPTY, LIVE or STALE port that is not to be enabled goes OFF, an OFF port that is to be enabled goes EMPTY with its
record cleared, and the other ports keep their records (R93, R97, R99, R113). A change of state raises PORT_STATE; a holder's port that
goes OFF loses authority, and a MANUAL or CRUISE scroll stops (R85, R111). The notice of OFF to EMPTY carries the cleared kind, which is the
model's choice (log 43). -/
def Obligations.SetPortStoresTheSettings : Prop :=
  ∀ (seq port enabled role : Byte) (timeout : Word16) (gain dead reverse : Byte) (step : Word16) (s : State), Ready s →
    let valid := port.toNat < 6 ∧ enabled.toNat ≤ 1 ∧ role.toNat ≤ 1 ∧ (50 ≤ timeout.toNat ∧ timeout.toNat ≤ 1000)
      ∧ gain.toNat ≤ 128 ∧ dead.toNat ≤ 32 ∧ reverse.toNat ≤ 1 ∧ (1 ≤ step.toNat ∧ step.toNat ≤ 256)
    (¬ valid → exec (.setPort seq port enabled role timeout gain dead reverse step) s =
        .next (answered (reasonReply 0x4B seq .badValue) s))
      ∧ (valid → ∀ n : Fin 6, n.val = port.toNat → ∃ t,
          exec (.setPort seq port enabled role timeout gain dead reverse step) s = .next t
            ∧ t.link.replies = s.link.replies ++ [okReply 0x4B seq .bare]
            ∧ (∃ x, t.hub.ports[n] = x ∧ x.role = (if role = 0 then .operator else .presenter)
              ∧ x.timeout = timeout.toNat ∧ x.gain = gain.toNat ∧ x.dead = dead.toNat ∧ x.reverse = decide (reverse = 1)
              ∧ x.step = step.toNat ∧ x.armedTimeout = (s.hub.ports[n]).armedTimeout
              ∧ x.receiver = (s.hub.ports[n]).receiver
              ∧ (if enabled = 1 ∧ (s.hub.ports[n]).state = .off then
                  x.state = .empty ∧ x.kind = none ∧ x.value = .none ∧ x.keys = 0 ∧ x.mustRest = false ∧ x.refused = false
                else if enabled = 0 ∧ (s.hub.ports[n]).state ≠ .off then
                  x.state = .off ∧ x.timer = none ∧ x.kind = (s.hub.ports[n]).kind ∧ x.value = (s.hub.ports[n]).value
                    ∧ x.mustRest = false ∧ x.refused = false
                else x.state = (s.hub.ports[n]).state ∧ x.kind = (s.hub.ports[n]).kind ∧ x.timer = (s.hub.ports[n]).timer
                  ∧ x.value = (s.hub.ports[n]).value ∧ x.keys = (s.hub.ports[n]).keys
                  ∧ x.mustRest = (s.hub.ports[n]).mustRest ∧ x.refused = (s.hub.ports[n]).refused))
            ∧ (∀ m : Fin 6, m ≠ n → t.hub.ports[m] = s.hub.ports[m])
            ∧ (∀ h ∈ s.hub.holder, h.port = n → enabled = 1 →
                t.hub.holder = some { h with role := if role = 0 then .operator else .presenter })
            ∧ (t.store = s.store ∧ t.edit = s.edit ∧ t.layout = s.layout ∧ t.cues = s.cues ∧ t.heads = s.heads
              ∧ t.job = s.job ∧ t.scroll.p = s.scroll.p ∧ t.scroll.v = s.scroll.v ∧ t.scroll.cruise = s.scroll.cruise)
            ∧ (let old := s.hub.ports[n]
              let ok := okReply 0x4B seq .bare
              let off := raise (.portState n .off old.state old.kind) s
              let driven := s.scroll.state = .manual ∨ s.scroll.state = .cruise
              (enabled = 1 → old.state = .off → t.link = (answered ok (raise (.portState n .empty .off none) s)).link)
              ∧ ((enabled = 1 ↔ old.state ≠ .off) → t.link = (answered ok s).link)
              ∧ (enabled = 0 → old.state ≠ .off → (∀ h ∈ s.hub.holder, h.port ≠ n) →
                t.hub.holder = s.hub.holder ∧ t.hub.releaseTimer = s.hub.releaseTimer ∧ t.scroll = s.scroll
                  ∧ t.link = (answered ok off).link)
              ∧ (enabled = 0 → old.state ≠ .off → (∃ h ∈ s.hub.holder, h.port = n) →
                t.hub.holder = none ∧ t.hub.releaseTimer = none
                  ∧ t.scroll = (if driven then { s.scroll with state := .stopped } else s.scroll)
                  ∧ t.link = (answered ok ((fun u => if driven then stateChanged .stopped .controlLost u else u)
                      (raise (.authority none (some n) .controlLost) off))).link)))

/-- SET_FRAME_SOURCE stores the setting and decides the source in use afresh; a change to the internal timer starts it at 0, a change
to a head stops it, and no change leaves it running (R89, R90). The rate reported for a head is its nominal rate (log 25). -/
def Obligations.SetFrameSourceDecidesTheSource : Prop :=
  ∀ (seq source rate : Byte) (s : State), Ready s →
    (∀ src : FrameSource,
      ((∃ n : Fin 4, source.toNat = n.val ∧ src = .head n)
        ∨ (source = 4 ∧ ((rate = 0 ∧ src = .internal .hz50) ∨ (rate = 1 ∧ src = .internal .hz5994)
            ∨ (rate = 2 ∧ src = .internal .hz60)))) →
      let use := sourceGiven s src
      exec (.setFrameSource seq source rate) s =
        .next (answered
          (okReply 0x4C seq (.frameSource use (match use with
            | .internal r => r
            | .head n => (s.heads[n]).geometry.rate)))
          { s with scroll :=
              { s.scroll with
                setting := src
                inUse := use
                frameTimer := if use = s.scroll.inUse then s.scroll.frameTimer
                  else match use with
                    | .internal _ => some 0
                    | .head _ => none } }))
      ∧ ((4 < source.toNat ∨ (source = 4 ∧ 2 < rate.toNat)) →
          exec (.setFrameSource seq source rate) s = .next (answered (reasonReply 0x4C seq .badValue) s))

/-- The ranges of the motion, layout, port, cue and head settings, the order of the curve, 16,384 as the bound of every speed, and the fit
of the columns in every head that is not DISABLED, hold after every step from a state in which they hold (R47, R68, R69, R75, R91, R93,
R115, R125, R129 to R131, R138). -/
def Obligations.EveryStepKeepsTheSettingsInRange : Prop :=
  ∀ s t : State, MotionInv s → OutputInv s → step s = .next t → MotionInv t ∧ OutputInv t

/-! ## Loads and edits -/

/-- LOAD_OPEN: the ranges and the seven checks of R22 in order; a load that passes takes a slot, its record, and n line slots, with an
empty line in each (R22, R23). A slug is stored as its visible characters, cut to 24 with TRUNCATED, and BAD_MARK where it held a mark
code: the codes 01h to 06h go, and a 07h with its id byte, whatever its value; every other byte stays (R15, R173). That a 07h which ends
a slug is a mark code too is the model's deduction (log 23), and so is that a load refused TAG_IN_USE leaves the open load with that tag,
and its idle time, as they are (log 41). -/
def Obligations.LoadOpenReservesItsChain : Prop :=
  (∀ slug : List Byte,
    (prepareSlug slug).text = (visibleChars slug).take 24
      ∧ ((prepareSlug slug).truncated = true ↔ 24 < (visibleChars slug).length)
      ∧ ((prepareSlug slug).badMark = true ↔ (0x07 : Byte) ∈ slug)
      ∧ ((∀ b ∈ slug, b = 0 ∨ 8 ≤ b.toNat) → visibleChars slug = slug)
      ∧ (∀ b : Byte, (1 ≤ b.toNat → b.toNat ≤ 6 → visibleChars (b :: slug) = visibleChars slug)
        ∧ (b = 0 ∨ 8 ≤ b.toNat → visibleChars (b :: slug) = b :: visibleChars slug)
        ∧ visibleChars (0x07 :: b :: slug) = visibleChars slug)
      ∧ visibleChars [0x07] = [])
  ∧ ∀ (seq tag : Byte) (editTag : Word16) (mode : Byte) (story n : Word16) (placeKind : Byte) (placeId : Word16) (force : Byte)
    (slug : List Byte) (s : State), Ready s → slug.length ≤ 205 →
    exec (.loadOpen seq tag editTag mode story n placeKind placeId force slug) s =
      .next
        (if tag = 0 ∨ story = 0 ∨ n.toNat < 1 ∨ 1024 < n.toNat ∨ 1 < mode.toNat ∨ (mode = 0 ∧ 2 < placeKind.toNat)
            ∨ 1 < force.toNat then answered (reasonReply 0x50 seq .badValue) s
        else if 4 ≤ s.edit.loads.length then answered (reasonReply 0x50 seq .noSlot) s
        else if ∃ l ∈ s.edit.loads, l.tag = tag.toNat then answered (reasonReply 0x50 seq .tagInUse) s
        else if mode = 0 ∧ story.toNat ∈ idsInUse s then answered (reasonReply 0x50 seq .storyExists) s
        else if (mode = 0 ∧ (placeKind = 1 ∨ placeKind = 2) ∧ ∀ st ∈ s.store.stories, st.id ≠ placeId.toNat)
            ∨ (mode = 1 ∧ ∀ st ∈ s.store.stories, st.id ≠ story.toNat) then
          answered (reasonReply 0x50 seq .noStory) s
        else if mode = 0 ∧ 96 ≤ (idsInUse s).length then answered (reasonReply 0x50 seq .storyLimit) s
        else if s.store.freeCount < n.toNat then answered (reasonReply 0x50 seq .poolFull) s
        else
          answered ⟨0x50, seq, .ok, (prepareSlug slug).truncated, (prepareSlug slug).badMark, .loadOpened tag.toNat⟩
            { s with
              edit :=
                { s.edit with loads := s.edit.loads ++
                    [{ tag := tag.toNat, editTag := editTag.toNat, mode := if mode = 0 then .new else .replace,
                       story := story.toNat, n := n.toNat, place := placementGiven placeKind placeId,
                       slug := (prepareSlug slug).text, force := decide (force = 1), chain := List.replicate n.toNat [],
                       received := 0, marks := 0, idle := 0 }] }
              store := { s.store with freeCount := s.store.freeCount - n.toNat } })

/-- LOAD_LINE: the line joins its load's chain in order and the idle time starts again; a line too many, or one that breaks the mark
budget, ends the load (R24, R25, R28, R29). A line is first cut to 160 bytes, with TRUNCATED, and then every mark code without an id
byte of 1..64 after it is taken out with that byte, if there is one, with BAD_MARK (R14). -/
def Obligations.LoadLineStoresTheNextLine : Prop :=
  ((∀ text : List Byte, (prepareLine text).text = (prepareLine (text.take 160)).text
      ∧ (prepareLine text).badMark = (prepareLine (text.take 160)).badMark
      ∧ ((prepareLine text).truncated = true ↔ 160 < text.length))
    ∧ (∀ before : List Byte, (0x07 : Byte) ∉ before →
      (before.length ≤ 160 → prepareLine before = ⟨before, false, false⟩)
      ∧ (before.length + 1 ≤ 160 → prepareLine (before ++ [0x07]) = ⟨before, false, true⟩)
      ∧ (∀ (id : Byte) (after : List Byte), before.length + 2 + after.length ≤ 160 →
        prepareLine (before ++ 0x07 :: id :: after) =
          if 1 ≤ id.toNat ∧ id.toNat ≤ 64 then
            ⟨before ++ 0x07 :: id :: (prepareLine after).text, false, (prepareLine after).badMark⟩
          else ⟨before ++ (prepareLine after).text, false, true⟩)))
  ∧ ∀ (seq tag : Byte) (text : List Byte) (s : State), Ready s → text.length ≤ 217 →
    let line := prepareLine text
    ((∀ l ∈ s.edit.loads, l.tag ≠ tag.toNat) →
        exec (.loadLine seq tag text) s = .next (answered (reasonReply 0x51 seq .noLoad) s))
      ∧ (∀ before l after, s.edit.loads = before ++ l :: after → (∀ x ∈ before, x.tag ≠ l.tag) → l.tag = tag.toNat →
        exec (.loadLine seq tag text) s =
          .next
            (if l.n ≤ l.received then answered (reasonReply 0x51 seq .countOver) (loadDropped before l after s)
            else if BreaksBudget line.text s then
              answered ⟨0x51, seq, .reason .markLimit, line.truncated, line.badMark, .bare⟩ (loadDropped before l after s)
            else
              answered ⟨0x51, seq, .ok, line.truncated, line.badMark, .linesReceived (l.received + 1)⟩
                { s with edit :=
                    { s.edit with loads :=
                        before ++
                          { l with
                            chain := l.chain.set l.received line.text
                            received := l.received + 1
                            marks := l.marks + lineMarks line.text
                            idle := 0 } :: after } }))

/-- LOAD_LAST that does not resolve its load: NO_LOAD, BUSY with the idle time at 0 and the load open, and the aborts COUNT_OVER,
MARK_LIMIT and COUNT_SHORT, in the order of R26 (R26, R28, R29). -/
def Obligations.LoadLastThatDoesNotResolve : Prop :=
  ∀ (seq tag : Byte) (text : List Byte) (s : State), Ready s → text.length ≤ 217 →
    let line := prepareLine text
    ((∀ l ∈ s.edit.loads, l.tag ≠ tag.toNat) →
        exec (.loadLast seq tag text) s = .next (answered (reasonReply 0x52 seq .noLoad) s))
      ∧ (∀ before l after, s.edit.loads = before ++ l :: after → (∀ x ∈ before, x.tag ≠ l.tag) → l.tag = tag.toNat →
        (s.layout.target ≠ none ∨ l.received + 1 ≠ l.n ∨ BreaksBudget line.text s) →
        exec (.loadLast seq tag text) s =
          .next
            (if s.layout.target ≠ none then
              answered (reasonReply 0x52 seq .busy)
                { s with edit := { s.edit with loads := before ++ { l with idle := 0 } :: after } }
            else if l.n ≤ l.received then answered (reasonReply 0x52 seq .countOver) (loadDropped before l after s)
            else if BreaksBudget line.text s then
              answered ⟨0x52, seq, .reason .markLimit, line.truncated, line.badMark, .bare⟩ (loadDropped before l after s)
            else
              answered ⟨0x52, seq, .reason .countShort, line.truncated, line.badMark, .bare⟩
                (loadDropped before l after s)))

/-- LOAD_LAST that completes a load: NO_STORY where its story or the story of its place has left the rundown, ROW_LIMIT where the rows
would pass 32,767, and EDIT_QUEUE_FULL, each give the chain back; an edit that is not forced and that the window holds, or whose story has
edits pending, is DEFERRED, and joins the list with its chain; any other is applied, with the release that follows, a forced one after
every pending edit of its story has been applied or discarded, unless that has taken its story, its place or its room away. With no edit
pending, a NEW load inserts its story at the end, before or after the story its place names, and a REPLACE load gives its story its slug
and lines and the next revision, and a SKIPPED story stays SKIPPED (R3, R5, R6, R11, R16, R26, R27, R31, R36 to R39, R42, R43). An END
anchor of a story that is replaced stays at its end (log 24). That a SCROLL_STATE the edit raises comes before its ON_AIR is the model's
choice (log 16). -/
def Obligations.LastLineResolvesTheLoad : Prop :=
  ∀ (seq tag : Byte) (text : List Byte) (s : State) (before : List Load) (l : Load) (after : List Load),
    Ready s → text.length ≤ 217 → s.edit.loads = before ++ l :: after → (∀ x ∈ before, x.tag ≠ l.tag) →
    l.tag = tag.toNat → s.layout.target = none → l.received + 1 = l.n →
    let line := prepareLine text
    let chain := l.chain.set l.received line.text
    let rows := (layoutStory s.layout.columns l.slug chain).rows
    let answer := fun result body => (⟨0x52, seq, result, line.truncated, line.badMark, body⟩ : Reply)
    let refusedBy := fun r => Host.Outcome.next (answered (answer (.reason r) .bare) (loadDropped before l after s))
    let edit : Edit := ⟨l.editTag, l.story,
      match l.mode with
      | .new => .insert l.place l.slug chain
      | .replace => .replace l.slug chain⟩
    let waits := fun stories => Host.Outcome.next
      (if 8 ≤ s.edit.pending.length then answered (answer (.reason .editQueueFull) .bare) (loadDropped before l after s)
      else
        answered (answer .deferred (.deferred l.editTag))
          { s with
            edit :=
              { s.edit with
                loads := before ++ after
                pending := s.edit.pending ++ [⟨edit, (chain.map lineMarks).sum, s.edit.nextArrival⟩]
                nextArrival := s.edit.nextArrival + 1 }
            store := { s.store with stories := stories } })
    let closed := { s with edit := { s.edit with loads := before ++ after } }
    let applied := fun u =>
      let t := release (applyEdit false edit u)
      Host.Outcome.next (answered (answer .ok (.rowCount (rowCountOf t.store.stories l.story))) t)
    let c := exec (.loadLast seq tag text) s
    ¬ BreaksBudget line.text s →
    (l.mode = .new → (∀ row, ¬ PlacedAt s l.place row) → c = refusedBy .noStory)
    ∧ (l.mode = .new → (∀ st ∈ s.store.stories, st.id ≠ l.story) → ∀ row, PlacedAt s l.place row →
      (32767 < s.rows + rows → c = refusedBy .rowLimit)
      ∧ (s.rows + rows ≤ 32767 → l.force = false → RowProtected s row → c = waits s.store.stories)
      ∧ (s.rows + rows ≤ 32767 → (l.force = true ∨ ¬ RowProtected s row) → s.edit.pending = [] →
        let arrived : Story :=
          { id := l.story, slug := l.slug, state := .ready, revision := s.store.insertions, chain := chain,
            rowCount := rows, markCount := chainMarks chain, pendingCount := 0,
            dir := some (layoutStory s.layout.columns l.slug chain) }
        ∃ t order, c = .next t ∧ EditFrame edit (some l.story) (answer .ok (.rowCount rows)) s t
          ∧ t.edit = { s.edit with loads := before ++ after }
          ∧ (l.place = .atEnd → order = s.store.stories ++ [arrived])
          ∧ (∀ b x a, Found s b x a → (l.place = .before x.id → order = b ++ arrived :: x :: a)
            ∧ (l.place = .after x.id → order = b ++ x :: arrived :: a))
          ∧ t.store.stories = restated t order
          ∧ t.store.insertions = s.store.insertions + 1 ∧ t.store.edition = s.store.edition + 1
          ∧ t.store.freeCount = s.store.freeCount))
    ∧ (l.mode = .replace → (∀ st ∈ s.store.stories, st.id ≠ l.story) → c = refusedBy .noStory)
    ∧ (l.mode = .replace → ∀ pre st post, Found s pre st post → st.id = l.story →
      let total := if st.state = .skipped then s.rows else s.rows - st.rowCount + rows
      (32767 < total → c = refusedBy .rowLimit)
      ∧ (total ≤ 32767 → l.force = false → (Protected s pre st ∨ 0 < st.pendingCount) →
        c = waits (pre ++ { st with pendingCount := st.pendingCount + 1 } :: post))
      ∧ (total ≤ 32767 → (l.force = true ∨ (¬ Protected s pre st ∧ st.pendingCount = 0)) → s.edit.pending = [] → ∃ t,
        c = .next t
          ∧ EditFrame edit (some l.story) (answer .ok (.rowCount (if st.state = .skipped then 0 else rows))) s t
          ∧ t.edit = { s.edit with loads := before ++ after }
          ∧ t.store.stories = restated t (pre ++
              { st with
                slug := l.slug, chain := chain, revision := st.revision + 1
                rowCount := if st.state = .skipped then 0 else rows
                markCount := chainMarks chain
                dir := if st.state = .skipped then none else some (layoutStory s.layout.columns l.slug chain) } :: post)
          ∧ t.store.insertions = s.store.insertions ∧ t.store.edition = s.store.edition + 1
          ∧ t.store.freeCount = s.store.freeCount + st.chain.length))
    ∧ (¬ Homeless edit closed → overRowLimit edit closed = false →
      (l.force = false → ¬ HeldByWindow s edit → (∀ st ∈ s.store.stories, st.id = l.story → st.pendingCount = 0) →
        c = applied closed)
      ∧ (l.force = true →
        let u := settleAllFor l.story closed
        let freed := { u with store := { u.store with freeCount := u.store.freeCount + l.chain.length } }
        (Homeless edit u → c = .next (answered (answer (.reason .noStory) .bare) freed))
        ∧ (¬ Homeless edit u → overRowLimit edit u = true → c = .next (answered (answer (.reason .rowLimit) .bare) freed))
        ∧ (¬ Homeless edit u → overRowLimit edit u = false → c = applied u)))

/-- LOAD_CANCEL and LOAD_IDLE_TIMEOUT end a load and give its chain back; the time-out raises LOAD_ABORTED, whatever the idle time counts
(log 3), and of a tag that is not open it leaves the engine as it is (log 37). EDIT_CANCEL takes the first waiting edit with its tag from
the list, with its chain and its place in the story's pending count. An edit that leaves the list to be applied changes the script as one
applied at once does, with a SCROLL_STATE of cause SCRIPT where it empties or fills the script, and raises EDIT_APPLIED, and then ON_AIR
where the on-air id changes; where its story or place has gone, or the rows would pass 32,767, it is discarded with its chain and
EDIT_DISCARDED. No release runs in a reflow. Otherwise a release settles edits of the list one after another, none that has an older one
of its story before it or that the window holds, and after it, at a scroll frame or at the end of a reflow, every edit left has or is so.
A forced edit first settles all of its own story, in their order, and no other (R28, R29, R37, R39 to R43, R71, R72). An UNSKIP of a story
that is not SKIPPED is held by its start row (log 39), and a SCROLL_STATE that an edit raises comes before its EDIT_APPLIED and ON_AIR
(log 16). -/
def Obligations.LoadsAndEditsAreWithdrawn : Prop :=
  (∀ (seq tag : Byte) (s : State),
    (Ready s → (∀ l ∈ s.edit.loads, l.tag ≠ tag.toNat) →
      exec (.loadCancel seq tag) s = .next (answered (reasonReply 0x53 seq .noLoad) s))
    ∧ (s.resetHeld = false → (∀ l ∈ s.edit.loads, l.tag ≠ tag.toNat) → exec (.loadIdleTimeout tag) s = .next (pump s))
    ∧ (∀ before l after, s.edit.loads = before ++ l :: after → (∀ x ∈ before, x.tag ≠ l.tag) → l.tag = tag.toNat →
      (Ready s → exec (.loadCancel seq tag) s =
        .next (answered (okReply 0x53 seq .bare) (loadDropped before l after s)))
      ∧ (s.resetHeld = false → exec (.loadIdleTimeout tag) s =
        .next (pump (raise (.loadAborted tag.toNat) (loadDropped before l after s))))))
  ∧ (∀ (seq : Byte) (editTag : Word16) (s : State), Ready s → PoolInv s →
    ((∀ r ∈ s.edit.pending, r.edit.tag ≠ editTag.toNat) →
      exec (.editCancel seq editTag) s = .next (answered (reasonReply 0x57 seq .noEdit) s))
    ∧ (∀ before r after, s.edit.pending = before ++ r :: after → (∀ x ∈ before, x.edit.tag ≠ r.edit.tag) →
      r.edit.tag = editTag.toNat →
      exec (.editCancel seq editTag) s =
        .next (answered (okReply 0x57 seq (.cancelled r.edit.kind r.edit.story))
          { s with
            edit := { s.edit with pending := before ++ after }
            store :=
              { s.store with
                stories := mapStory s.store.stories r.edit.story fun st => { st with pendingCount := st.pendingCount - 1 }
                freeCount := s.store.freeCount + r.edit.chain.length } })))
  ∧ (∀ (s : State) (r : PendingEdit),
    let left := pendingTaken r s
    let discarded := fun reason => raise (.editDiscarded r.edit.tag reason)
      { left with store := { left.store with freeCount := left.store.freeCount + r.edit.chain.length } }
    (Homeless r.edit left → settlePending r s = discarded .noStory)
    ∧ (¬ Homeless r.edit left → overRowLimit r.edit left = true → settlePending r s = discarded .rowLimit)
    ∧ (¬ Homeless r.edit left → overRowLimit r.edit left = false → settlePending r s =
      recomputeStates (raise (.editApplied r.edit.tag r.edit.kind r.edit.story) (changeScript r.edit left)))
    ∧ ∀ e, applyEdit false e s = recomputeStates (changeScript e s)
      ∧ RowsFollowed s (changeScript e s)
      ∧ (changeScript e s).link = (noticesRaised (stateNotices .script s (changeScript e s)) s).link)
  ∧ (∀ s : State, (s.edit.pending.map PendingEdit.arrival).Nodup →
    (s.layout.target ≠ none → release s = s)
    ∧ (s.layout.target = none → (∀ r ∈ (release s).edit.pending, r ∈ s.edit.pending ∧ WaitsRightly (release s) r)
      ∧ ∃ settled : List PendingEdit,
        release s = settled.foldl (fun u r => settlePending r u) s
        ∧ ∀ a r b, settled = a ++ r :: b →
          let u := a.foldl (fun u r => settlePending r u) s
          r ∈ u.edit.pending ∧ ¬ WaitsRightly u r)
    ∧ (∀ story, (settleAllFor story s).edit.pending = s.edit.pending.filter (fun r => r.edit.story ≠ story)
      ∧ settleAllFor story s =
        (s.edit.pending.filter fun r => r.edit.story = story).foldl (fun u r => settlePending r u) s)
    ∧ (s.resetHeld = false →
      (s.layout.target = none → ∃ t, exec .scrollFrame s = .next t ∧ ∀ r ∈ t.edit.pending, WaitsRightly t r)
      ∧ (s.layout.target ≠ none → ∃ t, exec .reflowComplete s = .next t ∧ ∀ r ∈ t.edit.pending, WaitsRightly t r)))

/-- STORY_DELETE, STORY_MOVE and STORY_SKIP are refused BAD_VALUE, then BUSY, then NO_STORY, and, whatever edits are pending and forced or
not, a MOVE whose place is gone NO_STORY and an UNSKIP whose rows would pass 32,767 ROW_LIMIT. One that is not forced, and that the window
holds, by its story's rows or, for a MOVE of rows or an UNSKIP, by its insertion row, or whose story has edits pending, is DEFERRED: it
joins the list with the next arrival number, its story's pending count rises, and a ninth is refused EDIT_QUEUE_FULL. One that is neither
is applied at once, with the release that follows. A forced one is applied, with that release, after every pending edit of its story has
been applied or discarded, unless that has taken its story or its room away (R31 to R39, R42). An UNSKIP of a story that is not SKIPPED is
judged by its start row all the same (log 39). -/
def Obligations.StoryCommandsAreCheckedAndDeferred : Prop :=
  ∀ (seq : Byte) (editTag story : Word16) (placeKind : Byte) (placeId : Word16) (request force : Byte) (s : State), Ready s →
    ∀ c ∈ storyCommands seq editTag story placeKind placeId request force,
      let inRange := c.2.2.1 = true ∧ story ≠ 0 ∧ force.toNat ≤ 1
      let edit : Edit := ⟨editTag.toNat, story.toNat, c.2.2.2⟩
      let applied := fun u =>
        let t := release (applyEdit false edit u)
        Host.Outcome.next (answered (okReply c.2.1 seq
          (if c.2.1 = 0x55 then .startRow (startRow t.store.stories story.toNat) else .totalRows t.rows)) t)
      (¬ inRange → exec c.1 s = .next (answered (reasonReply c.2.1 seq .badValue) s))
      ∧ (inRange → s.layout.target ≠ none → exec c.1 s = .next (answered (reasonReply c.2.1 seq .busy) s))
      ∧ (inRange → s.layout.target = none → (∀ st ∈ s.store.stories, st.id ≠ story.toNat) →
        exec c.1 s = .next (answered (reasonReply c.2.1 seq .noStory) s))
      ∧ (∀ before st after, inRange → s.layout.target = none → Found s before st after → st.id = story.toNat →
        let placeGone := c.2.2.2 = .move (placementGiven placeKind placeId) ∧ placeKind ≠ 0
          ∧ ∀ x ∈ s.store.stories, x.id ≠ placeId.toNat
        let tooLong := c.2.2.2 = .unskip ∧ 32767 < s.rows
          + if st.state = .skipped then (layoutStory s.layout.columns st.slug st.chain).rows else 0
        (placeGone → exec c.1 s = .next (answered (reasonReply c.2.1 seq .noStory) s))
        ∧ (tooLong → exec c.1 s = .next (answered (reasonReply c.2.1 seq .rowLimit) s))
        ∧ (¬ placeGone → ¬ tooLong → force = 0 → (HeldByWindow s edit ∨ 0 < st.pendingCount) →
          exec c.1 s =
            .next
              (if 8 ≤ s.edit.pending.length then answered (reasonReply c.2.1 seq .editQueueFull) s
              else
                answered ⟨c.2.1, seq, .deferred, false, false, .deferred editTag.toNat⟩
                  { s with
                    edit :=
                      { s.edit with
                        pending := s.edit.pending ++ [⟨edit, 0, s.edit.nextArrival⟩]
                        nextArrival := s.edit.nextArrival + 1 }
                    store :=
                      { s.store with
                        stories := before ++ { st with pendingCount := st.pendingCount + 1 } :: after } }))
        ∧ (¬ placeGone → ¬ tooLong → force = 0 → ¬ HeldByWindow s edit → st.pendingCount = 0 → exec c.1 s = applied s)
        ∧ (¬ placeGone → ¬ tooLong → force = 1 →
          let u := settleAllFor story.toNat s
          (Homeless edit u → exec c.1 s = .next (answered (reasonReply c.2.1 seq .noStory) u))
          ∧ (¬ Homeless edit u → overRowLimit edit u = true →
            exec c.1 s = .next (answered (reasonReply c.2.1 seq .rowLimit) u))
          ∧ (¬ Homeless edit u → overRowLimit edit u = false → exec c.1 s = applied u)))

/-- STORY_DELETE that applies at once takes its story from the rundown; every other story keeps its record, but for its state; the chain's
slots are free; the reply gives the new L; the position follows its anchor, which moves on where the story held it, and the marks of the
others are carried (R5, R11, R31, R32, R36, R43, R45, R57, R64). An edit that empties or fills the script raises SCROLL_STATE with cause
SCRIPT, and one that changes the on-air id ON_AIR (R10, R71, R72). No edit is pending. That a SCROLL_STATE the edit raises comes before
its ON_AIR is the model's choice (log 16). -/
def Obligations.DeleteRemovesTheStory : Prop :=
  ∀ (seq : Byte) (editTag story : Word16) (force : Byte) (s : State) (before : List Story) (st : Story) (after : List Story),
    Ready s → story ≠ 0 → force.toNat ≤ 1 → s.layout.target = none → s.edit.pending = [] → Found s before st after →
    st.id = story.toNat → (force = 1 ∨ (¬ Protected s before st ∧ st.pendingCount = 0)) →
    ∃ t, exec (.storyDelete seq editTag story force) s = .next t
      ∧ EditFrame ⟨editTag.toNat, story.toNat, .delete⟩ none (okReply 0x54 seq (.totalRows (rowsOf (before ++ after)))) s t
      ∧ t.edit = s.edit
      ∧ t.store.stories = restated t (before ++ after)
      ∧ t.store.insertions = s.store.insertions ∧ t.store.edition = s.store.edition + 1
      ∧ t.store.freeCount = s.store.freeCount + st.chain.length

/-- STORY_MOVE: a place that is not in the rundown is NO_STORY; one that applies at once moves the story to the end, before or after the
story it names, or leaves the order where it names itself, and counts as an edit; records stay, but for their states; the reply gives the
new start row; the position goes with its anchor and every mark is carried (R6, R31, R33, R36, R43, R44, R57, R64), and ON_AIR is raised
where the on-air id changes (R10). No edit is pending. Where the position is at the END of the story that is moved, the next story comes
on air, which is the model's choice (log 42). -/
def Obligations.MoveChangesTheOrder : Prop :=
  ∀ (seq : Byte) (editTag story : Word16) (placeKind : Byte) (placeId : Word16) (force : Byte) (s : State)
    (before : List Story) (st : Story) (after : List Story),
    Ready s → story ≠ 0 → force.toNat ≤ 1 → placeKind.toNat ≤ 2 → s.layout.target = none → s.edit.pending = [] →
    Found s before st after → st.id = story.toNat →
    (placeKind ≠ 0 → (∀ x ∈ s.store.stories, x.id ≠ placeId.toNat) →
      exec (.storyMove seq editTag story placeKind placeId force) s = .next (answered (reasonReply 0x55 seq .noStory) s))
    ∧ (∀ (order : List Story) (row : Nat),
      ((placeKind = 0 ∧ order = before ++ after ++ [st] ∧ row = s.rows)
        ∨ (placeKind ≠ 0 ∧ placeId = story ∧ order = s.store.stories
            ∧ row = rowsOf before + if placeKind = 1 then 0 else st.rowCount)
        ∨ (placeKind ≠ 0 ∧ placeId ≠ story ∧ ∃ b x a pre post,
            before ++ after = b ++ x :: a ∧ x.id = placeId.toNat ∧ (∀ y ∈ b, y.id ≠ x.id)
              ∧ s.store.stories = pre ++ x :: post ∧ (∀ y ∈ pre, y.id ≠ x.id)
              ∧ (if placeKind = 1 then order = b ++ st :: x :: a ∧ row = rowsOf pre
                else order = b ++ x :: st :: a ∧ row = rowsOf pre + x.rowCount))) →
      (force = 1 ∨ (¬ Protected s before st ∧ st.pendingCount = 0 ∧ (st.rowCount = 0 ∨ ¬ RowProtected s row))) →
      ∃ t, exec (.storyMove seq editTag story placeKind placeId force) s = .next t
        ∧ EditFrame ⟨editTag.toNat, story.toNat, .move (placementGiven placeKind placeId)⟩ none
            (okReply 0x55 seq (.startRow (startRow order story.toNat))) s t
        ∧ t.edit = s.edit
        ∧ t.store.stories = restated t order
        ∧ t.store.insertions = s.store.insertions ∧ t.store.edition = s.store.edition + 1
        ∧ t.store.freeCount = s.store.freeCount)

/-- STORY_SKIP that applies at once: a skip takes the story's rows from the script, an unskip lays its lines out afresh, and a story that
is already as asked keeps its record and the edition; text, revision and mark count stay in each case; the reply gives the new L; the
position follows its anchor; the marks of a story that returns are new, the others carried. An unskip whose rows would pass 32,767 is
ROW_LIMIT (R7, R31, R34, R36, R43, R45, R51, R57, R64, R71, R72, R124). An edit that empties or fills the script raises SCROLL_STATE with cause
SCRIPT, and one that changes the on-air id ON_AIR. No edit is pending. That a SCROLL_STATE the edit raises comes before its ON_AIR is the
model's choice (log 16). An unskip of a story that is not SKIPPED is judged by its start row (log 39). -/
def Obligations.SkipAndUnskipKeepTheContent : Prop :=
  ∀ (seq : Byte) (editTag story : Word16) (request force : Byte) (s : State) (before : List Story) (st : Story)
    (after : List Story),
    Ready s → story ≠ 0 → force.toNat ≤ 1 → request.toNat ≤ 1 → s.layout.target = none → s.edit.pending = [] →
    Found s before st after → st.id = story.toNat →
    let entry := layoutStory s.layout.columns st.slug st.chain
    let skips := request = 0 ∧ st.state ≠ .skipped
    let returns := request = 1 ∧ st.state = .skipped
    (returns → 32767 < s.rows + entry.rows →
      exec (.storySkip seq editTag story request force) s = .next (answered (reasonReply 0x56 seq .rowLimit) s))
    ∧ ((returns → s.rows + entry.rows ≤ 32767) → (request = 1 → st.state ≠ .skipped → s.rows ≤ 32767) →
      (force = 1 ∨ (st.pendingCount = 0
        ∧ if request = 0 then ¬ Protected s before st else ¬ RowProtected s (rowsOf before))) →
      ∃ (t : State) (stories : List Story),
        exec (.storySkip seq editTag story request force) s = .next t
        ∧ stories = before ++
            (if skips then { st with state := .skipped, rowCount := 0, dir := none }
            else if returns then { st with state := .ready, rowCount := entry.rows, dir := some entry }
            else st) :: after
        ∧ EditFrame ⟨editTag.toNat, story.toNat, if request = 0 then .skip else .unskip⟩
            (if returns then some story.toNat else none) (okReply 0x56 seq (.totalRows (rowsOf stories))) s t
        ∧ t.edit = s.edit
        ∧ t.store.stories = restated t stories
        ∧ t.store.edition = (if skips ∨ returns then s.store.edition + 1 else s.store.edition)
        ∧ t.store.insertions = s.store.insertions ∧ t.store.freeCount = s.store.freeCount)

/-- REFLOW_COMPLETE: a new total of at most 32,767 installs the new layout whole (columns, generation, every directory entry), puts the
position at the row and fraction of its anchor in the new layout, at 0 without one, carries every mark with its armed state, hands the
same Δ to every head, recomputes the states and the on-air id, with ON_AIR where that changes, and then raises REFLOW_DONE; a larger total
leaves all as it was but for the target, and raises REFLOW_DONE with ROW_LIMIT; the release of pending edits follows (R9, R10, R39, R52,
R54, R56 to R58, R60, R61, R64, R124). With no reflow in progress the row has no effect (log 37). -/
def Obligations.ReflowInstallsTheNewLayout : Prop :=
  ∀ s : State, s.resetHeld = false →
    (s.layout.target = none → exec .reflowComplete s = .next (pump s))
    ∧ (∀ c ∈ s.layout.target,
      let laid := s.store.stories.map fun st =>
        if st.state = .skipped then { st with rowCount := 0, dir := none }
        else
          { st with
            rowCount := (layoutStory c st.slug st.chain).rows
            dir := some (layoutStory c st.slug st.chain) }
      (32767 < rowsOf laid → exec .reflowComplete s =
        .next (pump (release (raise (.reflowDone false s.layout.columns s.layout.generation s.rows)
          { s with layout := { s.layout with target := none } }))))
      ∧ (rowsOf laid ≤ 32767 → ∃ u, exec .reflowComplete s =
          .next (pump (release (raise (.reflowDone true c (s.layout.generation + 1) (rowsOf laid)) u)))
        ∧ (∀ a ∈ takeAnchor s.store.stories s.scroll.p, 0 < rowsOf laid →
          u.scroll = { s.scroll with p := anchorRow laid a * 1024 + a.fraction })
        ∧ ((takeAnchor s.store.stories s.scroll.p = none ∨ rowsOf laid = 0) → u.scroll = { s.scroll with p := 0 })
        ∧ Reanchored (takeAnchor s.store.stories s.scroll.p) s u ∧ MarksCarried none s u
        ∧ u.store.stories = restated u laid ∧ OnAirKept u
        ∧ u.store = { s.store with stories := u.store.stories, onAirId := u.store.onAirId }
        ∧ u.layout.columns = c ∧ u.layout.generation = s.layout.generation + 1 ∧ u.layout.target = none
        ∧ (u.pending = s.pending ∧ u.edit = s.edit ∧ u.hub = s.hub ∧ u.cues = s.cues ∧ u.job = s.job)
        ∧ u.link = (noticesRaised (onAirNotices s u) s).link))

/-! ## Reading and layout -/

/-- READ_STORY gives the record with its id, its index and start row, and the edition, and changes nothing else; any other id is
NO_STORY (R17, R52). -/
def Obligations.ReadStoryGivesTheRecord : Prop :=
  ∀ (seq : Byte) (story : Word16) (s : State), Ready s →
    ((∀ st ∈ s.store.stories, st.id ≠ story.toNat) →
      exec (.readStory seq story) s = .next (answered (reasonReply 0x58 seq .noStory) s))
    ∧ (∀ before st after, Found s before st after → st.id = story.toNat →
      exec (.readStory seq story) s =
        .next (answered
          (okReply 0x58 seq (.story
            { edition := s.store.edition, index := before.length, state := st.state, revision := st.revision,
              lineCount := st.chain.length, rowCount := st.rowCount, startRow := rowsOf before, markCount := st.markCount,
              pendingCount := st.pendingCount, slug := st.slug })) s))

/-- READ_RUNDOWN gives the edition, the number of records, the first index and at most 48 records from it on, in order, and changes
nothing but the reply queue (R18). -/
def Obligations.ReadRundownGivesTheRecordsInOrder : Prop :=
  ∀ (seq first : Byte) (s : State), Ready s → ∃ entries : List RundownEntry,
    exec (.readRundown seq first) s =
      .next (answered (okReply 0x59 seq (.rundown s.store.edition s.store.stories.length first.toNat entries)) s)
    ∧ entries.length = min 48 (s.store.stories.length - first.toNat)
    ∧ ∀ i, i < entries.length → entries[i]? =
        (s.store.stories[first.toNat + i]?).map fun st => ⟨st.id, st.state, st.pendingCount⟩

/-- READ_POSITION, HEAD_READ and CUE_READ answer with the state as it stands and change nothing else; a head or cue that is none is
BAD_VALUE (R88, R117, R144). The rate of a head in use is its nominal rate (log 25), and a CUE_READ reply takes the number of its free
values with it (log 14). -/
def Obligations.ReadingCommandsAnswerWithTheState : Prop :=
  ∀ (seq : Byte) (s : State), Ready s →
    (exec (.readPosition seq) s =
      .next (answered
        (okReply 0x64 seq (.position
          { p := s.scroll.p, v := s.scroll.v, state := s.scroll.state, direction := s.scroll.direction,
            cruise := s.scroll.cruise, lastDemand := s.scroll.lastDemand, rows := rowsOf s.store.stories,
            onAirId := s.store.onAirId, anchor := takeAnchor s.store.stories s.scroll.p, source := s.scroll.inUse,
            rate := match s.scroll.inUse with
              | .internal r => r
              | .head n => (s.heads[n]).geometry.rate })) s))
    ∧ (∀ head : Byte, 4 ≤ head.toNat → exec (.headRead seq head) s = .next (answered (reasonReply 0x76 seq .badValue) s))
    ∧ (∀ (head : Byte) (h : Fin 4), head.toNat = h.val → ∃ f : HeadFields,
      exec (.headRead seq head) s = .next (answered (okReply 0x76 seq (.head f)) s)
      ∧ f.geometry = (s.heads[h]).geometry ∧ f.appearance = (s.heads[h]).appearance
      ∧ f.pendingAppearance = (s.heads[h]).pendingAppearance ∧ f.state = (s.heads[h]).state
      ∧ f.syncLost = (s.heads[h]).syncLost ∧ f.degraded = (s.heads[h]).degraded ∧ f.bias = (s.heads[h]).bias
      ∧ f.window = (s.heads[h]).window
      ∧ (∀ half : Fin 2, (f.halves[half]).block = ((s.heads[h]).halves[half]).block
        ∧ (f.halves[half]).remaining = ((s.heads[h]).halves[half]).remaining.length
        ∧ (f.halves[half]).urgent = (if ((s.heads[h]).halves[half]).remaining = [] then none
          else some ((s.heads[h]).halves[half]).urgent))
      ∧ f.emptySlots + f.renderingSlots + f.validSlots = 32
      ∧ f.emptySlots = (s.heads[h]).slots.toList.count .empty
      ∧ f.renderingSlots = ((s.heads[h]).slots.toList.filter fun x => match x with
        | .rendering _ => true
        | _ => false).length
      ∧ f.validSlots = ((s.heads[h]).slots.toList.filter fun x => match x with
        | .valid _ _ => true
        | _ => false).length)
    ∧ (∀ cue : Byte, (cue = 0 ∨ 64 < cue.toNat) →
      exec (.cueRead seq cue) s = .next (answered (reasonReply 0x69 seq .badValue) s))
    ∧ (∀ (cue : Byte) (c : Fin 64), cue.toNat = c.val + 1 →
      let named := s.layout.marks.filter fun m => m.cue = c.val + 1
      exec (.cueRead seq cue) s =
        .next (answered
          (okReply 0x69 seq (.cue s.fresh s.cues.defs[c] named.length (named.countP MarkRecord.armed)))
          { s with fresh := s.fresh + 1 }))

/-- The wrap: a line makes at least one row; each row is the last, with the C or fewer characters that are left, or ends at the largest
space in s+1..s+C, which is consumed, or, where there is none, holds C characters (R49). -/
def Obligations.LinesWrapGreedily : Prop :=
  ∀ (c : Nat) (text : Line), 1 ≤ c →
    let chars := visibleChars text
    let rows := wrapLine c text
    (∃ r rest, rows = r :: rest ∧ r.first = 0)
    ∧ (∀ i r, rows[i]? = some r → rows[i + 1]? = none → r.first + r.count = chars.length ∧ r.count ≤ c)
    ∧ (∀ i r next, rows[i]? = some r → rows[i + 1]? = some next → r.first + c < chars.length
      ∧ ((1 ≤ r.count ∧ r.count ≤ c ∧ chars[r.first + r.count]? = some 0x20 ∧ next.first = r.first + r.count + 1
          ∧ ∀ j, r.first + r.count < j → j ≤ r.first + c → chars[j]? ≠ some 0x20)
        ∨ (r.count = c ∧ next.first = r.first + c
          ∧ ∀ j, r.first < j → j ≤ r.first + c → chars[j]? ≠ some 0x20)))

/-- The story states as they are recomputed: by the table of R8 for a story that is not SKIPPED, with exactly one story ON_AIR while the
script has rows and none when it has none; SKIPPED stays, and no field of a story but its state changes. The on-air id becomes the id of
the story ON_AIR, 0 where none is, and ON_AIR is raised with it exactly where it changes (R8 to R10). -/
def Obligations.StoryStatesFollowTheReadingRow : Prop :=
  ∀ s : State, s.scroll.p ≤ s.rows * 1024 → (∀ st ∈ s.store.stories, st.rowCount = 0 ↔ st.state = .skipped) →
    let stories := (recomputeStates s).store.stories
    let reading := if s.scroll.p < s.rows * 1024 then s.scroll.p / 1024 else s.rows - 1
    (∀ before st after, s.store.stories = before ++ st :: after → ∃ b a, b.length = before.length ∧ stories = b ++
        { st with state :=
            if st.state = .skipped then .skipped
            else if rowsOf before + st.rowCount ≤ reading then .read
            else if rowsOf before ≤ reading then .onAir
            else .ready } :: a)
    ∧ stories.length = s.store.stories.length
    ∧ stories.countP (fun st => st.state = .onAir) = (if 0 < s.rows then 1 else 0)
    ∧ OnAirKept (recomputeStates s)
    ∧ (s.rows = 0 → (recomputeStates s).store.onAirId = 0)
    ∧ (let id := (recomputeStates s).store.onAirId
      let u := { s with store := { s.store with stories := stories, onAirId := id } }
      (id = s.store.onAirId → recomputeStates s = u) ∧ (id ≠ s.store.onAirId → recomputeStates s = raise (.onAir id) u))

/-! ## Motion -/

/-- SCROLL_STOP releases any holder, with must-rest, and stops a scroll that has rows; SCROLL_RESUME and SCROLL_SPEED are refused while a
lever or pedal holds authority, and otherwise set CRUISE, but in IDLE. The velocity and the position stay. Each reply carries the motion
as it stands after the command. A KEYPAD's report acts by its keys newly down: STOP, RESUME, FASTER and SLOWER do the like where the
request is permitted, and in MANUAL end a lever's hold, FASTER and SLOWER from the current velocity (log 21), and FASTER takes a negative
speed above -K to the sum on a port without reverse too, by the table of R83 and not its text, which is the model's choice (log 47); a key
that is refused raises CONTENTION, once. Several act one after another in R101's order, MARK last, with the position as the report found
it (R69, R72, R80 to R83, R95, R96, R101, R107, R108, R112). -/
def Obligations.ScrollCommandsSetTheState : Prop :=
  (∀ (seq : Byte) (s : State), Ready s →
      (∃ t, exec (.scrollStop seq) s = .next (answered (motionAnswer 0x60 seq .ok t) t)
        ∧ (match s.hub.holder with
          | none => t = if s.scroll.state = .idle then s else stateChanged .stopped .host s
          | some h => ∃ ports : Vector Port 6,
              (∀ n : Fin 6, ports[n] = if n = h.port then { s.hub.ports[n] with mustRest := true } else s.hub.ports[n])
              ∧ t = (fun u => if s.scroll.state = .idle then u else stateChanged .stopped .host u)
                  (raise (.authority none (some h.port) .stopped)
                    { s with hub := { s.hub with ports := ports, holder := none, releaseTimer := none } })))
      ∧ (∀ speed : Word16, leverHolds s = true →
        exec (.scrollResume seq) s = .next (answered (motionAnswer 0x61 seq (.reason .heldByControl) s) s)
        ∧ exec (.scrollSpeed seq speed) s = .next (answered (motionAnswer 0x62 seq (.reason .heldByControl) s) s))
      ∧ (∀ speed : Word16, leverHolds s = false →
        let resumed := if s.scroll.state = .stopped ∨ s.scroll.state = .held then stateChanged .cruise .host s else s
        let set := { s with scroll :=
          { s.scroll with cruise := max (-(s.scroll.vmax : Int)) (min s.scroll.vmax speed.toInt) } }
        let sped := if s.scroll.state = .idle then set else stateChanged .cruise .host set
        exec (.scrollResume seq) s = .next (answered (motionAnswer 0x61 seq .ok resumed) resumed)
        ∧ exec (.scrollSpeed seq speed) s = .next (answered (motionAnswer 0x62 seq .ok sped) sped)))
  ∧ (∀ (n : Fin 6) (r : ControlReport) (s : State), s.resetHeld = false → r.kind = .keypad → r.raw = 0 →
      (s.hub.ports[n]).receiver = .hunting → (s.hub.ports[n]).state = .live → (s.hub.ports[n]).kind = some .keypad →
      (∀ h ∈ s.hub.holder, h.port ≠ n) →
      let old := s.hub.ports[n]
      let pressed := r.keys &&& ~~~old.keys
      ∃ ports : Vector Port 6,
        exec (.controllerReport n (reportFrame r)) s =
          .next (pump (runKeys n pressed { s with hub := { s.hub with ports := ports } }))
        ∧ ∀ i : Fin 6, ports[i] = if i = n then
            { old with
              value := .none, keys := r.keys, timer := some 0, armedTimeout := old.timeout
              mustRest := if pressed &&& 0x0FF = 0 then false else old.mustRest
              refused := if pressed &&& 0x0FF = 0 then false else old.refused }
          else s.hub.ports[i])
  ∧ (∀ (n : Fin 6) (pressed : KeySet) (s : State), runKeys n pressed s =
      (fun t => if pressed.getLsbD 7 = true then
          raise (.markKey n s.scroll.p (takeAnchor s.store.stories s.scroll.p)) t else t)
        ([0, 1, 2, 3, 4, 5, 6].foldl (fun t bit => runKeys n (pressed &&& onlyKey bit) t) s))
  ∧ (∀ (n : Fin 6) (s : State),
      let role := (s.hub.ports[n]).role
      (∀ bit < 7, ¬ Permitted role s → ∀ h ∈ s.hub.holder,
        ((s.hub.ports[n]).refused = true → runKeys n (onlyKey bit) s = s)
        ∧ ((s.hub.ports[n]).refused = false → ∃ ports : Vector Port 6,
          runKeys n (onlyKey bit) s = raise (.contention n role h) { s with hub := { s.hub with ports := ports } }
          ∧ ∀ i : Fin 6, ports[i] = if i = n then { s.hub.ports[i] with refused := true } else s.hub.ports[i]))
      ∧ (Permitted role s →
        let cruising := fun x : Int => { s with scroll := { s.scroll with cruise := x } }
        let ended := fun t => if leverHolds s = true then holdEnded .ended t else t
        let driven := fun t => match s.scroll.state with
          | .idle => t
          | .manual => stateChanged .cruise (.port n) (ended t)
          | .stopped => stateChanged .cruise (.port n) t
          | .cruise => t
          | .held => stateChanged .cruise (.port n) t
        runKeys n 0 s = s
        ∧ runKeys n (onlyKey 0) s =
          (fun t => if s.scroll.state = .idle then t else stateChanged .stopped (.port n) t) (holdEnded .stopped s)
        ∧ runKeys n (onlyKey 1) s = driven s
        ∧ runKeys n (onlyKey 2) s = driven (cruising (cruiseTrimmed n s.scroll.keyStep s))
        ∧ runKeys n (onlyKey 3) s = driven (cruising (cruiseTrimmed n (-(s.scroll.keyStep : Int)) s))))

/-- JUMP: its checks in order; then the position goes to the target row, held within 0..L, the marks are armed around it in three bands,
the states and the on-air id are recomputed, with ON_AIR where that id changes, and velocity, state, direction, cruise speed, biases and
authority stay. The NEXT, PREV and TOP keys, where permitted, jump in the same way, to the next story with rows or L, to the on-air
story's start row or the story before it, and to row 0; in a reflow they do nothing. The MARK key raises MARK_KEY with the position and
its anchor, and does nothing else (R9, R10, R55, R86, R87, R102, R107, R123). -/
def Obligations.JumpMovesThePositionAndArmsTheMarks : Prop :=
  (∀ (seq kind : Byte) (story line rows : Word16) (s : State), Ready s →
      let refusedBy := fun r => Host.Outcome.next (answered (motionAnswer 0x63 seq (.reason r) s) s)
      ((3 < kind.toNat ∨ ((kind = 1 ∨ kind = 2) ∧ story = 0)) → exec (.jump seq kind story line rows) s = refusedBy .badValue)
      ∧ (kind.toNat ≤ 3 → ((kind = 1 ∨ kind = 2) → story ≠ 0) →
        (s.layout.target ≠ none → exec (.jump seq kind story line rows) s = refusedBy .busy)
        ∧ (s.layout.target = none → (kind = 1 ∨ kind = 2) → (∀ st ∈ s.store.stories, st.id ≠ story.toNat) →
          exec (.jump seq kind story line rows) s = refusedBy .noStory)
        ∧ (s.layout.target = none → ∀ target : Int,
          ((kind = 0 ∧ target = 0)
            ∨ (kind = 3 ∧ target = (s.scroll.p / 1024 : Nat) + rows.toInt)
            ∨ (∃ before st after, Found s before st after ∧ st.id = story.toNat
              ∧ ((kind = 1 ∧ target = rowsOf before)
                ∨ (kind = 2 ∧ st.rowCount = 0 ∧ target = rowsOf before)
                ∨ (kind = 2 ∧ 0 < st.rowCount ∧ 1 ≤ s.layout.columns ∧ st.chain ≠ []
                  ∧ st.dir = some (layoutStory s.layout.columns st.slug st.chain)
                  ∧ target = (rowsOf before + (if st.slug = [] then 0 else 1)
                    + ((st.chain.take (min line.toNat (st.chain.length - 1))).map
                        fun text => (wrapLine s.layout.columns text).length).sum : Nat))))) →
          ∃ t, exec (.jump seq kind story line rows) s = .next (answered (motionAnswer 0x63 seq .ok t) t) ∧ Jumped target s t)))
  ∧ (∀ (n : Fin 6) (s : State),
      runKeys n (onlyKey 7) s = raise (.markKey n s.scroll.p (takeAnchor s.store.stories s.scroll.p)) s
      ∧ (Permitted (s.hub.ports[n]).role s → s.layout.target ≠ none →
        ∀ bit ∈ [4, 5, 6], runKeys n (onlyKey bit) s = s)
      ∧ (Permitted (s.hub.ports[n]).role s → s.layout.target = none → (s.store.stories.map Story.id).Nodup →
        let next := runKeys n (onlyKey 4) s
        let prev := runKeys n (onlyKey 5) s
        Jumped 0 s (runKeys n (onlyKey 6) s)
        ∧ (s.rows = 0 → Jumped 0 s next ∧ Jumped 0 s prev)
        ∧ (∀ before st after, s.store.stories = before ++ st :: after → st.state = .onAir → (∀ x ∈ before, x.state ≠ .onAir) →
          let reading := if s.scroll.p < s.rows * 1024 then s.scroll.p / 1024 else s.rows - 1
          ((∀ x ∈ after, x.rowCount = 0) → Jumped s.rows s next)
          ∧ (∀ mid y rest, after = mid ++ y :: rest → (∀ x ∈ mid, x.rowCount = 0) → 0 < y.rowCount →
            Jumped (rowsOf (before ++ st :: mid)) s next)
          ∧ (rowsOf before + 2 < reading → Jumped (rowsOf before) s prev)
          ∧ (reading ≤ rowsOf before + 2 → (∀ x ∈ before, x.rowCount = 0) → Jumped (rowsOf before) s prev)
          ∧ (∀ pre y mid, reading ≤ rowsOf before + 2 → before = pre ++ y :: mid → 0 < y.rowCount →
            (∀ x ∈ mid, x.rowCount = 0) → Jumped (rowsOf pre) s prev))))

/-- SCROLL_FRAME, with no pause mark in the way: the velocity step, the position step with its clamps at 0 and L × 1024, which set the
velocity to 0 and stop a CRUISE, with SCROLL_STATE of cause AT_TOP or AT_END, the direction and the demand kept; the rundown's order, the
layout but for armed marks, authority, heads and settings stay; the states and the on-air id are recomputed, with ON_AIR where that id
changes. Then the release of pending edits runs, which does nothing where none is pending. Every frame counts toward the next position
report, which is written to its slot with the motion as the frame leaves it (R9, R10, R39, R67, R68, R72, R73, R76, R77, R79, R164). The
frame owed is counted off, which is the model's count (log 6), and the report carries the number already raised, which is its deduction
(log 38). -/
def Obligations.ScrollFrameMovesThePosition : Prop :=
  ∀ s : State, s.resetHeld = false →
    let d := demandGiven s
    let v := velocityStep s.scroll.accel s.scroll.brake s.scroll.v d
    let trial := (s.scroll.p : Int) + v
    let top := (s.rows : Int) * 1024
    (s.scroll.state = .cruise → 0 < v → ∀ m ∈ s.layout.marks, ¬ PausesIn s s.scroll.p (min top trial).toNat m) →
    ∃ u t cruise, exec .scrollFrame s = .next t ∧ t = pump (countFrame (release u))
      ∧ u.scroll =
        { s.scroll with
          p := (max 0 (min top trial)).toNat
          v := if top < trial ∨ trial < 0 then 0 else v
          state := if s.scroll.state = .cruise ∧ (top < trial ∨ trial < 0) then .stopped else s.scroll.state
          direction := if 0 < v then .forward else if v < 0 then .backward else s.scroll.direction
          lastDemand := d
          cruise := cruise
          framesOwed := s.scroll.framesOwed - 1 }
      ∧ (cruise ≠ s.scroll.cruise → ∃ m ∈ s.layout.marks, m.armed = true ∧ s.scroll.p < m.position
          ∧ m.position ≤ u.scroll.p)
      ∧ u.store.stories = restated u s.store.stories ∧ OnAirKept u
      ∧ u.store = { s.store with stories := u.store.stories, onAirId := u.store.onAirId }
      ∧ (∃ passed, u.link = (noticesRaised
          (stateNotices (if trial < 0 then .atTop else .atEnd) s u ++ passed ++ onAirNotices s u) s).link)
      ∧ (∃ marks, u.layout = { s.layout with marks := marks })
      ∧ (u.pending = s.pending ∧ u.edit = s.edit ∧ u.hub = s.hub ∧ u.heads = s.heads ∧ u.job = s.job
        ∧ u.cues.defs = s.cues.defs)
      ∧ (s.edit.pending = [] → t.scroll = u.scroll ∧ t.store = u.store ∧ t.layout = u.layout ∧ t.edit = u.edit
        ∧ t.heads = u.heads ∧ t.cues = u.cues)
      ∧ (t.pending = s.pending ∧ t.hub = s.hub ∧ t.job = s.job ∧ t.link.replies = s.link.replies
        ∧ t.link.received = s.link.received)
      ∧ (let writes := 0 < s.link.interval ∧ s.link.interval ≤ s.link.frameCount + 1
        t.link.frameCount =
            (if s.link.interval = 0 then s.link.frameCount else if writes then 0 else s.link.frameCount + 1)
          ∧ t.link.reportNumber = (if writes then s.link.reportNumber + 1 else s.link.reportNumber)
          ∧ (s.link.sending ≠ none → t.link.slot =
            if writes then
              some ⟨s.link.reportNumber + 1, t.scroll.p, t.scroll.v, t.scroll.state, t.store.onAirId,
                takeAnchor t.store.stories t.scroll.p⟩
            else s.link.slot))

/-- SCROLL_FRAME in CRUISE going forward: the first armed mark in list order that the frame would reach, and whose cue has a PAUSE
action, holds the scroll at its position with the velocity 0, before the release of pending edits, which does nothing where none is pending
(R39, R65, R78). -/
def Obligations.PauseMarkHoldsTheScroll : Prop :=
  ∀ (s : State) (before : List MarkRecord) (m : MarkRecord) (after : List MarkRecord),
    s.resetHeld = false → s.scroll.state = .cruise → s.layout.marks = before ++ m :: after →
    let v := velocityStep s.scroll.accel s.scroll.brake s.scroll.v (demandGiven s)
    let reach := (min ((s.rows : Int) * 1024) ((s.scroll.p : Int) + v)).toNat
    0 < v → (∀ x ∈ before, ¬ PausesIn s s.scroll.p reach x) → PausesIn s s.scroll.p reach m →
    ∃ u t, exec .scrollFrame s = .next t ∧ t = pump (countFrame (release u)) ∧ u.edit = s.edit
      ∧ u.scroll.p = m.position ∧ u.scroll.v = 0 ∧ u.scroll.state = .held ∧ u.scroll.direction = .forward
      ∧ (s.edit.pending = [] → t.scroll = u.scroll)
      ∧ (s.link.notices.length < 32 → ∃ more, t.link.notices =
          s.link.notices ++ .scrollState .held .cruise m.position 0 (.pause m.cue) :: more)

/-- After a frame, and before the release that it brings: an armed mark that the advance has passed has fired and is disarmed, another
armed mark stays armed, and a disarmed mark is armed exactly when it lies more than a row below the reading line. The marks that have
fired carry out their cues' actions in list order, on the lines and the cruise speed, and raise CUE_PASSED in that order, after the
frame's SCROLL_STATE, whose cause is AT_TOP, AT_END or the PAUSE of a mark that fired, and with UNDEFINED where the cue has no action;
ON_AIR comes next, where the on-air id changes, and the notices of the release follow (R10, R72, R77 to R79, R118, R119, R121, R122,
R126). The records are told apart by their keys (R63). -/
def Obligations.FramesFireAndRearmMarks : Prop :=
  ∀ s : State, s.resetHeld = false → (s.layout.marks.map MarkRecord.key).Nodup →
    ∃ u t, exec .scrollFrame s = .next t ∧ t = pump (countFrame (release u)) ∧ u.edit = s.edit
      ∧ (s.edit.pending = [] → t.layout = u.layout ∧ t.scroll = u.scroll)
      ∧ u.layout.marks = s.layout.marks.map (fun m =>
        { m with armed :=
            if m.armed = true then !(decide (s.scroll.p < m.position ∧ m.position ≤ u.scroll.p))
            else decide (u.scroll.p + 1024 < m.position) })
      ∧ (let fired := s.layout.marks.filter fun m =>
          m.armed && decide (s.scroll.p < m.position) && decide (m.position ≤ u.scroll.p)
        let actions := fired.flatMap fun m => cueActions s m.cue
        (∀ l : Fin 8, t.cues.lines[l] = actions.foldl (lineAfter l) s.cues.lines[l])
        ∧ t.scroll.cruise = actions.foldl (cruiseAfter s.scroll.vmax) s.scroll.cruise
        ∧ t.cues.defs = s.cues.defs
        ∧ (let trial := (s.scroll.p : Int) + velocityStep s.scroll.accel s.scroll.brake s.scroll.v (demandGiven s)
          ∃ (cause : ScrollCause) (more : List Notice),
          (u.scroll.state = .stopped → (trial < 0 → cause = .atTop) ∧ ((s.rows : Int) * 1024 < trial → cause = .atEnd))
          ∧ (u.scroll.state = .held → u.scroll.state ≠ s.scroll.state → ∃ m ∈ fired, m.position = u.scroll.p ∧ cause = .pause m.cue)
          ∧ u.link = (noticesRaised (stateNotices cause s u
              ++ fired.map (fun m =>
                .cuePassed m.cue m.story m.line m.char m.position (decide (cueActions s m.cue = [])))
              ++ onAirNotices s u) s).link
          ∧ t.link.notices = u.link.notices ++ more))

/-- The velocity step by the six cases of R76, and where they lead: a magnitude grows by at most A and shrinks by at most B in a frame, a
sign is never crossed, and under a demand that stands the velocity reaches it and stays (R68, R76). -/
def Obligations.VelocityStepMovesTowardTheDemand : Prop :=
  ∀ (a b : Nat) (v d : Int), 1 ≤ a → 1 ≤ b →
    (v = 0 → d = 0 → velocityStep a b v d = 0)
    ∧ (v = 0 → d ≠ 0 → velocityStep a b v d = d.sign * min d.natAbs a)
    ∧ (0 < v * d → v.natAbs < d.natAbs → velocityStep a b v d = v.sign * min (v.natAbs + a) d.natAbs)
    ∧ (0 < v * d → v.natAbs = d.natAbs → velocityStep a b v d = v)
    ∧ (0 < v * d → d.natAbs < v.natAbs → velocityStep a b v d = v.sign * max ((v.natAbs : Int) - b) d.natAbs)
    ∧ (v ≠ 0 → v * d ≤ 0 → velocityStep a b v d = v.sign * max ((v.natAbs : Int) - b) 0)
    ∧ ((velocityStep a b v d).natAbs ≤ v.natAbs + a ∧ v.natAbs ≤ (velocityStep a b v d).natAbs + b
      ∧ 0 ≤ v * velocityStep a b v d)
    ∧ (∀ n, v.natAbs + d.natAbs ≤ n → (fun x => velocityStep a b x d)^[n] v = d)

/-- The lever demand by the four steps of R74 from the port's last deflection, with what they give at the ends: 0 within the dead zone,
Q8 times the gain at full deflection, never above Vmax, and never falling as the deflection grows along an ordered curve (R73 to R75). -/
def Obligations.LeverDemandFollowsTheCurve : Prop :=
  ∀ (curve : Vector Nat 9) (vmax : Nat) (port : Port),
    (∀ m, port.value = .deflection false m →
      leverDemand curve vmax port = demandMagnitude curve vmax port.dead port.gain m)
    ∧ (∀ m, port.value = .deflection true m → leverDemand curve vmax port =
        if port.reverse = true then -(demandMagnitude curve vmax port.dead port.gain m : Int) else 0)
    ∧ (∀ m, demandMagnitude curve vmax port.dead port.gain m ≤ vmax)
    ∧ (∀ m, curveOrdered curve = true → m ≤ port.dead → demandMagnitude curve vmax port.dead port.gain m = 0)
    ∧ (port.dead ≤ 32 → demandMagnitude curve vmax port.dead port.gain 128 = min (curve[8] * port.gain / 64) vmax)
    ∧ (curveOrdered curve = true → port.dead ≤ 32 → ∀ m n, m ≤ n → n ≤ 128 →
        demandMagnitude curve vmax port.dead port.gain m ≤ demandMagnitude curve vmax port.dead port.gain n)

/-- INTERNAL_TIMER_EXPIRY of a running timer owes one scroll frame more and starts the next period; SYNC_LOSS_EXPIRY of a running timer
stops it, sets sync-lost with its notice, and decides the frame source afresh; with the timer stopped neither does anything; PULSE_END
leaves a line with its latch and no pulse (R89, R90, R125, R136). The row asserts that its time has run (log 3), that it does
nothing with its timer stopped is the model's deduction (log 37), and the owed frame is the model's (log 6). -/
def Obligations.TimersRunOut : Prop :=
  ∀ s : State, s.resetHeld = false →
    exec .internalTimerExpiry s =
      .next (pump (if s.scroll.frameTimer = none then s
        else { s with scroll := { s.scroll with frameTimer := some 0, framesOwed := s.scroll.framesOwed + 1 } }))
    ∧ (∀ h : Fin 4,
      ((s.heads[h]).syncTimer = none → exec (.syncLossExpiry h) s = .next (pump s))
      ∧ ((s.heads[h]).syncTimer ≠ none → (s.heads[h]).syncLost = false → ∃ t, exec (.syncLossExpiry h) s = .next t
        ∧ HeadChanged h (fun x => { x with syncLost := true, syncTimer := none }) s t ∧ HeadFrame s t
        ∧ SourceRefreshed s t ∧ t.link = (pump (raise (.syncState h false) s)).link))
    ∧ (∀ l : Fin 8, ∃ lines : Vector CueLine 8,
      (∀ i : Fin 8, lines[i] = if i = l then ⟨(s.cues.lines[i]).latch, 0⟩ else s.cues.lines[i])
      ∧ exec (.pulseEnd l) s = .next (pump { s with cues := { s.cues with lines := lines } }))

/-! ## Cues -/

/-- CUE_DEFINE: an id outside 1..64, more than 4 actions, a kind outside the five, a line outside 0..7 or a pulse of 0 or more than 255
steps is BAD_VALUE and changes nothing; otherwise the entry is replaced whole, by no list when the count is 0 (R115, R116). -/
def Obligations.CueDefineReplacesTheEntry : Prop :=
  ∀ (seq cue : Byte) (actions : List ActionField) (s : State), Ready s → actions.length ≤ 54 →
    let good := fun a : ActionField =>
      a.kind = 1 ∨ a.kind = 2 ∨ (a.kind = 3 ∧ a.line.toNat < 8 ∧ 1 ≤ a.value.toNat ∧ a.value.toNat ≤ 255)
        ∨ ((a.kind = 4 ∨ a.kind = 5) ∧ a.line.toNat < 8)
    ((cue = 0 ∨ 64 < cue.toNat ∨ 4 < actions.length ∨ ∃ a ∈ actions, ¬ good a) →
      exec (.cueDefine seq cue actions) s = .next (answered (reasonReply 0x68 seq .badValue) s))
    ∧ (∀ c : Fin 64, cue.toNat = c.val + 1 → actions.length ≤ 4 → (∀ a ∈ actions, good a) →
      ∃ (defs : Vector (List CueAction) 64) (list : List CueAction),
        exec (.cueDefine seq cue actions) s =
          .next (answered (okReply 0x68 seq .bare) { s with cues := { s.cues with defs := defs } })
        ∧ (∀ i : Fin 64, defs[i] = if i = c then list else s.cues.defs[i])
        ∧ list.length = actions.length
        ∧ ∀ (k : Nat) (a : ActionField), actions[k]? = some a →
          (a.kind = 1 → list[k]? = some CueAction.pause) ∧ (a.kind = 2 → list[k]? = some (CueAction.cruise a.value.toInt))
          ∧ (∀ l : Fin 8, a.line.toNat = l.val →
            (a.kind = 3 → list[k]? = some (CueAction.pulse l a.value.toNat)) ∧ (a.kind = 4 → list[k]? = some (CueAction.set l))
            ∧ (a.kind = 5 → list[k]? = some (CueAction.clear l))))

/-- OUTPUT_SET: an operation outside SET, CLEAR and PULSE, or a PULSE of 0 steps, is BAD_VALUE; otherwise each line of the mask takes
the operation as R126 tables it, no other line changes, and the reply gives all eight; a line is high exactly when it is latched or has
pulse time (R125 to R127). -/
def Obligations.OutputSetOperatesTheMaskedLines : Prop :=
  ∀ (seq mask operation duration : Byte) (s : State), Ready s →
    ((2 < operation.toNat ∨ (operation = 2 ∧ duration = 0)) →
      exec (.outputSet seq mask operation duration) s = .next (answered (reasonReply 0x6A seq .badValue) s))
    ∧ (operation.toNat ≤ 2 → (operation = 2 → duration ≠ 0) → ∃ lines : Vector CueLine 8,
      exec (.outputSet seq mask operation duration) s =
        .next (answered (okReply 0x6A seq (.lines lines)) { s with cues := { s.cues with lines := lines } })
      ∧ ∀ l : Fin 8, lines[l] =
          (if mask.getLsbD l.val = true then
            (if operation = 0 then ⟨true, (s.cues.lines[l]).pulse⟩
            else if operation = 1 then ⟨false, 0⟩
            else ⟨(s.cues.lines[l]).latch, duration.toNat * 10⟩)
          else s.cues.lines[l])
        ∧ ((lines[l]).level = true ↔ (lines[l]).latch = true ∨ 0 < (lines[l]).pulse))

/-! ## Display heads and the render unit -/

/-- HEAD_CONFIG: its five checks in order; otherwise the seven settings are replaced, the reply gives the pitch and V, and, where the
head's rate is that of the source in use, the frame source is decided afresh (R89, R90, R129, R130). -/
def Obligations.HeadConfigReplacesTheGeometry : Prop :=
  ∀ (seq head : Byte) (width height : Word16) (scale leading : Byte) (margin : Word16) (reading rate : Byte) (s : State),
    Ready s →
    let c := exec (.headConfig seq head width height scale leading margin reading rate) s
    let inRange := head.toNat < 4 ∧ (320 ≤ width.toNat ∧ width.toNat ≤ 1920 ∧ width.toNat % 16 = 0)
      ∧ (240 ≤ height.toNat ∧ height.toNat ≤ 1080) ∧ (1 ≤ scale.toNat ∧ scale.toNat ≤ 4) ∧ leading.toNat ≤ 31
      ∧ (margin.toNat ≤ 256 ∧ margin.toNat % 16 = 0) ∧ rate.toNat ≤ 2
    let refusedBy := fun r => Host.Outcome.next (answered (reasonReply 0x70 seq r) s)
    (¬ inRange → c = refusedBy .badValue)
    ∧ (inRange → ∀ h : Fin 4, head.toNat = h.val →
      let g : Geometry := ⟨width.toNat, height.toNat, scale.toNat, leading.toNat, margin.toNat, reading.toNat,
        if rate = 0 then .hz50 else if rate = 1 then .hz5994 else .hz60⟩
      let pitch := 32 * scale.toNat + leading.toNat
      let rows := height.toNat / pitch
      (if (s.heads[h]).state ≠ .disabled then c = refusedBy .headActive
      else if rows < 1 ∨ 15 < rows then c = refusedBy .rowsExceed
      else if rows ≤ reading.toNat then c = refusedBy .badValue
      else if ¬ HoldsRows g s then c = refusedBy .headTooNarrow
      else ∃ t, c = .next t ∧ HeadChanged h (fun x => { x with geometry := g }) s t ∧ HeadFrame s t ∧ SourceRefreshed s t
        ∧ t.link = (answered (okReply 0x70 seq (.geometry pitch rows)) s).link))

/-- HEAD_START prepares a DISABLED head and enters STARTING; HEAD_STOP leaves a DISABLED or STOPPING head, enters DISABLED when no row of
the head is in render and STOPPING otherwise, and answers with the state; each change raises HEAD_STATE, and a set degraded flag is cleared
with HEAD_CLEAR (R131, R133, R135). The order of the two notices is log 17's, the state that HEAD_STOP
gives for a head it leaves is log 44's, and that a pending appearance comes into force on entering DISABLED is log 18's. -/
def Obligations.HeadsStartAndStop : Prop :=
  ∀ (seq head : Byte) (s : State), Ready s →
    (4 ≤ head.toNat → exec (.headStart seq head) s = .next (answered (reasonReply 0x71 seq .badValue) s)
      ∧ exec (.headStop seq head) s = .next (answered (reasonReply 0x72 seq .badValue) s))
    ∧ (∀ h : Fin 4, head.toNat = h.val →
      let old := s.heads[h]
      let cleared := fun n => if old.degraded = true then raise (.headClear h) (raise n s) else raise n s
      (old.state ≠ .disabled → exec (.headStart seq head) s = .next (answered (reasonReply 0x71 seq .headActive) s))
      ∧ (old.state = .disabled → ¬ HoldsRows old.geometry s →
        exec (.headStart seq head) s = .next (answered (reasonReply 0x71 seq .headTooNarrow) s))
      ∧ (old.state = .disabled → HoldsRows old.geometry s → ∃ t, exec (.headStart seq head) s = .next t
        ∧ HeadChanged h (fun x =>
            { x with
              state := .starting, bias := 0, halves := Vector.replicate 2 ⟨none, [], false⟩
              slots := Vector.replicate 32 .empty, window := ⟨0, 0, 0, 0⟩, degraded := false, syncLost := false
              syncTimer := some 0, frame := none }) s t
        ∧ HeadFrame s t ∧ SourceRefreshed s t
        ∧ t.link = (answered (okReply 0x71 seq .bare) (raise (.headState h .starting .disabled) s)).link)
      ∧ ((old.state = .disabled ∨ old.state = .stopping) →
        exec (.headStop seq head) s = .next (answered (okReply 0x72 seq (.headState old.state)) s))
      ∧ (old.state ≠ .disabled → old.state ≠ .stopping → (∃ j ∈ s.job, j.head = h) → ∃ t halves,
        exec (.headStop seq head) s = .next t
        ∧ HeadChanged h (fun x => { x with state := .stopping, halves := halves, degraded := false }) s t
        ∧ (∀ half : Fin 2, halves[half] = { old.halves[half] with remaining := [] })
        ∧ HeadFrame s t ∧ SourceRefreshed s t
        ∧ t.link = (answered (okReply 0x72 seq (.headState .stopping)) (cleared (.headState h .stopping old.state))).link)
      ∧ (old.state ≠ .disabled → old.state ≠ .stopping → (∀ j ∈ s.job, j.head ≠ h) → ∃ t,
        exec (.headStop seq head) s = .next t
        ∧ HeadChanged h (fun x =>
            { x with
              state := .disabled, halves := Vector.replicate 2 ⟨none, [], false⟩, slots := Vector.replicate 32 .empty
              degraded := false, syncLost := false, syncTimer := none, frame := none
              appearance := x.pendingAppearance.getD x.appearance, pendingAppearance := none }) s t
        ∧ HeadFrame s t ∧ SourceRefreshed s t
        ∧ t.link = (answered (okReply 0x72 seq (.headState .disabled)) (cleared (.headState h .disabled old.state))).link))

/-- HEAD_BLANK empties the remaining sets of a STARTING or RUNNING head and enters BLANKED; HEAD_UNBLANK takes a BLANKED head to STARTING
and leaves a STARTING or RUNNING one; any other state is NOT_RUNNING (R133, R134). HEAD_STATE comes before HEAD_CLEAR by the model's choice
(log 17). -/
def Obligations.HeadsBlankAndUnblank : Prop :=
  ∀ (seq head : Byte) (s : State), Ready s →
    (4 ≤ head.toNat → exec (.headBlank seq head) s = .next (answered (reasonReply 0x73 seq .badValue) s)
      ∧ exec (.headUnblank seq head) s = .next (answered (reasonReply 0x74 seq .badValue) s))
    ∧ (∀ h : Fin 4, head.toNat = h.val →
      let old := s.heads[h]
      ((old.state = .starting ∨ old.state = .running) → ∃ t halves, exec (.headBlank seq head) s = .next t
        ∧ HeadChanged h (fun x => { x with state := .blanked, halves := halves, degraded := false }) s t
        ∧ (∀ half : Fin 2, halves[half] = { old.halves[half] with remaining := [] })
        ∧ HeadFrame s t ∧ SourceRefreshed s t
        ∧ t.link = (answered (okReply 0x73 seq .bare)
            (if old.degraded = true then raise (.headClear h) (raise (.headState h .blanked old.state) s)
              else raise (.headState h .blanked old.state) s)).link)
      ∧ (old.state ≠ .starting → old.state ≠ .running →
        exec (.headBlank seq head) s = .next (answered (reasonReply 0x73 seq .notRunning) s))
      ∧ (old.state = .blanked → ∃ t, exec (.headUnblank seq head) s = .next t
        ∧ HeadChanged h (fun x => { x with state := .starting }) s t ∧ HeadFrame s t ∧ SourceRefreshed s t
        ∧ t.link = (answered (okReply 0x74 seq .bare) (raise (.headState h .starting .blanked) s)).link)
      ∧ ((old.state = .starting ∨ old.state = .running) →
        exec (.headUnblank seq head) s = .next (answered (okReply 0x74 seq .bare) s))
      ∧ ((old.state = .disabled ∨ old.state = .stopping) →
        exec (.headUnblank seq head) s = .next (answered (reasonReply 0x74 seq .notRunning) s)))

/-- HEAD_APPEARANCE: an on/off field other than 0 or 1, or no such head, is BAD_VALUE; otherwise the record becomes the pending
appearance, in force at once on a DISABLED head; nothing is drawn again (R132). A DISABLED head drives nothing; STARTING, BLANKED and
STOPPING show the background; RUNNING shows the lines of the rows that were ready, from their slots while they are VALID, in the colours of
the appearance in force, with the marker over them and the whole turned by flip and mirror (R133, R143). A drawn row has its arrow in the
margin, its characters in cells by their glyphs, colours and emphasis, and background after them (R151 to R155); glyph patterns and the
pixels that the arrow's slanted edges cross are free (logs 12, 13). That the arrow's base column lies inside it is log 13's deduction, and
that the picture follows the head's present state log 32's. -/
def Obligations.HeadAppearanceIsMadePending : Prop :=
  (∀ (seq head : Byte) (f : AppearanceFields) (s : State), Ready s →
      let onOff := f.mirror.toNat ≤ 1 ∧ f.flip.toNat ≤ 1 ∧ f.marker.toNat ≤ 1 ∧ f.arrows.toNat ≤ 1
      ((4 ≤ head.toNat ∨ ¬ onOff) →
        exec (.headAppearance seq head f) s = .next (answered (reasonReply 0x75 seq .badValue) s))
      ∧ (onOff → ∀ h : Fin 4, head.toNat = h.val → ∃ (t : State) (a : Appearance),
        exec (.headAppearance seq head f) s = .next t
        ∧ ((a.mirror = true ↔ f.mirror = 1) ∧ (a.flip = true ↔ f.flip = 1) ∧ (a.marker = true ↔ f.marker = 1)
          ∧ (a.arrows = true ↔ f.arrows = 1) ∧ a.text = #v[f.text0, f.text1, f.text2, f.text3]
          ∧ a.background = f.background ∧ a.markerColour = f.markerColour)
        ∧ HeadChanged h (fun x =>
            if x.state = .disabled then { x with appearance := a, pendingAppearance := none }
            else { x with pendingAppearance := some a }) s t
        ∧ HeadFrame s t ∧ t.scroll = s.scroll ∧ t.link = (answered (okReply 0x75 seq .bare) s).link))
  ∧ (∀ (s : State) (n : Fin 4) (x i : Nat),
      let head := s.heads[n]
      let a := head.appearance
      (head.state = .disabled → (headPixel s n x i).enable = false)
      ∧ (head.state ≠ .disabled → head.state ≠ .running → headPixel s n x i = ⟨a.background, true⟩)
      ∧ (∀ f ∈ head.frame, head.state = .running → x < head.geometry.width → i < head.geometry.height →
        let pitch := 32 * head.geometry.scale + head.geometry.leading
        let col := if a.mirror = true then head.geometry.width - 1 - x else x
        let line := if a.flip = true then head.geometry.height - 1 - i else i
        let row := (f.top + (line : Int)) / (pitch : Int)
        let within := ((f.top + (line : Int)) % (pitch : Int)).toNat
        let shown := (headPixel s n x i).colour
        (headPixel s n x i).enable = true
        ∧ (let marked := a.marker = true
            ∧ (line = head.geometry.readingRow * pitch ∨ line = head.geometry.readingRow * pitch + 1)
          (marked → shown = a.markerColour)
          ∧ (¬ marked → (head.geometry.height / pitch * pitch ≤ line ∨ 32 * head.geometry.scale ≤ within
            ∨ ∀ e ∈ f.ready, e.1 ≠ row) → shown = a.background)
          ∧ (¬ marked → line < head.geometry.height / pitch * pitch → within < 32 * head.geometry.scale →
            ∀ before slot after, f.ready = before ++ (row, slot) :: after → (∀ e ∈ before, e.1 ≠ row) →
            ((∀ tag d, head.slots[slot] ≠ .valid tag d) → shown = a.background)
            ∧ (∀ tag d, head.slots[slot] = .valid tag d → shown =
              if d.margin + d.columns * 16 * d.scale ≤ col then a.background
              else match d.pixel col within with
                | .text k => a.text[k]
                | .background => a.background
                | .arrow => if a.arrows = true then a.markerColour else a.background)))))
  ∧ (∀ (d : Drawing) (x y : Nat), 1 ≤ d.scale →
      let wide := min d.margin (16 * d.scale)
      let cell := (x - d.margin) / (16 * d.scale)
      (x < d.margin → d.pixel x y =
        if d.arrow = true ∧ d.margin - wide ≤ x ∧ arrowPixel wide (32 * d.scale) (x - (d.margin - wide)) y = true then .arrow
        else .background)
      ∧ d.chars.map StyledChar.char = visibleChars d.content
      ∧ (∀ k c, d.chars[k]? = some c →
        c.style = ((((scanLine d.content).cells.take (k + 1)).flatMap Cell.codes).foldl Style.apply ⟨d.colour, d.emphasis⟩))
      ∧ (d.margin ≤ x → d.chars.length ≤ cell → d.pixel x y = .background)
      ∧ (d.margin ≤ x → ∀ c, d.chars[cell]? = some c → d.pixel x y =
        if glyphPoint c.char ((x - d.margin) % (16 * d.scale) / d.scale) (y / d.scale) = c.style.emphasis then .background
        else .text c.style.colour))
  ∧ (∀ w h y : Nat, arrowPixel w h 0 y = true
      ∧ ∀ x, 0 < x → (((x + 1) * h ≤ 2 * w * y ∧ (x + 1) * h ≤ 2 * w * (h - (y + 1))) → arrowPixel w h x y = true)
        ∧ (¬ ((x + 1) * h ≤ 2 * w * y ∧ (x + 1) * h ≤ 2 * w * (h - (y + 1))) →
          (2 * w * (y + 1) ≤ x * h ∨ 2 * w * (h - y) ≤ x * h) → arrowPixel w h x y = false))
  ∧ (∀ x y : Nat, glyphPoint 0x20 x y = false
      ∧ ∀ char : Byte, char ≠ 0x20 → (char.toNat < 0x21 ∨ 0x7E < char.toNat) →
        (glyphPoint char x y = true ↔ 1 ≤ x ∧ x ≤ 14 ∧ 1 ≤ y ∧ y ≤ 30 ∧ (x = 1 ∨ x = 14 ∨ y = 1 ∨ y = 30)))

/-- FRAME_START: a DISABLED head ignores it; any other clears sync-lost, restarts its timer and puts a pending appearance in force; a
STARTING, RUNNING or BLANKED head takes its window from the position and holds the two blocks that its direction asks for, a half that
changes block losing its slots; a VALID slot whose row has another identity becomes EMPTY; each half asks for its EMPTY slots within the
script, but in BLANKED for none, URGENT where one is visible; a STARTING head with every visible row ready becomes RUNNING; a RUNNING one is
degraded while one is not, with HEAD_DEGRADED and HEAD_CLEAR; with the render unit idle the arbiter then chooses. The head that is the frame
source gives one scroll frame (R89, R132, R136, R137, R139 to R143, R147). The owed frame is the model's (log 6), and so is that a STOPPING
head's frame start clears sync-lost (log 19). -/
def Obligations.FrameStartTakesTheWindow : Prop :=
  (∀ (s : State) (h : Fin 4), s.resetHeld = false →
      let old := s.heads[h]
      (old.state = .disabled → exec (.frameStart h) s = .next (pump s))
      ∧ (old.state ≠ .disabled → ∃ t, exec (.frameStart h) s = .next t
        ∧ (t.heads[h]).syncLost = false ∧ (t.heads[h]).syncTimer = some 0
        ∧ (t.heads[h]).appearance = old.pendingAppearance.getD old.appearance ∧ (t.heads[h]).pendingAppearance = none
        ∧ (t.heads[h]).geometry = old.geometry ∧ (t.heads[h]).bias = old.bias
        ∧ (old.state = .stopping → (t.heads[h]).state = .stopping ∧ (t.heads[h]).window = old.window
          ∧ (t.heads[h]).halves = old.halves ∧ (t.heads[h]).slots = old.slots)
        ∧ (old.state ≠ .stopping →
          let pitch : Int := 32 * old.geometry.scale + old.geometry.leading
          let top := ((s.scroll.p * (32 * old.geometry.scale + old.geometry.leading) / 1024 : Nat) : Int)
            - old.geometry.readingRow * pitch
          let w := (t.heads[h]).window
          w.topRow = top / pitch
          ∧ w.bottomRow = (top + (old.geometry.height / (32 * old.geometry.scale + old.geometry.leading) : Nat) * pitch - 1) / pitch
          ∧ w.readingRow = (s.scroll.p / 1024 : Nat) ∧ w.bias = old.bias
          ∧ (let first := if s.scroll.direction = .forward then (w.topRow - old.bias) / 16 else (w.bottomRow - old.bias) / 16 - 1
            ∀ half : Fin 2, ((t.heads[h]).halves[half]).block =
              some (if first % 2 = (half.val : Int) then first else first + 1))
          ∧ (∀ (i : Fin 32) tag pixels r, (t.heads[h]).slots[i] = .valid tag pixels → (t.heads[h]).slotRow i = some r →
            0 ≤ r → r < s.rows → rowIdentity s.store.stories s.layout.generation r.toNat = some tag)
          ∧ (old.state = .blanked → (t.heads[h]).state = .blanked
            ∧ ∀ half : Fin 2, ((t.heads[h]).halves[half]).remaining = [])
          ∧ (old.state = .running → (t.heads[h]).state = .running)
          ∧ (old.state = .starting → (t.heads[h]).state = .starting ∨ (t.heads[h]).state = .running))
        ∧ t.scroll.framesOwed = (if old.syncLost = false ∧ s.scroll.inUse = .head h then s.scroll.framesOwed + 1
            else if old.syncLost = true ∧ t.scroll.inUse = .head h then s.scroll.framesOwed + 1 else s.scroll.framesOwed)
        ∧ t.scroll.p = s.scroll.p ∧ t.scroll.v = s.scroll.v ∧ t.scroll.state = s.scroll.state
        ∧ (t.pending = s.pending ∧ t.store = s.store ∧ t.edit = s.edit ∧ t.layout = s.layout ∧ t.hub = s.hub ∧ t.cues = s.cues
          ∧ t.link.replies = s.link.replies)))
  ∧ (∀ (s : State) (h : Fin 4), s.resetHeld = false → s.job ≠ none →
      ((s.heads[h]).state = .starting ∨ (s.heads[h]).state = .running ∨ (s.heads[h]).state = .blanked) →
      let old := s.heads[h]
      ∃ t, exec (.frameStart h) s = .next t ∧ t.job = s.job ∧ (∀ g : Fin 4, g ≠ h → t.heads[g] = s.heads[g])
      ∧ (let new := t.heads[h]
        let synced := if old.syncLost = true then raise (.syncState h true) s else s
        let visible := fun r : Int => new.window.topRow ≤ r ∧ r ≤ new.window.bottomRow ∧ 0 ≤ r ∧ r < s.rows
        let identity := fun r : Int => if 0 ≤ r ∧ r < s.rows then rowIdentity s.store.stories s.layout.generation r.toNat else none
        let ready := fun r : Int => ∃ tag pixels, identity r = some tag
          ∧ new.slots[Fin.ofNat 32 ((r - old.bias) % 32).toNat] = .valid tag pixels
        (∀ (half : Fin 2) (block : Int), (new.halves[half]).block = some block →
          let row := fun i : Fin 32 => 16 * block + ((i.val : Int) - 16 * (half.val : Int)) + old.bias
          let own := fun i : Fin 32 => i.val / 16 = half.val
          (∀ i, own i →
            let kept := if (old.halves[half]).block = some block then old.slots[i] else .empty
            new.slots[i] = (match kept with
              | .valid tag pixels => if identity (row i) = none ∨ identity (row i) = some tag then .valid tag pixels else .empty
              | .rendering tag => .rendering tag
              | .empty => .empty))
          ∧ (∀ i, i ∈ (new.halves[half]).remaining ↔
            own i ∧ old.state ≠ .blanked ∧ identity (row i) ≠ none ∧ new.slots[i] = .empty)
          ∧ (new.halves[half]).remaining.Nodup
          ∧ ((new.halves[half]).urgent = true ↔ ∃ i ∈ (new.halves[half]).remaining, visible (row i)))
        ∧ (old.state = .starting → (∀ r, visible r → ready r) → new.state = .running ∧ new.degraded = old.degraded
          ∧ t.link = (pump (raise (.headState h .running .starting) synced)).link)
        ∧ (old.state = .starting → (∃ r, visible r ∧ ¬ ready r) → new.state = .starting ∧ new.degraded = old.degraded
          ∧ new.frame = none ∧ t.link = (pump synced).link)
        ∧ (old.state = .blanked → new.degraded = old.degraded ∧ new.frame = none ∧ t.link = (pump synced).link)
        ∧ (old.state = .running → (∀ r, visible r → ready r) → new.degraded = false
          ∧ t.link = (pump (if old.degraded = true then raise (.headClear h) synced else synced)).link)
        ∧ (∀ rows : List Int, old.state = .running → rows.Nodup → (∀ r, r ∈ rows ↔ visible r ∧ ¬ ready r) → rows ≠ [] →
          new.degraded = true
          ∧ t.link = (pump (if old.degraded = true then synced else raise (.headDegraded h rows.length) synced)).link)
        ∧ (new.state = .running → ∃ f ∈ new.frame,
          f.top = ((s.scroll.p * (32 * old.geometry.scale + old.geometry.leading) / 1024 : Nat) : Int)
            - old.geometry.readingRow * (32 * old.geometry.scale + old.geometry.leading : Nat)
          ∧ ∀ r slot, (r, slot) ∈ f.ready ↔ visible r ∧ ready r ∧ slot = Fin.ofNat 32 ((r - old.bias) % 32).toNat)))
  ∧ (∀ (s t : State) (h : Fin 4) (j : Job), s.resetHeld = false → s.job = none → (s.heads[h]).state ≠ .stopping →
      exec (.frameStart h) { s with job := some j } = .next t →
      exec (.frameStart h) s =
        .next (if ∃ half : Fin 2, ((t.heads[h]).halves[half]).remaining ≠ [] ∧ (s.heads[h]).state ≠ .disabled then
          chooseNext { t with job := none } else { t with job := none }))

/-- RENDER_COMPLETE: a slot that still waits in a STARTING, RUNNING or BLANKED head becomes VALID with the job's tag and pixels; a slot
that does not is left; a STOPPING head enters DISABLED; then the arbiter chooses. With no half asking the unit is IDLE. Otherwise the
request comes first that is URGENT with fewest visible slots left, then URGENT, then AHEAD, then by head and half; in it the visible slot
nearest the reading row, the upper first, or else the lowest row; and the slot leaves its set. Where its row has left the script the arbiter
chooses again; otherwise the slot is RENDERING, and the job holds the row's tag, bytes, style and arrow and the head's cell (R135, R146 to
R150, R156). With no job, or one of a DISABLED head, the row does no more (log 37). That a head entering DISABLED puts its pending
appearance in force is log 18's deduction, and that HEAD_STATE comes before HEAD_CLEAR log 17's choice. -/
def Obligations.RenderedRowsAreStoredOrDiscarded : Prop :=
  (∀ s : State, s.resetHeld = false →
      (s.job = none → exec .renderComplete s = .next (pump s))
      ∧ (∀ j ∈ s.job, (∀ (h : Fin 4) (half : Fin 2), ((s.heads[h]).halves[half]).remaining = []) →
        let old := s.heads[j.head]
        ((old.state = .starting ∨ old.state = .running ∨ old.state = .blanked) → ∃ heads : Vector Head 4,
          exec .renderComplete s = .next (pump { s with heads := heads, job := none })
          ∧ (∀ h : Fin 4, h ≠ j.head → heads[h] = s.heads[h])
          ∧ ∃ slots : Vector Slot 32, heads[j.head] = { old with slots := slots }
            ∧ ∀ i : Fin 32, slots[i] = if i = j.slot ∧ (old.slots[i]).isRendering = true then .valid j.tag j.drawing
                else old.slots[i])
        ∧ (old.state = .disabled → exec .renderComplete s = .next (pump { s with job := none }))
        ∧ (old.state = .stopping → ∃ t, exec .renderComplete s = .next t ∧ t.job = none
          ∧ (t.heads[j.head]).state = .disabled ∧ (∀ i : Fin 32, (t.heads[j.head]).slots[i] = .empty)
          ∧ (∀ h : Fin 4, h ≠ j.head → t.heads[h] = s.heads[h])
          ∧ (t.store = s.store ∧ t.edit = s.edit ∧ t.layout = s.layout ∧ t.hub = s.hub ∧ t.cues = s.cues))))
  ∧ (∀ s : State, s.resetHeld = false → ∀ j ∈ s.job,
      let old := s.heads[j.head]
      ((old.state = .starting ∨ old.state = .running ∨ old.state = .blanked) → ∃ heads : Vector Head 4,
        exec .renderComplete s = .next (pump (chooseNext { s with heads := heads, job := none }))
        ∧ (∀ h : Fin 4, h ≠ j.head → heads[h] = s.heads[h])
        ∧ ∃ slots : Vector Slot 32, heads[j.head] = { old with slots := slots }
          ∧ ∀ i : Fin 32, slots[i] = if i = j.slot ∧ (old.slots[i]).isRendering = true then .valid j.tag j.drawing
              else old.slots[i])
      ∧ (old.state = .disabled → exec .renderComplete s = .next (pump (chooseNext { s with job := none })))
      ∧ (old.state = .stopping → ∃ u, exec .renderComplete s = .next (pump (chooseNext u)) ∧ u.job = none
        ∧ HeadChanged j.head (fun x =>
            { x with
              state := .disabled, halves := Vector.replicate 2 ⟨none, [], false⟩, slots := Vector.replicate 32 .empty
              degraded := false, syncLost := false, syncTimer := none, frame := none
              appearance := x.pendingAppearance.getD x.appearance, pendingAppearance := none }) s u
        ∧ SourceRefreshed s u
        ∧ (u.pending = s.pending ∧ u.store = s.store ∧ u.edit = s.edit ∧ u.layout = s.layout ∧ u.hub = s.hub ∧ u.cues = s.cues)
        ∧ u.link = (if old.degraded = true then raise (.headClear j.head) (raise (.headState j.head .disabled .stopping) s)
            else raise (.headState j.head .disabled .stopping) s).link))
  ∧ (∀ s : State,
      ((∀ (h : Fin 4) (half : Fin 2), ((s.heads[h]).halves[half]).remaining = []) → chooseNext s = { s with job := none })
      ∧ ((∃ (h : Fin 4) (half : Fin 2), ((s.heads[h]).halves[half]).remaining ≠ []) →
        (∀ (h : Fin 4) (half : Fin 2), ∀ i ∈ ((s.heads[h]).halves[half]).remaining,
          halfOf i = half ∧ (s.heads[h]).slotRow i ≠ none) →
        ∃ (h : Fin 4) (half : Fin 2) (slot : Fin 32) (row : Int),
          let head := s.heads[h]
          let left := (head.halves[half]).remaining
          slot ∈ left ∧ head.slotRow slot = some row
          ∧ (∀ (g : Fin 4) (k : Fin 2), ((s.heads[g]).halves[k]).remaining ≠ [] →
            ¬ requestKey s g k < requestKey s h half)
          ∧ (∀ i ∈ left, (s.inView h i = true → s.inView h slot = true)
            ∧ (s.inView h i = s.inView h slot → ¬ slotKey s h i < slotKey s h slot))
          ∧ ∃ halves : Vector BandHalf 2,
            (∀ k : Fin 2, halves[k] = if k = half then
              { head.halves[k] with remaining := left.filter fun i => i ≠ slot } else head.halves[k])
            ∧ ((row < 0 ∨ (s.rows : Int) ≤ row) → ∃ heads : Vector Head 4,
              chooseNext s = chooseNext { s with heads := heads }
              ∧ (∀ g : Fin 4, g ≠ h → heads[g] = s.heads[g]) ∧ heads[h] = { head with halves := halves })
            ∧ (0 ≤ row → row < s.rows →
              ∃ (j : Job) (answer : RowAnswer) (heads : Vector Head 4) (slots : Vector Slot 32),
                chooseNext s = { s with heads := heads, job := some j }
                ∧ j.head = h ∧ j.slot = slot ∧ (j.row : Int) = row
                ∧ rowAnswer s.store.stories s.layout j.row = some answer ∧ j.tag = answer.identity
                ∧ (∃ st ∈ s.store.stories, st.id = answer.identity.story ∧ st.revision = answer.identity.revision
                  ∧ j.drawing =
                    { content := rowBytes s.layout.columns st answer.identity.row, slugRow := answer.line.isNone
                      colour := answer.style.colour, emphasis := answer.style.emphasis, scale := head.geometry.scale
                      margin := head.geometry.margin, columns := s.layout.columns
                      arrow := decide (∃ m ∈ s.layout.marks, m.position = j.row * 1024) })
                ∧ (∀ g : Fin 4, g ≠ h → heads[g] = s.heads[g])
                ∧ heads[h] = { head with halves := halves, slots := slots }
                ∧ (∀ i : Fin 32, slots[i] = if i = slot then .rendering j.tag else head.slots[i]))))

/-! ## Control ports and authority -/

/-- CONTROLLER_REPORT with the bytes of a valid report, on a port that hunts: an OFF port ignores it; on an EMPTY or STALE port it is a
first report, a baseline that sets must-rest unless it is at rest, neither presses a key nor takes authority, and raises PORT_STATE. On a
LIVE port a report of another kind makes the port STALE, with the release of a hold, and is then its first report (R94 to R97, R99, R100,
R111, R172). The kind the notice carries is the report's (log 20). -/
def Obligations.FirstReportIsABaseline : Prop :=
  ∀ (n : Fin 6) (r : ControlReport) (s : State), s.resetHeld = false → AuthorityInv s → (r.kind = .keypad → r.raw = 0) →
    (s.hub.ports[n]).receiver = .hunting →
    let old := s.hub.ports[n]
    let value := valueGiven r old.reverse
    let rest : Prop := match value with
      | .deflection _ m => m ≤ old.dead
      | .detents c => c = 0
      | .none => True
    (old.state = .off → exec (.controllerReport n (reportFrame r)) s = .next (pump s))
    ∧ ((old.state = .empty ∨ old.state = .stale) → ∃ (ports : Vector Port 6) (x : Port),
      exec (.controllerReport n (reportFrame r)) s =
        .next (pump (raise (.portState n .live old.state (some r.kind)) { s with hub := { s.hub with ports := ports } }))
      ∧ (∀ m : Fin 6, ports[m] = if m = n then x else s.hub.ports[m])
      ∧ x = { old with
          state := .live, kind := some r.kind, value := value, keys := r.keys, timer := some 0, armedTimeout := old.timeout
          mustRest := x.mustRest, refused := x.refused }
      ∧ (rest → x.mustRest = false ∧ x.refused = false) ∧ (¬ rest → x.mustRest = true ∧ x.refused = old.refused))
    ∧ (old.state = .live → old.kind ≠ some r.kind → ∃ (ports : Vector Port 6) (x : Port),
      let lost := controlLost n (raise (.portState n .stale .live old.kind) s)
      exec (.controllerReport n (reportFrame r)) s =
        .next (pump (raise (.portState n .live .stale (some r.kind)) { lost with hub := { lost.hub with ports := ports } }))
      ∧ (∀ m : Fin 6, ports[m] = if m = n then x else s.hub.ports[m])
      ∧ x = { old with
          state := .live, kind := some r.kind, value := value, keys := r.keys, timer := some 0, armedTimeout := old.timeout
          mustRest := x.mustRest, refused := false }
      ∧ (x.mustRest = true ↔ ¬ rest))

/-- CONTROLLER_REPORT of a lever, pedal or wheel on a LIVE port of its kind: rest clears both flags, the keys newly down act (as the
statements of the keys give), and only then is the rest judged, from the state they leave. A deflected lever or pedal that does not hold
requests authority, with must-rest and refused clear: permitted, it takes it, displaces the holder with must-rest, and sets MANUAL, but in
IDLE; refused, it sets refused and raises CONTENTION; else there is none. The holder's own report starts, keeps or stops the release timer. A
wheel's detents are a request at each report: permitted, they take or keep authority, start the release timer, change the cruise speed and
set CRUISE, but in IDLE; a key newly down keeps a wheel from rest. STOP on the holder's deflected lever ends the hold, with no request (R84,
R96, R100, R101, R103 to R110). In MANUAL the wheel's change is from the current velocity (log 21), and a wheel is not released within
its own report (log 22). -/
def Obligations.DeflectedLeversRequestAuthority : Prop :=
  (∀ (n : Fin 6) (r : ControlReport) (m : Nat) (negative : Bool) (s : State), s.resetHeld = false →
    let old := s.hub.ports[n]
    let pressed := r.keys &&& ~~~old.keys
    old.receiver = .hunting → (r.kind = .lever ∨ r.kind = .pedal) → old.state = .live → old.kind = some r.kind →
    valueGiven r old.reverse = .deflection negative m →
    ∃ u k : State,
      (∃ ports : Vector Port 6, u = { s with hub := { s.hub with ports := ports } }
        ∧ ∀ i : Fin 6, ports[i] = if i = n then
            { old with
              value := .deflection negative m, keys := r.keys, timer := some 0, armedTimeout := old.timeout
              mustRest := if m ≤ old.dead then false else old.mustRest
              refused := if m ≤ old.dead then false else old.refused }
          else s.hub.ports[i])
      ∧ k = runKeys n pressed u ∧ (pressed &&& 0x0FF = 0 → k = u)
      ∧ (let kept := k.hub.ports[n]
        (∀ h ∈ k.hub.holder, h.port ≠ n) →
        (m ≤ old.dead → exec (.controllerReport n (reportFrame r)) s = .next (pump k))
        ∧ (old.dead < m → (kept.mustRest = true ∨ kept.refused = true) →
          exec (.controllerReport n (reportFrame r)) s = .next (pump k))
        ∧ (old.dead < m → kept.mustRest = false → kept.refused = false → Permitted old.role k → ∃ ports : Vector Port 6,
          exec (.controllerReport n (reportFrame r)) s =
            .next (pump ((fun t => if k.scroll.state = .idle then t else stateChanged .manual (.port n) t)
              (raise (.authority (some ⟨n, old.role, r.kind⟩) (k.hub.holder.map Holder.port) .taken)
                { k with hub :=
                    { k.hub with ports := ports, holder := some ⟨n, old.role, r.kind⟩, releaseTimer := none } })))
          ∧ ∀ i : Fin 6, ports[i] = if ∃ h ∈ k.hub.holder, h.port = i then { k.hub.ports[i] with mustRest := true }
              else k.hub.ports[i])
        ∧ (old.dead < m → kept.mustRest = false → kept.refused = false → ¬ Permitted old.role k →
          ∀ h ∈ k.hub.holder, ∃ ports : Vector Port 6,
          exec (.controllerReport n (reportFrame r)) s =
            .next (pump (raise (.contention n old.role h) { k with hub := { k.hub with ports := ports } }))
          ∧ ∀ i : Fin 6, ports[i] = if i = n then { k.hub.ports[i] with refused := true } else k.hub.ports[i]))
      ∧ (∀ h ∈ k.hub.holder, h.port = n → h.kind ≠ .wheel →
        let timed := fun timer => { k with hub := { k.hub with releaseTimer := timer } }
        (old.dead < m → exec (.controllerReport n (reportFrame r)) s = .next (pump (timed none)))
        ∧ (m ≤ old.dead → k.hub.releaseTimer ≠ none → exec (.controllerReport n (reportFrame r)) s = .next (pump k))
        ∧ (m ≤ old.dead → k.hub.releaseTimer = none → 0 < k.hub.releaseDelay →
          exec (.controllerReport n (reportFrame r)) s = .next (pump (timed (some 0))))
        ∧ (m ≤ old.dead → k.hub.releaseTimer = none → k.hub.releaseDelay = 0 →
          exec (.controllerReport n (reportFrame r)) s =
            .next (pump ((fun t => if k.scroll.state = .manual then stateChanged .stopped (.port n) t else t)
              (raise (.authority none (some n) .released) { k with hub := { k.hub with holder := none } })))))
      ∧ (∀ h ∈ s.hub.holder, h.port = n → h.role = old.role → old.dead < m → pressed = onlyKey 0 →
        exec (.controllerReport n (reportFrame r)) s =
          .next (pump ((fun t => if s.scroll.state = .idle then t else stateChanged .stopped (.port n) t)
            (holdEnded .stopped u)))))
  ∧ (∀ (n : Fin 6) (r : ControlReport) (s : State), s.resetHeld = false →
    let old := s.hub.ports[n]
    let pressed := r.keys &&& ~~~old.keys
    let count := r.raw.toInt
    old.receiver = .hunting → r.kind = .wheel → old.state = .live → old.kind = some .wheel →
    (∀ h ∈ s.hub.holder, h.port = n → h.kind = .wheel ∧ h.role = old.role) →
    ∃ u k : State,
      (∃ ports : Vector Port 6, u = { s with hub := { s.hub with ports := ports } }
        ∧ ∀ i : Fin 6, ports[i] = if i = n then
            { old with
              value := .detents count, keys := r.keys, timer := some 0, armedTimeout := old.timeout
              mustRest := if count = 0 ∧ pressed &&& 0x0FF = 0 then false else old.mustRest
              refused := if count = 0 ∧ pressed &&& 0x0FF = 0 then false else old.refused }
          else s.hub.ports[i])
      ∧ k = runKeys n pressed u ∧ (pressed &&& 0x0FF = 0 → k = u)
      ∧ (count = 0 → exec (.controllerReport n (reportFrame r)) s = .next (pump k))
      ∧ (count ≠ 0 → Permitted old.role k →
        let turned := fun t : State =>
          let x := { t with scroll :=
            { t.scroll with cruise := cruiseTrimmed n (max (-16) (min 15 count) * old.step) k } }
          if k.scroll.state = .idle then x else stateChanged .cruise (.port n) x
        ((∃ h ∈ k.hub.holder, h.port = n) →
          exec (.controllerReport n (reportFrame r)) s =
            .next (pump (turned { k with hub := { k.hub with releaseTimer := some 0 } })))
        ∧ ((∀ h ∈ k.hub.holder, h.port ≠ n) → ∃ ports : Vector Port 6,
          exec (.controllerReport n (reportFrame r)) s =
            .next (pump (turned (raise (.authority (some ⟨n, old.role, .wheel⟩) (k.hub.holder.map Holder.port) .taken)
              { k with hub :=
                  { k.hub with ports := ports, holder := some ⟨n, old.role, .wheel⟩, releaseTimer := some 0 } })))
          ∧ ∀ i : Fin 6, ports[i] = if ∃ h ∈ k.hub.holder, h.port = i then { k.hub.ports[i] with mustRest := true }
              else k.hub.ports[i]))
      ∧ (count ≠ 0 → ¬ Permitted old.role k → ∀ h ∈ k.hub.holder,
        ((k.hub.ports[n]).refused = true → exec (.controllerReport n (reportFrame r)) s = .next (pump k))
        ∧ ((k.hub.ports[n]).refused = false → ∃ ports : Vector Port 6,
          exec (.controllerReport n (reportFrame r)) s =
            .next (pump (raise (.contention n old.role h) { k with hub := { k.hub with ports := ports } }))
          ∧ ∀ i : Fin 6, ports[i] = if i = n then { k.hub.ports[i] with refused := true } else k.hub.ports[i])))

/-- REPORT_TIMEOUT of a LIVE port makes it STALE with refused clear; a holder's port loses authority, and a MANUAL or CRUISE scroll stops,
its velocity kept for the braking; the notices come in the order PORT_STATE, AUTHORITY, SCROLL_STATE. RELEASE_TIMER_EXPIRY with the timer
running releases the holder; a lever's or pedal's MANUAL becomes STOPPED, a wheel's scroll goes on. Where there is nothing to expire
nothing happens (R85, R97, R98, R103, R109 to R111). That a row with nothing to expire does nothing is the model's deduction (log 37), and
that the rows act whatever their timers count its choice (log 3). -/
def Obligations.SilenceAndRestEndTheHold : Prop :=
  (∀ (n : Fin 6) (s : State), s.resetHeld = false →
      ((s.hub.ports[n]).state ≠ .live → exec (.reportTimeout n) s = .next (pump s))
      ∧ ((s.hub.ports[n]).state = .live → ∃ ports : Vector Port 6,
        (∀ i : Fin 6, ports[i] = if i = n then { s.hub.ports[i] with state := .stale, timer := none, refused := false }
          else s.hub.ports[i])
        ∧ (let u := raise (.portState n .stale .live (s.hub.ports[n]).kind) { s with hub := { s.hub with ports := ports } }
          ((∀ h ∈ s.hub.holder, h.port ≠ n) → exec (.reportTimeout n) s = .next (pump u))
          ∧ ((∃ h ∈ s.hub.holder, h.port = n) →
            exec (.reportTimeout n) s =
              .next (pump ((fun t =>
                  if s.scroll.state = .manual ∨ s.scroll.state = .cruise then stateChanged .stopped .controlLost t else t)
                (raise (.authority none (some n) .controlLost)
                  { u with hub := { u.hub with holder := none, releaseTimer := none } })))))))
  ∧ (∀ s : State, s.resetHeld = false →
      ((s.hub.releaseTimer = none ∨ s.hub.holder = none) → exec .releaseTimerExpiry s = .next (pump s))
      ∧ (∀ h ∈ s.hub.holder, s.hub.releaseTimer ≠ none →
        exec .releaseTimerExpiry s =
          .next (pump ((fun t =>
              if h.kind ≠ .wheel ∧ s.scroll.state = .manual then stateChanged .stopped (.port h.port) t else t)
            (raise (.authority none (some h.port) .released)
              { s with hub := { s.hub with holder := none, releaseTimer := none } })))))

/-! ## Invariants -/

/-- After a full reset every invariant holds. -/
def Obligations.ResetMeetsTheInvariants : Prop :=
  LinkInv State.reset ∧ PoolInv State.reset ∧ TextInv State.reset ∧ PositionInv State.reset ∧ AuthorityInv State.reset
    ∧ BandInv State.reset ∧ MotionInv State.reset ∧ OutputInv State.reset

/-- Free line slots and those in stories, open loads and pending edits number 4,096 together after every step from a state in which they
do, with the ids of the rundown and of what is arriving distinct, each story's pending count the number of pending edits that name it, each
mark count the marks of its lines, at most 256 of them in the engine, and every slug of at most 24 characters (R1, R11, R12, R15, R16, R22,
R25, R37, R38). -/
def Obligations.EveryStepKeepsTheLinePool : Prop :=
  ∀ s t : State, PoolInv s → TextInv s → RundownInv s → step s = .next t → PoolInv t ∧ TextInv t ∧ RundownInv t

/-- The position stays within 0..L × 1024, the directory stays that of the rundown at the column count in force, and the mark list holds
records for exactly the marks of the stories with rows, after every step from a state in which they hold (R51, R52, R63, R64, R67). -/
def Obligations.EveryStepKeepsThePositionInTheScript : Prop :=
  ∀ s t : State, PositionInv s → step s = .next t → PositionInv t

/-- A port that holds authority is LIVE, with its role and kind in the authority record, and MANUAL is the state of a lever's or pedal's
hold, after every step from a state in which they hold (R70, R103). -/
def Obligations.EveryStepKeepsTheAuthorityRecord : Prop :=
  ∀ s t : State, AuthorityInv s → step s = .next t → AuthorityInv t

/-- The bands keep their order after every step from a state in which it holds: no two halves hold one block, a slot that is asked for is
EMPTY, and only the job's slot is RENDERING (R137, R147, R156). -/
def Obligations.EveryStepKeepsTheBands : Prop :=
  ∀ s t : State, BandInv s → step s = .next t → BandInv t
end

