-- ==== Sys2Proof/Laws/State.lean ====
section
/-! SUPPORT. Laws/State.lean: one lemma for each field after each named update of State, each true by computation. An update
of a record is rewritten by these and never unfolded in a later proof. -/

namespace Sys2Proof.Machine

/-! ### modPort -/

@[simp] theorem modPort_pending (s : State) (n : Fin 6) (f : Port → Port) : (s.modPort n f).pending = s.pending := rfl
@[simp] theorem modPort_link (s : State) (n : Fin 6) (f : Port → Port) : (s.modPort n f).link = s.link := rfl
@[simp] theorem modPort_store (s : State) (n : Fin 6) (f : Port → Port) : (s.modPort n f).store = s.store := rfl
@[simp] theorem modPort_edit (s : State) (n : Fin 6) (f : Port → Port) : (s.modPort n f).edit = s.edit := rfl
@[simp] theorem modPort_layout (s : State) (n : Fin 6) (f : Port → Port) : (s.modPort n f).layout = s.layout := rfl
@[simp] theorem modPort_scroll (s : State) (n : Fin 6) (f : Port → Port) : (s.modPort n f).scroll = s.scroll := rfl
@[simp] theorem modPort_hub_ports (s : State) (n : Fin 6) (f : Port → Port) :
    (s.modPort n f).hub.ports = upd s.hub.ports n f := rfl
@[simp] theorem modPort_hub_holder (s : State) (n : Fin 6) (f : Port → Port) :
    (s.modPort n f).hub.holder = s.hub.holder := rfl
@[simp] theorem modPort_hub_releaseTimer (s : State) (n : Fin 6) (f : Port → Port) :
    (s.modPort n f).hub.releaseTimer = s.hub.releaseTimer := rfl
@[simp] theorem modPort_hub_releaseDelay (s : State) (n : Fin 6) (f : Port → Port) :
    (s.modPort n f).hub.releaseDelay = s.hub.releaseDelay := rfl
@[simp] theorem modPort_hub_priority (s : State) (n : Fin 6) (f : Port → Port) :
    (s.modPort n f).hub.priority = s.hub.priority := rfl
@[simp] theorem modPort_cues (s : State) (n : Fin 6) (f : Port → Port) : (s.modPort n f).cues = s.cues := rfl
@[simp] theorem modPort_heads (s : State) (n : Fin 6) (f : Port → Port) : (s.modPort n f).heads = s.heads := rfl
@[simp] theorem modPort_job (s : State) (n : Fin 6) (f : Port → Port) : (s.modPort n f).job = s.job := rfl
@[simp] theorem modPort_resetHeld (s : State) (n : Fin 6) (f : Port → Port) : (s.modPort n f).resetHeld = s.resetHeld := rfl
@[simp] theorem modPort_fresh (s : State) (n : Fin 6) (f : Port → Port) : (s.modPort n f).fresh = s.fresh := rfl

/-! ### modHead -/

@[simp] theorem modHead_pending (s : State) (h : Fin 4) (f : Head → Head) : (s.modHead h f).pending = s.pending := rfl
@[simp] theorem modHead_link (s : State) (h : Fin 4) (f : Head → Head) : (s.modHead h f).link = s.link := rfl
@[simp] theorem modHead_store (s : State) (h : Fin 4) (f : Head → Head) : (s.modHead h f).store = s.store := rfl
@[simp] theorem modHead_edit (s : State) (h : Fin 4) (f : Head → Head) : (s.modHead h f).edit = s.edit := rfl
@[simp] theorem modHead_layout (s : State) (h : Fin 4) (f : Head → Head) : (s.modHead h f).layout = s.layout := rfl
@[simp] theorem modHead_scroll (s : State) (h : Fin 4) (f : Head → Head) : (s.modHead h f).scroll = s.scroll := rfl
@[simp] theorem modHead_hub (s : State) (h : Fin 4) (f : Head → Head) : (s.modHead h f).hub = s.hub := rfl
@[simp] theorem modHead_cues (s : State) (h : Fin 4) (f : Head → Head) : (s.modHead h f).cues = s.cues := rfl
@[simp] theorem modHead_heads (s : State) (h : Fin 4) (f : Head → Head) : (s.modHead h f).heads = upd s.heads h f := rfl
@[simp] theorem modHead_job (s : State) (h : Fin 4) (f : Head → Head) : (s.modHead h f).job = s.job := rfl
@[simp] theorem modHead_resetHeld (s : State) (h : Fin 4) (f : Head → Head) : (s.modHead h f).resetHeld = s.resetHeld := rfl
@[simp] theorem modHead_fresh (s : State) (h : Fin 4) (f : Head → Head) : (s.modHead h f).fresh = s.fresh := rfl

/-! ### modLine -/

@[simp] theorem modLine_pending (s : State) (l : Fin 8) (f : CueLine → CueLine) : (s.modLine l f).pending = s.pending := rfl
@[simp] theorem modLine_link (s : State) (l : Fin 8) (f : CueLine → CueLine) : (s.modLine l f).link = s.link := rfl
@[simp] theorem modLine_store (s : State) (l : Fin 8) (f : CueLine → CueLine) : (s.modLine l f).store = s.store := rfl
@[simp] theorem modLine_edit (s : State) (l : Fin 8) (f : CueLine → CueLine) : (s.modLine l f).edit = s.edit := rfl
@[simp] theorem modLine_layout (s : State) (l : Fin 8) (f : CueLine → CueLine) : (s.modLine l f).layout = s.layout := rfl
@[simp] theorem modLine_scroll (s : State) (l : Fin 8) (f : CueLine → CueLine) : (s.modLine l f).scroll = s.scroll := rfl
@[simp] theorem modLine_hub (s : State) (l : Fin 8) (f : CueLine → CueLine) : (s.modLine l f).hub = s.hub := rfl
@[simp] theorem modLine_cues_defs (s : State) (l : Fin 8) (f : CueLine → CueLine) :
    (s.modLine l f).cues.defs = s.cues.defs := rfl
@[simp] theorem modLine_cues_lines (s : State) (l : Fin 8) (f : CueLine → CueLine) :
    (s.modLine l f).cues.lines = upd s.cues.lines l f := rfl
@[simp] theorem modLine_heads (s : State) (l : Fin 8) (f : CueLine → CueLine) : (s.modLine l f).heads = s.heads := rfl
@[simp] theorem modLine_job (s : State) (l : Fin 8) (f : CueLine → CueLine) : (s.modLine l f).job = s.job := rfl
@[simp] theorem modLine_resetHeld (s : State) (l : Fin 8) (f : CueLine → CueLine) : (s.modLine l f).resetHeld = s.resetHeld := rfl
@[simp] theorem modLine_fresh (s : State) (l : Fin 8) (f : CueLine → CueLine) : (s.modLine l f).fresh = s.fresh := rfl

/-! ### setMarks -/

@[simp] theorem setMarks_pending (s : State) (m : List MarkRecord) : (s.setMarks m).pending = s.pending := rfl
@[simp] theorem setMarks_link (s : State) (m : List MarkRecord) : (s.setMarks m).link = s.link := rfl
@[simp] theorem setMarks_store (s : State) (m : List MarkRecord) : (s.setMarks m).store = s.store := rfl
@[simp] theorem setMarks_edit (s : State) (m : List MarkRecord) : (s.setMarks m).edit = s.edit := rfl
@[simp] theorem setMarks_layout_columns (s : State) (m : List MarkRecord) :
    (s.setMarks m).layout.columns = s.layout.columns := rfl
@[simp] theorem setMarks_layout_target (s : State) (m : List MarkRecord) :
    (s.setMarks m).layout.target = s.layout.target := rfl
@[simp] theorem setMarks_layout_generation (s : State) (m : List MarkRecord) :
    (s.setMarks m).layout.generation = s.layout.generation := rfl
@[simp] theorem setMarks_layout_marks (s : State) (m : List MarkRecord) : (s.setMarks m).layout.marks = m := rfl
@[simp] theorem setMarks_scroll (s : State) (m : List MarkRecord) : (s.setMarks m).scroll = s.scroll := rfl
@[simp] theorem setMarks_hub (s : State) (m : List MarkRecord) : (s.setMarks m).hub = s.hub := rfl
@[simp] theorem setMarks_cues (s : State) (m : List MarkRecord) : (s.setMarks m).cues = s.cues := rfl
@[simp] theorem setMarks_heads (s : State) (m : List MarkRecord) : (s.setMarks m).heads = s.heads := rfl
@[simp] theorem setMarks_job (s : State) (m : List MarkRecord) : (s.setMarks m).job = s.job := rfl
@[simp] theorem setMarks_resetHeld (s : State) (m : List MarkRecord) : (s.setMarks m).resetHeld = s.resetHeld := rfl
@[simp] theorem setMarks_fresh (s : State) (m : List MarkRecord) : (s.setMarks m).fresh = s.fresh := rfl

/-! ### setMotion -/

@[simp] theorem setMotion_pending (s : State) (p : Nat) (v : Int) : (s.setMotion p v).pending = s.pending := rfl
@[simp] theorem setMotion_link (s : State) (p : Nat) (v : Int) : (s.setMotion p v).link = s.link := rfl
@[simp] theorem setMotion_store (s : State) (p : Nat) (v : Int) : (s.setMotion p v).store = s.store := rfl
@[simp] theorem setMotion_edit (s : State) (p : Nat) (v : Int) : (s.setMotion p v).edit = s.edit := rfl
@[simp] theorem setMotion_layout (s : State) (p : Nat) (v : Int) : (s.setMotion p v).layout = s.layout := rfl
@[simp] theorem setMotion_scroll_p (s : State) (p : Nat) (v : Int) : (s.setMotion p v).scroll.p = p := rfl
@[simp] theorem setMotion_scroll_v (s : State) (p : Nat) (v : Int) : (s.setMotion p v).scroll.v = v := rfl
@[simp] theorem setMotion_scroll_direction (s : State) (p : Nat) (v : Int) :
    (s.setMotion p v).scroll.direction = s.scroll.direction := rfl
@[simp] theorem setMotion_scroll_cruise (s : State) (p : Nat) (v : Int) :
    (s.setMotion p v).scroll.cruise = s.scroll.cruise := rfl
@[simp] theorem setMotion_scroll_state (s : State) (p : Nat) (v : Int) :
    (s.setMotion p v).scroll.state = s.scroll.state := rfl
@[simp] theorem setMotion_scroll_lastDemand (s : State) (p : Nat) (v : Int) :
    (s.setMotion p v).scroll.lastDemand = s.scroll.lastDemand := rfl
@[simp] theorem setMotion_scroll_vmax (s : State) (p : Nat) (v : Int) : (s.setMotion p v).scroll.vmax = s.scroll.vmax := rfl
@[simp] theorem setMotion_scroll_accel (s : State) (p : Nat) (v : Int) :
    (s.setMotion p v).scroll.accel = s.scroll.accel := rfl
@[simp] theorem setMotion_scroll_brake (s : State) (p : Nat) (v : Int) :
    (s.setMotion p v).scroll.brake = s.scroll.brake := rfl
@[simp] theorem setMotion_scroll_keyStep (s : State) (p : Nat) (v : Int) :
    (s.setMotion p v).scroll.keyStep = s.scroll.keyStep := rfl
@[simp] theorem setMotion_scroll_curve (s : State) (p : Nat) (v : Int) :
    (s.setMotion p v).scroll.curve = s.scroll.curve := rfl
@[simp] theorem setMotion_scroll_setting (s : State) (p : Nat) (v : Int) :
    (s.setMotion p v).scroll.setting = s.scroll.setting := rfl
@[simp] theorem setMotion_scroll_inUse (s : State) (p : Nat) (v : Int) :
    (s.setMotion p v).scroll.inUse = s.scroll.inUse := rfl
@[simp] theorem setMotion_scroll_frameTimer (s : State) (p : Nat) (v : Int) :
    (s.setMotion p v).scroll.frameTimer = s.scroll.frameTimer := rfl
@[simp] theorem setMotion_scroll_framesOwed (s : State) (p : Nat) (v : Int) :
    (s.setMotion p v).scroll.framesOwed = s.scroll.framesOwed := rfl
@[simp] theorem setMotion_hub (s : State) (p : Nat) (v : Int) : (s.setMotion p v).hub = s.hub := rfl
@[simp] theorem setMotion_cues (s : State) (p : Nat) (v : Int) : (s.setMotion p v).cues = s.cues := rfl
@[simp] theorem setMotion_heads (s : State) (p : Nat) (v : Int) : (s.setMotion p v).heads = s.heads := rfl
@[simp] theorem setMotion_job (s : State) (p : Nat) (v : Int) : (s.setMotion p v).job = s.job := rfl
@[simp] theorem setMotion_resetHeld (s : State) (p : Nat) (v : Int) : (s.setMotion p v).resetHeld = s.resetHeld := rfl
@[simp] theorem setMotion_fresh (s : State) (p : Nat) (v : Int) : (s.setMotion p v).fresh = s.fresh := rfl

/-! ### setLoads -/

@[simp] theorem setLoads_pending (s : State) (l : List Load) : (s.setLoads l).pending = s.pending := rfl
@[simp] theorem setLoads_link (s : State) (l : List Load) : (s.setLoads l).link = s.link := rfl
@[simp] theorem setLoads_store (s : State) (l : List Load) : (s.setLoads l).store = s.store := rfl
@[simp] theorem setLoads_edit_loads (s : State) (l : List Load) : (s.setLoads l).edit.loads = l := rfl
@[simp] theorem setLoads_edit_pending (s : State) (l : List Load) : (s.setLoads l).edit.pending = s.edit.pending := rfl
@[simp] theorem setLoads_edit_nextArrival (s : State) (l : List Load) :
    (s.setLoads l).edit.nextArrival = s.edit.nextArrival := rfl
@[simp] theorem setLoads_edit_lookahead (s : State) (l : List Load) :
    (s.setLoads l).edit.lookahead = s.edit.lookahead := rfl
@[simp] theorem setLoads_layout (s : State) (l : List Load) : (s.setLoads l).layout = s.layout := rfl
@[simp] theorem setLoads_scroll (s : State) (l : List Load) : (s.setLoads l).scroll = s.scroll := rfl
@[simp] theorem setLoads_hub (s : State) (l : List Load) : (s.setLoads l).hub = s.hub := rfl
@[simp] theorem setLoads_cues (s : State) (l : List Load) : (s.setLoads l).cues = s.cues := rfl
@[simp] theorem setLoads_heads (s : State) (l : List Load) : (s.setLoads l).heads = s.heads := rfl
@[simp] theorem setLoads_job (s : State) (l : List Load) : (s.setLoads l).job = s.job := rfl
@[simp] theorem setLoads_resetHeld (s : State) (l : List Load) : (s.setLoads l).resetHeld = s.resetHeld := rfl
@[simp] theorem setLoads_fresh (s : State) (l : List Load) : (s.setLoads l).fresh = s.fresh := rfl

/-! ### setReleaseTimer -/

@[simp] theorem setReleaseTimer_pending (s : State) (t : Option Nat) : (s.setReleaseTimer t).pending = s.pending := rfl
@[simp] theorem setReleaseTimer_link (s : State) (t : Option Nat) : (s.setReleaseTimer t).link = s.link := rfl
@[simp] theorem setReleaseTimer_store (s : State) (t : Option Nat) : (s.setReleaseTimer t).store = s.store := rfl
@[simp] theorem setReleaseTimer_edit (s : State) (t : Option Nat) : (s.setReleaseTimer t).edit = s.edit := rfl
@[simp] theorem setReleaseTimer_layout (s : State) (t : Option Nat) : (s.setReleaseTimer t).layout = s.layout := rfl
@[simp] theorem setReleaseTimer_scroll (s : State) (t : Option Nat) : (s.setReleaseTimer t).scroll = s.scroll := rfl
@[simp] theorem setReleaseTimer_hub_ports (s : State) (t : Option Nat) :
    (s.setReleaseTimer t).hub.ports = s.hub.ports := rfl
@[simp] theorem setReleaseTimer_hub_holder (s : State) (t : Option Nat) :
    (s.setReleaseTimer t).hub.holder = s.hub.holder := rfl
@[simp] theorem setReleaseTimer_hub_releaseTimer (s : State) (t : Option Nat) :
    (s.setReleaseTimer t).hub.releaseTimer = t := rfl
@[simp] theorem setReleaseTimer_hub_releaseDelay (s : State) (t : Option Nat) :
    (s.setReleaseTimer t).hub.releaseDelay = s.hub.releaseDelay := rfl
@[simp] theorem setReleaseTimer_hub_priority (s : State) (t : Option Nat) :
    (s.setReleaseTimer t).hub.priority = s.hub.priority := rfl
@[simp] theorem setReleaseTimer_cues (s : State) (t : Option Nat) : (s.setReleaseTimer t).cues = s.cues := rfl
@[simp] theorem setReleaseTimer_heads (s : State) (t : Option Nat) : (s.setReleaseTimer t).heads = s.heads := rfl
@[simp] theorem setReleaseTimer_job (s : State) (t : Option Nat) : (s.setReleaseTimer t).job = s.job := rfl
@[simp] theorem setReleaseTimer_resetHeld (s : State) (t : Option Nat) : (s.setReleaseTimer t).resetHeld = s.resetHeld := rfl
@[simp] theorem setReleaseTimer_fresh (s : State) (t : Option Nat) : (s.setReleaseTimer t).fresh = s.fresh := rfl

/-! ### freeSlots -/

@[simp] theorem freeSlots_pending (n : Nat) (s : State) : (freeSlots n s).pending = s.pending := rfl
@[simp] theorem freeSlots_link (n : Nat) (s : State) : (freeSlots n s).link = s.link := rfl
@[simp] theorem freeSlots_store_stories (n : Nat) (s : State) : (freeSlots n s).store.stories = s.store.stories := rfl
@[simp] theorem freeSlots_store_insertions (n : Nat) (s : State) :
    (freeSlots n s).store.insertions = s.store.insertions := rfl
@[simp] theorem freeSlots_store_edition (n : Nat) (s : State) : (freeSlots n s).store.edition = s.store.edition := rfl
@[simp] theorem freeSlots_store_onAirId (n : Nat) (s : State) : (freeSlots n s).store.onAirId = s.store.onAirId := rfl
@[simp] theorem freeSlots_store_freeCount (n : Nat) (s : State) :
    (freeSlots n s).store.freeCount = s.store.freeCount + n := rfl
@[simp] theorem freeSlots_edit (n : Nat) (s : State) : (freeSlots n s).edit = s.edit := rfl
@[simp] theorem freeSlots_layout (n : Nat) (s : State) : (freeSlots n s).layout = s.layout := rfl
@[simp] theorem freeSlots_scroll (n : Nat) (s : State) : (freeSlots n s).scroll = s.scroll := rfl
@[simp] theorem freeSlots_hub (n : Nat) (s : State) : (freeSlots n s).hub = s.hub := rfl
@[simp] theorem freeSlots_cues (n : Nat) (s : State) : (freeSlots n s).cues = s.cues := rfl
@[simp] theorem freeSlots_heads (n : Nat) (s : State) : (freeSlots n s).heads = s.heads := rfl
@[simp] theorem freeSlots_job (n : Nat) (s : State) : (freeSlots n s).job = s.job := rfl
@[simp] theorem freeSlots_resetHeld (n : Nat) (s : State) : (freeSlots n s).resetHeld = s.resetHeld := rfl
@[simp] theorem freeSlots_fresh (n : Nat) (s : State) : (freeSlots n s).fresh = s.fresh := rfl

/-! ### setCruise -/

@[simp] theorem setCruise_pending (x : Int) (s : State) : (setCruise x s).pending = s.pending := rfl
@[simp] theorem setCruise_link (x : Int) (s : State) : (setCruise x s).link = s.link := rfl
@[simp] theorem setCruise_store (x : Int) (s : State) : (setCruise x s).store = s.store := rfl
@[simp] theorem setCruise_edit (x : Int) (s : State) : (setCruise x s).edit = s.edit := rfl
@[simp] theorem setCruise_layout (x : Int) (s : State) : (setCruise x s).layout = s.layout := rfl
@[simp] theorem setCruise_scroll_p (x : Int) (s : State) : (setCruise x s).scroll.p = s.scroll.p := rfl
@[simp] theorem setCruise_scroll_v (x : Int) (s : State) : (setCruise x s).scroll.v = s.scroll.v := rfl
@[simp] theorem setCruise_scroll_direction (x : Int) (s : State) :
    (setCruise x s).scroll.direction = s.scroll.direction := rfl
@[simp] theorem setCruise_scroll_cruise (x : Int) (s : State) :
    (setCruise x s).scroll.cruise = clampInt (-(s.scroll.vmax : Int)) s.scroll.vmax x := rfl
@[simp] theorem setCruise_scroll_state (x : Int) (s : State) : (setCruise x s).scroll.state = s.scroll.state := rfl
@[simp] theorem setCruise_scroll_lastDemand (x : Int) (s : State) :
    (setCruise x s).scroll.lastDemand = s.scroll.lastDemand := rfl
@[simp] theorem setCruise_scroll_vmax (x : Int) (s : State) : (setCruise x s).scroll.vmax = s.scroll.vmax := rfl
@[simp] theorem setCruise_scroll_accel (x : Int) (s : State) : (setCruise x s).scroll.accel = s.scroll.accel := rfl
@[simp] theorem setCruise_scroll_brake (x : Int) (s : State) : (setCruise x s).scroll.brake = s.scroll.brake := rfl
@[simp] theorem setCruise_scroll_keyStep (x : Int) (s : State) : (setCruise x s).scroll.keyStep = s.scroll.keyStep := rfl
@[simp] theorem setCruise_scroll_curve (x : Int) (s : State) : (setCruise x s).scroll.curve = s.scroll.curve := rfl
@[simp] theorem setCruise_scroll_setting (x : Int) (s : State) : (setCruise x s).scroll.setting = s.scroll.setting := rfl
@[simp] theorem setCruise_scroll_inUse (x : Int) (s : State) : (setCruise x s).scroll.inUse = s.scroll.inUse := rfl
@[simp] theorem setCruise_scroll_frameTimer (x : Int) (s : State) :
    (setCruise x s).scroll.frameTimer = s.scroll.frameTimer := rfl
@[simp] theorem setCruise_scroll_framesOwed (x : Int) (s : State) :
    (setCruise x s).scroll.framesOwed = s.scroll.framesOwed := rfl
@[simp] theorem setCruise_hub (x : Int) (s : State) : (setCruise x s).hub = s.hub := rfl
@[simp] theorem setCruise_cues (x : Int) (s : State) : (setCruise x s).cues = s.cues := rfl
@[simp] theorem setCruise_heads (x : Int) (s : State) : (setCruise x s).heads = s.heads := rfl
@[simp] theorem setCruise_job (x : Int) (s : State) : (setCruise x s).job = s.job := rfl
@[simp] theorem setCruise_resetHeld (x : Int) (s : State) : (setCruise x s).resetHeld = s.resetHeld := rfl
@[simp] theorem setCruise_fresh (x : Int) (s : State) : (setCruise x s).fresh = s.fresh := rfl

/-! ### portCruise -/

@[simp] theorem portCruise_pending (n : Fin 6) (x : Int) (s : State) : (portCruise n x s).pending = s.pending := rfl
@[simp] theorem portCruise_link (n : Fin 6) (x : Int) (s : State) : (portCruise n x s).link = s.link := rfl
@[simp] theorem portCruise_store (n : Fin 6) (x : Int) (s : State) : (portCruise n x s).store = s.store := rfl
@[simp] theorem portCruise_edit (n : Fin 6) (x : Int) (s : State) : (portCruise n x s).edit = s.edit := rfl
@[simp] theorem portCruise_layout (n : Fin 6) (x : Int) (s : State) : (portCruise n x s).layout = s.layout := rfl
@[simp] theorem portCruise_scroll_p (n : Fin 6) (x : Int) (s : State) : (portCruise n x s).scroll.p = s.scroll.p := rfl
@[simp] theorem portCruise_scroll_v (n : Fin 6) (x : Int) (s : State) : (portCruise n x s).scroll.v = s.scroll.v := rfl
@[simp] theorem portCruise_scroll_direction (n : Fin 6) (x : Int) (s : State) :
    (portCruise n x s).scroll.direction = s.scroll.direction := rfl
@[simp] theorem portCruise_scroll_cruise (n : Fin 6) (x : Int) (s : State) :
    (portCruise n x s).scroll.cruise = clampInt (cruiseFloor n s) s.scroll.vmax x := rfl
@[simp] theorem portCruise_scroll_state (n : Fin 6) (x : Int) (s : State) :
    (portCruise n x s).scroll.state = s.scroll.state := rfl
@[simp] theorem portCruise_scroll_lastDemand (n : Fin 6) (x : Int) (s : State) :
    (portCruise n x s).scroll.lastDemand = s.scroll.lastDemand := rfl
@[simp] theorem portCruise_scroll_vmax (n : Fin 6) (x : Int) (s : State) :
    (portCruise n x s).scroll.vmax = s.scroll.vmax := rfl
@[simp] theorem portCruise_scroll_accel (n : Fin 6) (x : Int) (s : State) :
    (portCruise n x s).scroll.accel = s.scroll.accel := rfl
@[simp] theorem portCruise_scroll_brake (n : Fin 6) (x : Int) (s : State) :
    (portCruise n x s).scroll.brake = s.scroll.brake := rfl
@[simp] theorem portCruise_scroll_keyStep (n : Fin 6) (x : Int) (s : State) :
    (portCruise n x s).scroll.keyStep = s.scroll.keyStep := rfl
@[simp] theorem portCruise_scroll_curve (n : Fin 6) (x : Int) (s : State) :
    (portCruise n x s).scroll.curve = s.scroll.curve := rfl
@[simp] theorem portCruise_scroll_setting (n : Fin 6) (x : Int) (s : State) :
    (portCruise n x s).scroll.setting = s.scroll.setting := rfl
@[simp] theorem portCruise_scroll_inUse (n : Fin 6) (x : Int) (s : State) :
    (portCruise n x s).scroll.inUse = s.scroll.inUse := rfl
@[simp] theorem portCruise_scroll_frameTimer (n : Fin 6) (x : Int) (s : State) :
    (portCruise n x s).scroll.frameTimer = s.scroll.frameTimer := rfl
@[simp] theorem portCruise_scroll_framesOwed (n : Fin 6) (x : Int) (s : State) :
    (portCruise n x s).scroll.framesOwed = s.scroll.framesOwed := rfl
@[simp] theorem portCruise_hub (n : Fin 6) (x : Int) (s : State) : (portCruise n x s).hub = s.hub := rfl
@[simp] theorem portCruise_cues (n : Fin 6) (x : Int) (s : State) : (portCruise n x s).cues = s.cues := rfl
@[simp] theorem portCruise_heads (n : Fin 6) (x : Int) (s : State) : (portCruise n x s).heads = s.heads := rfl
@[simp] theorem portCruise_job (n : Fin 6) (x : Int) (s : State) : (portCruise n x s).job = s.job := rfl
@[simp] theorem portCruise_resetHeld (n : Fin 6) (x : Int) (s : State) : (portCruise n x s).resetHeld = s.resetHeld := rfl
@[simp] theorem portCruise_fresh (n : Fin 6) (x : Int) (s : State) : (portCruise n x s).fresh = s.fresh := rfl

/-! ### dropFrame -/

@[simp] theorem dropFrame_pending (s : State) : (dropFrame s).pending = s.pending := rfl
@[simp] theorem dropFrame_link_receiver (s : State) : (dropFrame s).link.receiver = .hunting := rfl
@[simp] theorem dropFrame_link_received (s : State) : (dropFrame s).link.received = s.link.received := rfl
@[simp] theorem dropFrame_link_replies (s : State) : (dropFrame s).link.replies = s.link.replies := rfl
@[simp] theorem dropFrame_link_notices (s : State) : (dropFrame s).link.notices = s.link.notices := rfl
@[simp] theorem dropFrame_link_lost (s : State) : (dropFrame s).link.lost = s.link.lost := rfl
@[simp] theorem dropFrame_link_slot (s : State) : (dropFrame s).link.slot = s.link.slot := rfl
@[simp] theorem dropFrame_link_interval (s : State) : (dropFrame s).link.interval = s.link.interval := rfl
@[simp] theorem dropFrame_link_frameCount (s : State) : (dropFrame s).link.frameCount = s.link.frameCount := rfl
@[simp] theorem dropFrame_link_reportNumber (s : State) : (dropFrame s).link.reportNumber = s.link.reportNumber := rfl
@[simp] theorem dropFrame_link_sending (s : State) : (dropFrame s).link.sending = s.link.sending := rfl
@[simp] theorem dropFrame_link_restart (s : State) : (dropFrame s).link.restart = s.link.restart := rfl
@[simp] theorem dropFrame_link_rate (s : State) : (dropFrame s).link.rate = s.link.rate := rfl
@[simp] theorem dropFrame_store (s : State) : (dropFrame s).store = s.store := rfl
@[simp] theorem dropFrame_edit (s : State) : (dropFrame s).edit = s.edit := rfl
@[simp] theorem dropFrame_layout (s : State) : (dropFrame s).layout = s.layout := rfl
@[simp] theorem dropFrame_scroll (s : State) : (dropFrame s).scroll = s.scroll := rfl
@[simp] theorem dropFrame_hub (s : State) : (dropFrame s).hub = s.hub := rfl
@[simp] theorem dropFrame_cues (s : State) : (dropFrame s).cues = s.cues := rfl
@[simp] theorem dropFrame_heads (s : State) : (dropFrame s).heads = s.heads := rfl
@[simp] theorem dropFrame_job (s : State) : (dropFrame s).job = s.job := rfl
@[simp] theorem dropFrame_resetHeld (s : State) : (dropFrame s).resetHeld = s.resetHeld := rfl
@[simp] theorem dropFrame_fresh (s : State) : (dropFrame s).fresh = s.fresh := rfl

/-! ### addBiasAll -/

@[simp] theorem addBiasAll_pending (d : Int) (s : State) : (addBiasAll d s).pending = s.pending := rfl
@[simp] theorem addBiasAll_link (d : Int) (s : State) : (addBiasAll d s).link = s.link := rfl
@[simp] theorem addBiasAll_store (d : Int) (s : State) : (addBiasAll d s).store = s.store := rfl
@[simp] theorem addBiasAll_edit (d : Int) (s : State) : (addBiasAll d s).edit = s.edit := rfl
@[simp] theorem addBiasAll_layout (d : Int) (s : State) : (addBiasAll d s).layout = s.layout := rfl
@[simp] theorem addBiasAll_scroll (d : Int) (s : State) : (addBiasAll d s).scroll = s.scroll := rfl
@[simp] theorem addBiasAll_hub (d : Int) (s : State) : (addBiasAll d s).hub = s.hub := rfl
@[simp] theorem addBiasAll_cues (d : Int) (s : State) : (addBiasAll d s).cues = s.cues := rfl
@[simp] theorem addBiasAll_heads (d : Int) (s : State) : (addBiasAll d s).heads = updAll s.heads (Head.addBias d) := rfl
@[simp] theorem addBiasAll_job (d : Int) (s : State) : (addBiasAll d s).job = s.job := rfl
@[simp] theorem addBiasAll_resetHeld (d : Int) (s : State) : (addBiasAll d s).resetHeld = s.resetHeld := rfl
@[simp] theorem addBiasAll_fresh (d : Int) (s : State) : (addBiasAll d s).fresh = s.fresh := rfl

/-! ### answered -/

@[simp] theorem answered_pending (r : Reply) (s : State) : (answered r s).pending = s.pending := rfl
@[simp] theorem answered_link_receiver (r : Reply) (s : State) : (answered r s).link.receiver = s.link.receiver := rfl
@[simp] theorem answered_link_received (r : Reply) (s : State) : (answered r s).link.received = s.link.received := rfl
@[simp] theorem answered_link_replies (r : Reply) (s : State) : (answered r s).link.replies = s.link.replies ++ [r] := rfl
@[simp] theorem answered_link_notices (r : Reply) (s : State) : (answered r s).link.notices = s.link.notices := rfl
@[simp] theorem answered_link_lost (r : Reply) (s : State) : (answered r s).link.lost = s.link.lost := rfl
@[simp] theorem answered_link_slot (r : Reply) (s : State) : (answered r s).link.slot = s.link.slot := rfl
@[simp] theorem answered_link_interval (r : Reply) (s : State) : (answered r s).link.interval = s.link.interval := rfl
@[simp] theorem answered_link_frameCount (r : Reply) (s : State) : (answered r s).link.frameCount = s.link.frameCount := rfl
@[simp] theorem answered_link_reportNumber (r : Reply) (s : State) :
    (answered r s).link.reportNumber = s.link.reportNumber := rfl
@[simp] theorem answered_link_sending (r : Reply) (s : State) :
    (answered r s).link.sending = some (s.link.sending.getD .reply) := rfl
@[simp] theorem answered_link_restart (r : Reply) (s : State) : (answered r s).link.restart = s.link.restart := rfl
@[simp] theorem answered_link_rate (r : Reply) (s : State) : (answered r s).link.rate = s.link.rate := rfl
@[simp] theorem answered_store (r : Reply) (s : State) : (answered r s).store = s.store := rfl
@[simp] theorem answered_edit (r : Reply) (s : State) : (answered r s).edit = s.edit := rfl
@[simp] theorem answered_layout (r : Reply) (s : State) : (answered r s).layout = s.layout := rfl
@[simp] theorem answered_scroll (r : Reply) (s : State) : (answered r s).scroll = s.scroll := rfl
@[simp] theorem answered_hub (r : Reply) (s : State) : (answered r s).hub = s.hub := rfl
@[simp] theorem answered_cues (r : Reply) (s : State) : (answered r s).cues = s.cues := rfl
@[simp] theorem answered_heads (r : Reply) (s : State) : (answered r s).heads = s.heads := rfl
@[simp] theorem answered_job (r : Reply) (s : State) : (answered r s).job = s.job := rfl
@[simp] theorem answered_resetHeld (r : Reply) (s : State) : (answered r s).resetHeld = s.resetHeld := rfl
@[simp] theorem answered_fresh (r : Reply) (s : State) : (answered r s).fresh = s.fresh := rfl

/-! ### answer -/

@[simp] theorem answer_pending (c q : Byte) (r : Result) (a b : Bool) (y : ReplyBody) (s : State) : (answer c q r a b y s).pending = s.pending := rfl
@[simp] theorem answer_link_receiver (c q : Byte) (r : Result) (a b : Bool) (y : ReplyBody) (s : State) :
    (answer c q r a b y s).link.receiver = s.link.receiver := rfl
@[simp] theorem answer_link_received (c q : Byte) (r : Result) (a b : Bool) (y : ReplyBody) (s : State) :
    (answer c q r a b y s).link.received = s.link.received := rfl
@[simp] theorem answer_link_replies (c q : Byte) (r : Result) (a b : Bool) (y : ReplyBody) (s : State) :
    (answer c q r a b y s).link.replies = s.link.replies ++ [⟨c + 0x40, q, r, a, b, y⟩] := rfl
@[simp] theorem answer_link_notices (c q : Byte) (r : Result) (a b : Bool) (y : ReplyBody) (s : State) :
    (answer c q r a b y s).link.notices = s.link.notices := rfl
@[simp] theorem answer_link_lost (c q : Byte) (r : Result) (a b : Bool) (y : ReplyBody) (s : State) :
    (answer c q r a b y s).link.lost = s.link.lost := rfl
@[simp] theorem answer_link_slot (c q : Byte) (r : Result) (a b : Bool) (y : ReplyBody) (s : State) :
    (answer c q r a b y s).link.slot = s.link.slot := rfl
@[simp] theorem answer_link_interval (c q : Byte) (r : Result) (a b : Bool) (y : ReplyBody) (s : State) :
    (answer c q r a b y s).link.interval = s.link.interval := rfl
@[simp] theorem answer_link_frameCount (c q : Byte) (r : Result) (a b : Bool) (y : ReplyBody) (s : State) :
    (answer c q r a b y s).link.frameCount = s.link.frameCount := rfl
@[simp] theorem answer_link_reportNumber (c q : Byte) (r : Result) (a b : Bool) (y : ReplyBody) (s : State) :
    (answer c q r a b y s).link.reportNumber = s.link.reportNumber := rfl
@[simp] theorem answer_link_sending (c q : Byte) (r : Result) (a b : Bool) (y : ReplyBody) (s : State) :
    (answer c q r a b y s).link.sending = s.link.sending := rfl
@[simp] theorem answer_link_restart (c q : Byte) (r : Result) (a b : Bool) (y : ReplyBody) (s : State) :
    (answer c q r a b y s).link.restart = s.link.restart := rfl
@[simp] theorem answer_link_rate (c q : Byte) (r : Result) (a b : Bool) (y : ReplyBody) (s : State) :
    (answer c q r a b y s).link.rate = s.link.rate := rfl
@[simp] theorem answer_store (c q : Byte) (r : Result) (a b : Bool) (y : ReplyBody) (s : State) : (answer c q r a b y s).store = s.store := rfl
@[simp] theorem answer_edit (c q : Byte) (r : Result) (a b : Bool) (y : ReplyBody) (s : State) : (answer c q r a b y s).edit = s.edit := rfl
@[simp] theorem answer_layout (c q : Byte) (r : Result) (a b : Bool) (y : ReplyBody) (s : State) : (answer c q r a b y s).layout = s.layout := rfl
@[simp] theorem answer_scroll (c q : Byte) (r : Result) (a b : Bool) (y : ReplyBody) (s : State) : (answer c q r a b y s).scroll = s.scroll := rfl
@[simp] theorem answer_hub (c q : Byte) (r : Result) (a b : Bool) (y : ReplyBody) (s : State) : (answer c q r a b y s).hub = s.hub := rfl
@[simp] theorem answer_cues (c q : Byte) (r : Result) (a b : Bool) (y : ReplyBody) (s : State) : (answer c q r a b y s).cues = s.cues := rfl
@[simp] theorem answer_heads (c q : Byte) (r : Result) (a b : Bool) (y : ReplyBody) (s : State) : (answer c q r a b y s).heads = s.heads := rfl
@[simp] theorem answer_job (c q : Byte) (r : Result) (a b : Bool) (y : ReplyBody) (s : State) : (answer c q r a b y s).job = s.job := rfl
@[simp] theorem answer_resetHeld (c q : Byte) (r : Result) (a b : Bool) (y : ReplyBody) (s : State) : (answer c q r a b y s).resetHeld = s.resetHeld := rfl
@[simp] theorem answer_fresh (c q : Byte) (r : Result) (a b : Bool) (y : ReplyBody) (s : State) : (answer c q r a b y s).fresh = s.fresh := rfl

/-! ### reply -/

@[simp] theorem reply_pending (c q : Byte) (r : Result) (y : ReplyBody) (s : State) : (reply c q r y s).pending = s.pending := rfl
@[simp] theorem reply_link_receiver (c q : Byte) (r : Result) (y : ReplyBody) (s : State) :
    (reply c q r y s).link.receiver = s.link.receiver := rfl
@[simp] theorem reply_link_received (c q : Byte) (r : Result) (y : ReplyBody) (s : State) :
    (reply c q r y s).link.received = s.link.received := rfl
@[simp] theorem reply_link_replies (c q : Byte) (r : Result) (y : ReplyBody) (s : State) :
    (reply c q r y s).link.replies = s.link.replies ++ [⟨c + 0x40, q, r, false, false, y⟩] := rfl
@[simp] theorem reply_link_notices (c q : Byte) (r : Result) (y : ReplyBody) (s : State) :
    (reply c q r y s).link.notices = s.link.notices := rfl
@[simp] theorem reply_link_lost (c q : Byte) (r : Result) (y : ReplyBody) (s : State) :
    (reply c q r y s).link.lost = s.link.lost := rfl
@[simp] theorem reply_link_slot (c q : Byte) (r : Result) (y : ReplyBody) (s : State) :
    (reply c q r y s).link.slot = s.link.slot := rfl
@[simp] theorem reply_link_interval (c q : Byte) (r : Result) (y : ReplyBody) (s : State) :
    (reply c q r y s).link.interval = s.link.interval := rfl
@[simp] theorem reply_link_frameCount (c q : Byte) (r : Result) (y : ReplyBody) (s : State) :
    (reply c q r y s).link.frameCount = s.link.frameCount := rfl
@[simp] theorem reply_link_reportNumber (c q : Byte) (r : Result) (y : ReplyBody) (s : State) :
    (reply c q r y s).link.reportNumber = s.link.reportNumber := rfl
@[simp] theorem reply_link_sending (c q : Byte) (r : Result) (y : ReplyBody) (s : State) :
    (reply c q r y s).link.sending = s.link.sending := rfl
@[simp] theorem reply_link_restart (c q : Byte) (r : Result) (y : ReplyBody) (s : State) :
    (reply c q r y s).link.restart = s.link.restart := rfl
@[simp] theorem reply_link_rate (c q : Byte) (r : Result) (y : ReplyBody) (s : State) :
    (reply c q r y s).link.rate = s.link.rate := rfl
@[simp] theorem reply_store (c q : Byte) (r : Result) (y : ReplyBody) (s : State) : (reply c q r y s).store = s.store := rfl
@[simp] theorem reply_edit (c q : Byte) (r : Result) (y : ReplyBody) (s : State) : (reply c q r y s).edit = s.edit := rfl
@[simp] theorem reply_layout (c q : Byte) (r : Result) (y : ReplyBody) (s : State) : (reply c q r y s).layout = s.layout := rfl
@[simp] theorem reply_scroll (c q : Byte) (r : Result) (y : ReplyBody) (s : State) : (reply c q r y s).scroll = s.scroll := rfl
@[simp] theorem reply_hub (c q : Byte) (r : Result) (y : ReplyBody) (s : State) : (reply c q r y s).hub = s.hub := rfl
@[simp] theorem reply_cues (c q : Byte) (r : Result) (y : ReplyBody) (s : State) : (reply c q r y s).cues = s.cues := rfl
@[simp] theorem reply_heads (c q : Byte) (r : Result) (y : ReplyBody) (s : State) : (reply c q r y s).heads = s.heads := rfl
@[simp] theorem reply_job (c q : Byte) (r : Result) (y : ReplyBody) (s : State) : (reply c q r y s).job = s.job := rfl
@[simp] theorem reply_resetHeld (c q : Byte) (r : Result) (y : ReplyBody) (s : State) : (reply c q r y s).resetHeld = s.resetHeld := rfl
@[simp] theorem reply_fresh (c q : Byte) (r : Result) (y : ReplyBody) (s : State) : (reply c q r y s).fresh = s.fresh := rfl

/-! ### refuse -/

@[simp] theorem refuse_pending (c q : Byte) (r : Reason) (s : State) : (refuse c q r s).pending = s.pending := rfl
@[simp] theorem refuse_link_receiver (c q : Byte) (r : Reason) (s : State) :
    (refuse c q r s).link.receiver = s.link.receiver := rfl
@[simp] theorem refuse_link_received (c q : Byte) (r : Reason) (s : State) :
    (refuse c q r s).link.received = s.link.received := rfl
@[simp] theorem refuse_link_replies (c q : Byte) (r : Reason) (s : State) :
    (refuse c q r s).link.replies = s.link.replies ++ [⟨c + 0x40, q, .reason r, false, false, .bare⟩] := rfl
@[simp] theorem refuse_link_notices (c q : Byte) (r : Reason) (s : State) :
    (refuse c q r s).link.notices = s.link.notices := rfl
@[simp] theorem refuse_link_lost (c q : Byte) (r : Reason) (s : State) : (refuse c q r s).link.lost = s.link.lost := rfl
@[simp] theorem refuse_link_slot (c q : Byte) (r : Reason) (s : State) : (refuse c q r s).link.slot = s.link.slot := rfl
@[simp] theorem refuse_link_interval (c q : Byte) (r : Reason) (s : State) :
    (refuse c q r s).link.interval = s.link.interval := rfl
@[simp] theorem refuse_link_frameCount (c q : Byte) (r : Reason) (s : State) :
    (refuse c q r s).link.frameCount = s.link.frameCount := rfl
@[simp] theorem refuse_link_reportNumber (c q : Byte) (r : Reason) (s : State) :
    (refuse c q r s).link.reportNumber = s.link.reportNumber := rfl
@[simp] theorem refuse_link_sending (c q : Byte) (r : Reason) (s : State) :
    (refuse c q r s).link.sending = s.link.sending := rfl
@[simp] theorem refuse_link_restart (c q : Byte) (r : Reason) (s : State) :
    (refuse c q r s).link.restart = s.link.restart := rfl
@[simp] theorem refuse_link_rate (c q : Byte) (r : Reason) (s : State) : (refuse c q r s).link.rate = s.link.rate := rfl
@[simp] theorem refuse_store (c q : Byte) (r : Reason) (s : State) : (refuse c q r s).store = s.store := rfl
@[simp] theorem refuse_edit (c q : Byte) (r : Reason) (s : State) : (refuse c q r s).edit = s.edit := rfl
@[simp] theorem refuse_layout (c q : Byte) (r : Reason) (s : State) : (refuse c q r s).layout = s.layout := rfl
@[simp] theorem refuse_scroll (c q : Byte) (r : Reason) (s : State) : (refuse c q r s).scroll = s.scroll := rfl
@[simp] theorem refuse_hub (c q : Byte) (r : Reason) (s : State) : (refuse c q r s).hub = s.hub := rfl
@[simp] theorem refuse_cues (c q : Byte) (r : Reason) (s : State) : (refuse c q r s).cues = s.cues := rfl
@[simp] theorem refuse_heads (c q : Byte) (r : Reason) (s : State) : (refuse c q r s).heads = s.heads := rfl
@[simp] theorem refuse_job (c q : Byte) (r : Reason) (s : State) : (refuse c q r s).job = s.job := rfl
@[simp] theorem refuse_resetHeld (c q : Byte) (r : Reason) (s : State) : (refuse c q r s).resetHeld = s.resetHeld := rfl
@[simp] theorem refuse_fresh (c q : Byte) (r : Reason) (s : State) : (refuse c q r s).fresh = s.fresh := rfl

end Sys2Proof.Machine
end

