-- ==== Sys2Proof/Laws/Ops.lean ====
section
/-! SUPPORT. Laws/Ops.lean: one lemma for each shared operation that says all it can do, with its frame: the fields it leaves. -/

namespace Sys2Proof.Machine

/-! ### Indexed records -/

theorem upd_get_self {α : Type} {n : Nat} (v : Vector α n) (i : Fin n) (f : α → α) : (upd v i f)[i] = f v[i] := by
  simp [upd]

theorem upd_get_ne {α : Type} {n : Nat} (v : Vector α n) (i j : Fin n) (f : α → α) (h : j ≠ i) : (upd v i f)[j] = v[j] := by
  have : i.val ≠ j.val := fun e => h (Fin.ext e.symm)
  simp [upd, Vector.getElem_set_ne, this]

/-- The entry `j` of a vector with entry `i` changed. -/
theorem upd_get {α : Type} {n : Nat} (v : Vector α n) (i j : Fin n) (f : α → α) :
    (upd v i f)[j] = if j = i then f v[i] else v[j] := by
  by_cases h : j = i
  · subst h
    simp [upd]
  · rw [if_neg h, upd_get_ne v i j f h]

/-- A change that leaves its entry as it was changes nothing. -/
theorem upd_id {α : Type} {n : Nat} (v : Vector α n) (i : Fin n) (f : α → α) (h : f v[i] = v[i]) : upd v i f = v := by
  ext j hj
  have := upd_get v i ⟨j, hj⟩ f
  by_cases e : (⟨j, hj⟩ : Fin n) = i
  · rw [if_pos e, h] at this
    subst e
    simpa using this
  · rw [if_neg e] at this
    simpa using this

theorem updAll_get {α β : Type} {n : Nat} (v : Vector α n) (f : α → β) (i : Fin n) : (updAll v f)[i] = f v[i] := by
  simp [updAll]

/-! ### raise -/

/-- All that raising a notice does: it joins the queue, or is lost and counted (R163). -/
theorem raise_eq (n : Notice) (s : State) :
    (s.link.notices.length < 32 ∧ raise n s = { s with link := { s.link with notices := s.link.notices ++ [n] } })
      ∨ (32 ≤ s.link.notices.length
        ∧ raise n s = { s with link := { s.link with lost := min (s.link.lost + 1) 255 } }) := by
  by_cases h : s.link.notices.length < Config.noticeQueueSize
  · exact .inl ⟨h, by simp [raise, h]⟩
  · exact .inr ⟨Nat.le_of_not_lt h, by simp [raise, h]⟩

@[simp] theorem raise_pending (n : Notice) (s : State) : (raise n s).pending = s.pending := by unfold raise; split <;> rfl
@[simp] theorem raise_store (n : Notice) (s : State) : (raise n s).store = s.store := by unfold raise; split <;> rfl
@[simp] theorem raise_edit (n : Notice) (s : State) : (raise n s).edit = s.edit := by unfold raise; split <;> rfl
@[simp] theorem raise_layout (n : Notice) (s : State) : (raise n s).layout = s.layout := by unfold raise; split <;> rfl
@[simp] theorem raise_scroll (n : Notice) (s : State) : (raise n s).scroll = s.scroll := by unfold raise; split <;> rfl
@[simp] theorem raise_hub (n : Notice) (s : State) : (raise n s).hub = s.hub := by unfold raise; split <;> rfl
@[simp] theorem raise_cues (n : Notice) (s : State) : (raise n s).cues = s.cues := by unfold raise; split <;> rfl
@[simp] theorem raise_heads (n : Notice) (s : State) : (raise n s).heads = s.heads := by unfold raise; split <;> rfl
@[simp] theorem raise_job (n : Notice) (s : State) : (raise n s).job = s.job := by unfold raise; split <;> rfl
@[simp] theorem raise_resetHeld (n : Notice) (s : State) : (raise n s).resetHeld = s.resetHeld := by unfold raise; split <;> rfl
@[simp] theorem raise_fresh (n : Notice) (s : State) : (raise n s).fresh = s.fresh := by unfold raise; split <;> rfl
@[simp] theorem raise_link_receiver (n : Notice) (s : State) : (raise n s).link.receiver = s.link.receiver := by
  unfold raise; split <;> rfl
@[simp] theorem raise_link_received (n : Notice) (s : State) : (raise n s).link.received = s.link.received := by
  unfold raise; split <;> rfl
@[simp] theorem raise_link_replies (n : Notice) (s : State) : (raise n s).link.replies = s.link.replies := by
  unfold raise; split <;> rfl
@[simp] theorem raise_link_slot (n : Notice) (s : State) : (raise n s).link.slot = s.link.slot := by
  unfold raise; split <;> rfl
@[simp] theorem raise_link_interval (n : Notice) (s : State) : (raise n s).link.interval = s.link.interval := by
  unfold raise; split <;> rfl
@[simp] theorem raise_link_frameCount (n : Notice) (s : State) : (raise n s).link.frameCount = s.link.frameCount := by
  unfold raise; split <;> rfl
@[simp] theorem raise_link_reportNumber (n : Notice) (s : State) : (raise n s).link.reportNumber = s.link.reportNumber := by
  unfold raise; split <;> rfl
@[simp] theorem raise_link_restart (n : Notice) (s : State) : (raise n s).link.restart = s.link.restart := by
  unfold raise; split <;> rfl
@[simp] theorem raise_link_rate (n : Notice) (s : State) : (raise n s).link.rate = s.link.rate := by
  unfold raise; split <;> rfl
@[simp] theorem raise_link_sending (n : Notice) (s : State) : (raise n s).link.sending = s.link.sending := by
  unfold raise; split <;> rfl

/-! ### The transmitter's choice -/

/-- All that the choice does (R165): a busy transmitter goes on; an idle one takes a reply, else a notice, else the report, which
leaves its slot; and after the reply to a RESTART nothing more is sent (R169). -/
theorem pump_eq (s : State) :
    (s.link.sending ≠ none ∧ pump s = s)
      ∨ (s.link.sending = none ∧ s.link.restart = .due ∧ pump s = s)
      ∨ (s.link.sending = none ∧ s.link.restart ≠ .due ∧ s.link.replies ≠ []
        ∧ pump s = { s with link := { s.link with sending := some .reply } })
      ∨ (s.link.sending = none ∧ s.link.restart ≠ .due ∧ s.link.replies = [] ∧ s.link.notices ≠ []
        ∧ pump s = { s with link := { s.link with sending := some .notice } })
      ∨ (s.link.sending = none ∧ s.link.restart ≠ .due ∧ s.link.replies = [] ∧ s.link.notices = []
        ∧ ((∃ r, s.link.slot = some r
            ∧ pump s = { s with link := { s.link with sending := some (.report r), slot := none } })
          ∨ (s.link.slot = none ∧ pump s = s))) := by
  unfold pump
  cases hs : s.link.sending with
  | some x => exact .inl ⟨by simp, rfl⟩
  | none =>
    by_cases hr : s.link.restart = .due
    · simp [hr]
    · by_cases hp : s.link.replies = []
      · by_cases hn : s.link.notices = []
        · cases hl : s.link.slot <;> simp [hr, hp, hn]
        · simp [hr, hp, hn]
      · simp [hr, hp]

@[simp] theorem pump_pending (s : State) : (pump s).pending = s.pending := by unfold pump; (repeat' split) <;> rfl
@[simp] theorem pump_store (s : State) : (pump s).store = s.store := by unfold pump; (repeat' split) <;> rfl
@[simp] theorem pump_edit (s : State) : (pump s).edit = s.edit := by unfold pump; (repeat' split) <;> rfl
@[simp] theorem pump_layout (s : State) : (pump s).layout = s.layout := by unfold pump; (repeat' split) <;> rfl
@[simp] theorem pump_scroll (s : State) : (pump s).scroll = s.scroll := by unfold pump; (repeat' split) <;> rfl
@[simp] theorem pump_hub (s : State) : (pump s).hub = s.hub := by unfold pump; (repeat' split) <;> rfl
@[simp] theorem pump_cues (s : State) : (pump s).cues = s.cues := by unfold pump; (repeat' split) <;> rfl
@[simp] theorem pump_heads (s : State) : (pump s).heads = s.heads := by unfold pump; (repeat' split) <;> rfl
@[simp] theorem pump_job (s : State) : (pump s).job = s.job := by unfold pump; (repeat' split) <;> rfl
@[simp] theorem pump_resetHeld (s : State) : (pump s).resetHeld = s.resetHeld := by unfold pump; (repeat' split) <;> rfl
@[simp] theorem pump_fresh (s : State) : (pump s).fresh = s.fresh := by unfold pump; (repeat' split) <;> rfl
@[simp] theorem pump_link_receiver (s : State) : (pump s).link.receiver = s.link.receiver := by
  unfold pump; (repeat' split) <;> rfl
@[simp] theorem pump_link_received (s : State) : (pump s).link.received = s.link.received := by
  unfold pump; (repeat' split) <;> rfl
@[simp] theorem pump_link_replies (s : State) : (pump s).link.replies = s.link.replies := by
  unfold pump; (repeat' split) <;> rfl
@[simp] theorem pump_link_interval (s : State) : (pump s).link.interval = s.link.interval := by
  unfold pump; (repeat' split) <;> rfl
@[simp] theorem pump_link_frameCount (s : State) : (pump s).link.frameCount = s.link.frameCount := by
  unfold pump; (repeat' split) <;> rfl
@[simp] theorem pump_link_reportNumber (s : State) : (pump s).link.reportNumber = s.link.reportNumber := by
  unfold pump; (repeat' split) <;> rfl
@[simp] theorem pump_link_restart (s : State) : (pump s).link.restart = s.link.restart := by
  unfold pump; (repeat' split) <;> rfl
@[simp] theorem pump_link_rate (s : State) : (pump s).link.rate = s.link.rate := by
  unfold pump; (repeat' split) <;> rfl
@[simp] theorem pump_link_notices (s : State) : (pump s).link.notices = s.link.notices := by
  unfold pump; (repeat' split) <;> rfl
@[simp] theorem pump_link_lost (s : State) : (pump s).link.lost = s.link.lost := by
  unfold pump; (repeat' split) <;> rfl

/-- A state with a reply in it, no RESTART being due, answers by it: the transmitter, where idle, begins it. -/
theorem pump_answer (c q : Byte) (r : Result) (a b : Bool) (y : ReplyBody) (s : State) (h : s.link.restart ≠ .due) :
    pump (answer c q r a b y s) = answered ⟨c + 0x40, q, r, a, b, y⟩ s := by
  unfold pump answered answer
  cases hs : s.link.sending <;> simp [h, hs]

theorem pump_reply (c q : Byte) (r : Result) (y : ReplyBody) (s : State) (h : s.link.restart ≠ .due) :
    pump (reply c q r y s) = answered ⟨c + 0x40, q, r, false, false, y⟩ s := pump_answer c q r false false y s h

theorem pump_refuse (c q : Byte) (r : Reason) (s : State) (h : s.link.restart ≠ .due) :
    pump (refuse c q r s) = answered ⟨c + 0x40, q, .reason r, false, false, .bare⟩ s :=
  pump_answer c q (.reason r) false false .bare s h

/-! ### Commands and events -/

/-- A command that is taken at once is carried out whole (R161). -/
theorem submit_ready (i : Instr) (run : State → State) (s : State) (h : Ready s) (hl : (payloadOf i).length ≤ 220) :
    submit i run s = .next (pump (run s)) := by
  obtain ⟨hr, hq, hp, hn⟩ := h
  have hl' : ¬ Config.maxPayload < (payloadOf i).length := Nat.not_lt.mpr hl
  simp [submit, canTake, readyToTake, hr, hq, hp, hn, hl']

/-- An event while the RESET input is not held. -/
theorem live_running (f : State → State) (s : State) (h : s.resetHeld = false) : live f s = .next (pump (f s)) := by
  simp [live, h]

theorem live_held (f : State → State) (s : State) (h : s.resetHeld = true) : live f s = .next s := by simp [live, h]

/-! ### Changes of scroll state -/

/-- All that a change of scroll state does (R72). -/
theorem setScrollState_eq (new : ScrollState) (c : ScrollCause) (s : State) :
    (s.scroll.state = new ∧ setScrollState new c s = s)
      ∨ (s.scroll.state ≠ new
        ∧ setScrollState new c s = raise (.scrollState new s.scroll.state s.scroll.p s.scroll.v c)
            { s with scroll := { s.scroll with state := new } }) := by
  by_cases h : s.scroll.state = new <;> simp [setScrollState, h]

@[simp] theorem setScrollState_state (new : ScrollState) (c : ScrollCause) (s : State) :
    (setScrollState new c s).scroll.state = new := by
  unfold setScrollState
  split
  · assumption
  · simp

@[simp] theorem setScrollState_pending (new : ScrollState) (c : ScrollCause) (s : State) : (setScrollState new c s).pending = s.pending := by unfold setScrollState; split <;> simp
@[simp] theorem setScrollState_store (new : ScrollState) (c : ScrollCause) (s : State) : (setScrollState new c s).store = s.store := by unfold setScrollState; split <;> simp
@[simp] theorem setScrollState_edit (new : ScrollState) (c : ScrollCause) (s : State) : (setScrollState new c s).edit = s.edit := by unfold setScrollState; split <;> simp
@[simp] theorem setScrollState_layout (new : ScrollState) (c : ScrollCause) (s : State) : (setScrollState new c s).layout = s.layout := by unfold setScrollState; split <;> simp
@[simp] theorem setScrollState_hub (new : ScrollState) (c : ScrollCause) (s : State) : (setScrollState new c s).hub = s.hub := by unfold setScrollState; split <;> simp
@[simp] theorem setScrollState_cues (new : ScrollState) (c : ScrollCause) (s : State) : (setScrollState new c s).cues = s.cues := by unfold setScrollState; split <;> simp
@[simp] theorem setScrollState_heads (new : ScrollState) (c : ScrollCause) (s : State) : (setScrollState new c s).heads = s.heads := by unfold setScrollState; split <;> simp
@[simp] theorem setScrollState_job (new : ScrollState) (c : ScrollCause) (s : State) : (setScrollState new c s).job = s.job := by unfold setScrollState; split <;> simp
@[simp] theorem setScrollState_resetHeld (new : ScrollState) (c : ScrollCause) (s : State) : (setScrollState new c s).resetHeld = s.resetHeld := by unfold setScrollState; split <;> simp
@[simp] theorem setScrollState_fresh (new : ScrollState) (c : ScrollCause) (s : State) : (setScrollState new c s).fresh = s.fresh := by unfold setScrollState; split <;> simp
@[simp] theorem setScrollState_scroll_p (new : ScrollState) (c : ScrollCause) (s : State) : (setScrollState new c s).scroll.p = s.scroll.p := by
  unfold setScrollState; split <;> simp
@[simp] theorem setScrollState_scroll_v (new : ScrollState) (c : ScrollCause) (s : State) : (setScrollState new c s).scroll.v = s.scroll.v := by
  unfold setScrollState; split <;> simp
@[simp] theorem setScrollState_scroll_direction (new : ScrollState) (c : ScrollCause) (s : State) : (setScrollState new c s).scroll.direction = s.scroll.direction := by
  unfold setScrollState; split <;> simp
@[simp] theorem setScrollState_scroll_cruise (new : ScrollState) (c : ScrollCause) (s : State) : (setScrollState new c s).scroll.cruise = s.scroll.cruise := by
  unfold setScrollState; split <;> simp
@[simp] theorem setScrollState_scroll_lastDemand (new : ScrollState) (c : ScrollCause) (s : State) : (setScrollState new c s).scroll.lastDemand = s.scroll.lastDemand := by
  unfold setScrollState; split <;> simp
@[simp] theorem setScrollState_scroll_vmax (new : ScrollState) (c : ScrollCause) (s : State) : (setScrollState new c s).scroll.vmax = s.scroll.vmax := by
  unfold setScrollState; split <;> simp
@[simp] theorem setScrollState_scroll_accel (new : ScrollState) (c : ScrollCause) (s : State) : (setScrollState new c s).scroll.accel = s.scroll.accel := by
  unfold setScrollState; split <;> simp
@[simp] theorem setScrollState_scroll_brake (new : ScrollState) (c : ScrollCause) (s : State) : (setScrollState new c s).scroll.brake = s.scroll.brake := by
  unfold setScrollState; split <;> simp
@[simp] theorem setScrollState_scroll_keyStep (new : ScrollState) (c : ScrollCause) (s : State) : (setScrollState new c s).scroll.keyStep = s.scroll.keyStep := by
  unfold setScrollState; split <;> simp
@[simp] theorem setScrollState_scroll_curve (new : ScrollState) (c : ScrollCause) (s : State) : (setScrollState new c s).scroll.curve = s.scroll.curve := by
  unfold setScrollState; split <;> simp
@[simp] theorem setScrollState_scroll_setting (new : ScrollState) (c : ScrollCause) (s : State) : (setScrollState new c s).scroll.setting = s.scroll.setting := by
  unfold setScrollState; split <;> simp
@[simp] theorem setScrollState_scroll_inUse (new : ScrollState) (c : ScrollCause) (s : State) : (setScrollState new c s).scroll.inUse = s.scroll.inUse := by
  unfold setScrollState; split <;> simp
@[simp] theorem setScrollState_scroll_frameTimer (new : ScrollState) (c : ScrollCause) (s : State) : (setScrollState new c s).scroll.frameTimer = s.scroll.frameTimer := by
  unfold setScrollState; split <;> simp
@[simp] theorem setScrollState_scroll_framesOwed (new : ScrollState) (c : ScrollCause) (s : State) : (setScrollState new c s).scroll.framesOwed = s.scroll.framesOwed := by
  unfold setScrollState; split <;> simp
@[simp] theorem setScrollState_link_receiver (new : ScrollState) (c : ScrollCause) (s : State) : (setScrollState new c s).link.receiver = s.link.receiver := by
  unfold setScrollState; split <;> simp
@[simp] theorem setScrollState_link_received (new : ScrollState) (c : ScrollCause) (s : State) : (setScrollState new c s).link.received = s.link.received := by
  unfold setScrollState; split <;> simp
@[simp] theorem setScrollState_link_replies (new : ScrollState) (c : ScrollCause) (s : State) : (setScrollState new c s).link.replies = s.link.replies := by
  unfold setScrollState; split <;> simp
@[simp] theorem setScrollState_link_slot (new : ScrollState) (c : ScrollCause) (s : State) : (setScrollState new c s).link.slot = s.link.slot := by
  unfold setScrollState; split <;> simp
@[simp] theorem setScrollState_link_interval (new : ScrollState) (c : ScrollCause) (s : State) : (setScrollState new c s).link.interval = s.link.interval := by
  unfold setScrollState; split <;> simp
@[simp] theorem setScrollState_link_frameCount (new : ScrollState) (c : ScrollCause) (s : State) : (setScrollState new c s).link.frameCount = s.link.frameCount := by
  unfold setScrollState; split <;> simp
@[simp] theorem setScrollState_link_reportNumber (new : ScrollState) (c : ScrollCause) (s : State) : (setScrollState new c s).link.reportNumber = s.link.reportNumber := by
  unfold setScrollState; split <;> simp
@[simp] theorem setScrollState_link_restart (new : ScrollState) (c : ScrollCause) (s : State) : (setScrollState new c s).link.restart = s.link.restart := by
  unfold setScrollState; split <;> simp
@[simp] theorem setScrollState_link_rate (new : ScrollState) (c : ScrollCause) (s : State) : (setScrollState new c s).link.rate = s.link.rate := by
  unfold setScrollState; split <;> simp
@[simp] theorem setScrollState_link_sending (new : ScrollState) (c : ScrollCause) (s : State) : (setScrollState new c s).link.sending = s.link.sending := by
  unfold setScrollState; split <;> simp

/-! ### The frame source -/

@[simp] theorem refreshSource_pending (s : State) : (refreshSource s).pending = s.pending := by unfold refreshSource; split <;> rfl
@[simp] theorem refreshSource_store (s : State) : (refreshSource s).store = s.store := by unfold refreshSource; split <;> rfl
@[simp] theorem refreshSource_edit (s : State) : (refreshSource s).edit = s.edit := by unfold refreshSource; split <;> rfl
@[simp] theorem refreshSource_layout (s : State) : (refreshSource s).layout = s.layout := by unfold refreshSource; split <;> rfl
@[simp] theorem refreshSource_hub (s : State) : (refreshSource s).hub = s.hub := by unfold refreshSource; split <;> rfl
@[simp] theorem refreshSource_cues (s : State) : (refreshSource s).cues = s.cues := by unfold refreshSource; split <;> rfl
@[simp] theorem refreshSource_heads (s : State) : (refreshSource s).heads = s.heads := by unfold refreshSource; split <;> rfl
@[simp] theorem refreshSource_job (s : State) : (refreshSource s).job = s.job := by unfold refreshSource; split <;> rfl
@[simp] theorem refreshSource_resetHeld (s : State) : (refreshSource s).resetHeld = s.resetHeld := by unfold refreshSource; split <;> rfl
@[simp] theorem refreshSource_fresh (s : State) : (refreshSource s).fresh = s.fresh := by unfold refreshSource; split <;> rfl
@[simp] theorem refreshSource_scroll_p (s : State) : (refreshSource s).scroll.p = s.scroll.p := by
  unfold refreshSource; split <;> rfl
@[simp] theorem refreshSource_scroll_v (s : State) : (refreshSource s).scroll.v = s.scroll.v := by
  unfold refreshSource; split <;> rfl
@[simp] theorem refreshSource_scroll_direction (s : State) : (refreshSource s).scroll.direction = s.scroll.direction := by
  unfold refreshSource; split <;> rfl
@[simp] theorem refreshSource_scroll_cruise (s : State) : (refreshSource s).scroll.cruise = s.scroll.cruise := by
  unfold refreshSource; split <;> rfl
@[simp] theorem refreshSource_scroll_lastDemand (s : State) : (refreshSource s).scroll.lastDemand = s.scroll.lastDemand := by
  unfold refreshSource; split <;> rfl
@[simp] theorem refreshSource_scroll_vmax (s : State) : (refreshSource s).scroll.vmax = s.scroll.vmax := by
  unfold refreshSource; split <;> rfl
@[simp] theorem refreshSource_scroll_accel (s : State) : (refreshSource s).scroll.accel = s.scroll.accel := by
  unfold refreshSource; split <;> rfl
@[simp] theorem refreshSource_scroll_brake (s : State) : (refreshSource s).scroll.brake = s.scroll.brake := by
  unfold refreshSource; split <;> rfl
@[simp] theorem refreshSource_scroll_keyStep (s : State) : (refreshSource s).scroll.keyStep = s.scroll.keyStep := by
  unfold refreshSource; split <;> rfl
@[simp] theorem refreshSource_scroll_curve (s : State) : (refreshSource s).scroll.curve = s.scroll.curve := by
  unfold refreshSource; split <;> rfl
@[simp] theorem refreshSource_scroll_setting (s : State) : (refreshSource s).scroll.setting = s.scroll.setting := by
  unfold refreshSource; split <;> rfl
@[simp] theorem refreshSource_scroll_framesOwed (s : State) : (refreshSource s).scroll.framesOwed = s.scroll.framesOwed := by
  unfold refreshSource; split <;> rfl
@[simp] theorem refreshSource_scroll_state (s : State) : (refreshSource s).scroll.state = s.scroll.state := by
  unfold refreshSource; split <;> rfl

@[simp] theorem refreshSource_link (s : State) : (refreshSource s).link = s.link := by unfold refreshSource; split <;> rfl

/-- The source in use after the decision is the one wanted (R89). -/
theorem refreshSource_inUse (s : State) : (refreshSource s).scroll.inUse = wantedSource s := by
  unfold refreshSource
  split
  · rename_i h; exact h.symm
  · rfl

/-! ### Story states -/

@[simp] theorem recomputeStates_pending (s : State) : (recomputeStates s).pending = s.pending := by unfold recomputeStates; dsimp only; split <;> simp
@[simp] theorem recomputeStates_edit (s : State) : (recomputeStates s).edit = s.edit := by unfold recomputeStates; dsimp only; split <;> simp
@[simp] theorem recomputeStates_layout (s : State) : (recomputeStates s).layout = s.layout := by unfold recomputeStates; dsimp only; split <;> simp
@[simp] theorem recomputeStates_scroll (s : State) : (recomputeStates s).scroll = s.scroll := by unfold recomputeStates; dsimp only; split <;> simp
@[simp] theorem recomputeStates_hub (s : State) : (recomputeStates s).hub = s.hub := by unfold recomputeStates; dsimp only; split <;> simp
@[simp] theorem recomputeStates_cues (s : State) : (recomputeStates s).cues = s.cues := by unfold recomputeStates; dsimp only; split <;> simp
@[simp] theorem recomputeStates_heads (s : State) : (recomputeStates s).heads = s.heads := by unfold recomputeStates; dsimp only; split <;> simp
@[simp] theorem recomputeStates_job (s : State) : (recomputeStates s).job = s.job := by unfold recomputeStates; dsimp only; split <;> simp
@[simp] theorem recomputeStates_resetHeld (s : State) : (recomputeStates s).resetHeld = s.resetHeld := by unfold recomputeStates; dsimp only; split <;> simp
@[simp] theorem recomputeStates_fresh (s : State) : (recomputeStates s).fresh = s.fresh := by unfold recomputeStates; dsimp only; split <;> simp
@[simp] theorem recomputeStates_store_insertions (s : State) : (recomputeStates s).store.insertions = s.store.insertions := by
  unfold recomputeStates; dsimp only; split <;> simp
@[simp] theorem recomputeStates_store_edition (s : State) : (recomputeStates s).store.edition = s.store.edition := by
  unfold recomputeStates; dsimp only; split <;> simp
@[simp] theorem recomputeStates_store_freeCount (s : State) : (recomputeStates s).store.freeCount = s.store.freeCount := by
  unfold recomputeStates; dsimp only; split <;> simp
@[simp] theorem recomputeStates_link_receiver (s : State) : (recomputeStates s).link.receiver = s.link.receiver := by
  unfold recomputeStates; dsimp only; split <;> simp
@[simp] theorem recomputeStates_link_received (s : State) : (recomputeStates s).link.received = s.link.received := by
  unfold recomputeStates; dsimp only; split <;> simp
@[simp] theorem recomputeStates_link_replies (s : State) : (recomputeStates s).link.replies = s.link.replies := by
  unfold recomputeStates; dsimp only; split <;> simp
@[simp] theorem recomputeStates_link_slot (s : State) : (recomputeStates s).link.slot = s.link.slot := by
  unfold recomputeStates; dsimp only; split <;> simp
@[simp] theorem recomputeStates_link_interval (s : State) : (recomputeStates s).link.interval = s.link.interval := by
  unfold recomputeStates; dsimp only; split <;> simp
@[simp] theorem recomputeStates_link_frameCount (s : State) : (recomputeStates s).link.frameCount = s.link.frameCount := by
  unfold recomputeStates; dsimp only; split <;> simp
@[simp] theorem recomputeStates_link_reportNumber (s : State) : (recomputeStates s).link.reportNumber = s.link.reportNumber := by
  unfold recomputeStates; dsimp only; split <;> simp
@[simp] theorem recomputeStates_link_restart (s : State) : (recomputeStates s).link.restart = s.link.restart := by
  unfold recomputeStates; dsimp only; split <;> simp
@[simp] theorem recomputeStates_link_rate (s : State) : (recomputeStates s).link.rate = s.link.rate := by
  unfold recomputeStates; dsimp only; split <;> simp
@[simp] theorem recomputeStates_link_sending (s : State) : (recomputeStates s).link.sending = s.link.sending := by
  unfold recomputeStates; dsimp only; split <;> simp

/-- Raising a notice does to the link what the link alone decides (R163). -/
theorem raise_link_congr (n : Notice) (s t : State) (h : s.link = t.link) : (raise n s).link = (raise n t).link := by
  unfold raise
  rw [h]
  split <;> simp

/-- The link after a recomputation: ON_AIR is raised where the on-air id changes (R10). -/
theorem recomputeStates_link (s : State) :
    (recomputeStates s).link =
      if (recomputeStates s).store.onAirId = s.store.onAirId then s.link
      else (raise (.onAir (recomputeStates s).store.onAirId) s).link := by
  unfold recomputeStates
  dsimp only
  split
  · simp_all
  · rename_i h
    simp only [raise_store, h, if_false]
    exact raise_link_congr _ _ _ rfl

/-- A recomputation changes only the states (R9). -/
theorem recomputeFrom_frame (f : Story → α) (hf : ∀ st x, f { st with state := x } = f st) (r n : Nat) (l : List Story) :
    (recomputeFrom r n l).map f = l.map f := by
  induction l generalizing n with
  | nil => rfl
  | cons st rest ih => simp [recomputeFrom, hf, ih]

theorem recomputeStates_stories (s : State) :
    (recomputeStates s).store.stories = recomputeFrom (readingRow s.scroll.p s.rows) 0 s.store.stories := by
  unfold recomputeStates
  dsimp only
  split <;> simp

theorem recomputeStates_onAirId (s : State) :
    (recomputeStates s).store.onAirId = onAirOf (recomputeFrom (readingRow s.scroll.p s.rows) 0 s.store.stories) := by
  unfold recomputeStates
  dsimp only
  split <;> simp

@[simp] theorem recomputeStates_rows (s : State) : (recomputeStates s).rows = s.rows := by
  unfold State.rows totalRows
  rw [recomputeStates_stories, recomputeFrom_frame Story.rowCount (fun _ _ => rfl)]

/-! ### The release of pending edits -/

/-- With nothing pending, a release changes nothing (R39). -/
theorem release_nil (s : State) (h : s.edit.pending = []) : release s = s := by
  unfold release
  split
  · rfl
  · simp [h, releaseLoop, releasePass]

/-- One record's turn in a pass: nothing happens, or a record that is neither blocked nor held by the window is settled (R39). -/
theorem releaseOne_eq (acc : State × Bool) (arrival : Nat) :
    releaseOne acc arrival = acc
      ∨ ∃ r ∈ acc.1.edit.pending, r.arrival = arrival ∧ blocked r acc.1 = false ∧ heldByWindow acc.1 r.edit = false
        ∧ releaseOne acc arrival = (settlePending r acc.1, true) := by
  unfold releaseOne
  split
  · exact .inl rfl
  · rename_i r h
    by_cases held : (blocked r acc.1 || heldByWindow acc.1 r.edit) = true
    · exact .inl (if_pos held)
    · have free := Bool.or_eq_false_iff.mp (Bool.eq_false_iff.mpr held)
      exact .inr ⟨r, List.mem_of_find?_eq_some h, by simpa using List.find?_some h, free.1, free.2, if_neg held⟩

/-! ### The layout unit's answer for a row -/

/-- A row of the script has the identity of its story and its place in it, and the marks that lie in it (R53, R54). -/
theorem rowAnswer_eq {stories : List Story} {layout : Layout} {r : Nat} {a : RowAnswer}
    (h : rowAnswer stories layout r = some a) :
    ∃ st k, storyAtRow stories r = some (st, k) ∧ a.identity = ⟨st.id, st.revision, k, layout.generation⟩
      ∧ a.marks = if a.line = none then [] else rowMarks layout.marks r := by
  obtain ⟨⟨st, k⟩, found, rfl⟩ := Option.map_eq_some_iff.mp h
  refine ⟨st, k, found, ?_⟩
  rcases place : rowPlace st k with _ | _ | _ <;> simp [answerInStory, place]

/-! ### The MARK key -/

/-- The MARK key gives the position of the state the report found, whatever the other keys have done since (R101, R102). -/
theorem markKey_eq (n : Fin 6) (pressed : KeySet) (taken s : State) :
    (KeySet.has pressed 7 = true
        ∧ markKey n pressed taken s = raise (.markKey n taken.scroll.p (takeAnchor taken.store.stories taken.scroll.p)) s)
      ∨ (KeySet.has pressed 7 = false ∧ markKey n pressed taken s = s) := by
  cases h : KeySet.has pressed 7
  · exact .inr ⟨rfl, by simp [markKey, h]⟩
  · exact .inl ⟨rfl, by simp [markKey, h]⟩

end Sys2Proof.Machine
end

