-- ==== Sys2Proof/Laws/PerInstr.lean ====
section
/-! SUPPORT. Laws/PerInstr.lean: one lemma for each row of the table: a well-formed command's payload has a length that a frame can
have (R158), and an event has none. -/

namespace Sys2Proof.Laws

/-- The bytes of an action list (R170). -/
theorem length_flatMap_bytesAction (actions : List ActionField) : (actions.flatMap bytesAction).length = 4 * actions.length := by
  induction actions with
  | nil => rfl
  | cons a rest ih =>
    rw [List.flatMap_cons, List.length_append, ih, List.length_cons]
    simp [bytesAction]
    omega

/-- A well-formed term's payload is empty (an event) or 2..220 bytes long (R158). -/
def Framing.Statement (i : Instr) : Prop :=
  i.wf = true → payloadOf i = [] ∨ (2 ≤ (payloadOf i).length ∧ (payloadOf i).length ≤ 220)

theorem Framing.identify (seq : Byte) : Framing.Statement (.identify seq) := by
  exact fun _ => .inr ⟨Nat.le_of_ble_eq_true rfl, Nat.le_of_ble_eq_true rfl⟩

theorem Framing.status (seq : Byte) : Framing.Statement (.status seq) := by
  exact fun _ => .inr ⟨Nat.le_of_ble_eq_true rfl, Nat.le_of_ble_eq_true rfl⟩

theorem Framing.restart (seq : Byte) : Framing.Statement (.restart seq) := by
  exact fun _ => .inr ⟨Nat.le_of_ble_eq_true rfl, Nat.le_of_ble_eq_true rfl⟩

theorem Framing.clearShow (seq : Byte) : Framing.Statement (.clearShow seq) := by
  exact fun _ => .inr ⟨Nat.le_of_ble_eq_true rfl, Nat.le_of_ble_eq_true rfl⟩

theorem Framing.unknownCommand (code seq : Byte) (rest : List Byte) :
    Framing.Statement (.unknownCommand code seq rest) := by
  intro h
  refine .inr ⟨by simp [payloadOf], ?_⟩
  simp [Instr.wf, payloadOf] at h ⊢
  omega

theorem Framing.setColumns (seq columns : Byte) : Framing.Statement (.setColumns seq columns) := by
  exact fun _ => .inr ⟨Nat.le_of_ble_eq_true rfl, Nat.le_of_ble_eq_true rfl⟩

theorem Framing.setMotion (seq : Byte) (vmax a b delay : Word16) (priority : Byte) (k : Word16) (p : Byte) :
    Framing.Statement (.setMotion seq vmax a b delay priority k p) := by
  exact fun _ => .inr ⟨Nat.le_of_ble_eq_true rfl, Nat.le_of_ble_eq_true rfl⟩

theorem Framing.setCurve (seq : Byte) (q : Vector Word16 9) : Framing.Statement (.setCurve seq q) := by
  exact fun _ => .inr ⟨Nat.le_of_ble_eq_true rfl, Nat.le_of_ble_eq_true rfl⟩

theorem Framing.setPort (seq port enabled role : Byte) (timeout : Word16) (gain dead reverse : Byte) (step : Word16) :
    Framing.Statement (.setPort seq port enabled role timeout gain dead reverse step) := by
  exact fun _ => .inr ⟨Nat.le_of_ble_eq_true rfl, Nat.le_of_ble_eq_true rfl⟩

theorem Framing.setFrameSource (seq source rate : Byte) : Framing.Statement (.setFrameSource seq source rate) := by
  exact fun _ => .inr ⟨Nat.le_of_ble_eq_true rfl, Nat.le_of_ble_eq_true rfl⟩

theorem Framing.setReporting (seq interval : Byte) : Framing.Statement (.setReporting seq interval) := by
  exact fun _ => .inr ⟨Nat.le_of_ble_eq_true rfl, Nat.le_of_ble_eq_true rfl⟩

theorem Framing.loadOpen (seq tag : Byte) (editTag : Word16) (mode : Byte) (story n : Word16) (placeKind : Byte) (placeId : Word16) (force : Byte) (slug : List Byte) :
    Framing.Statement (.loadOpen seq tag editTag mode story n placeKind placeId force slug) := by
  intro h
  refine .inr ⟨by simp [payloadOf], ?_⟩
  simp [Instr.wf, payloadOf, bytes16] at h ⊢
  omega

theorem Framing.loadLine (seq tag : Byte) (text : List Byte) : Framing.Statement (.loadLine seq tag text) := by
  intro h
  refine .inr ⟨by simp [payloadOf], ?_⟩
  simp [Instr.wf, payloadOf] at h ⊢
  omega

theorem Framing.loadLast (seq tag : Byte) (text : List Byte) : Framing.Statement (.loadLast seq tag text) := by
  intro h
  refine .inr ⟨by simp [payloadOf], ?_⟩
  simp [Instr.wf, payloadOf] at h ⊢
  omega

theorem Framing.loadCancel (seq tag : Byte) : Framing.Statement (.loadCancel seq tag) := by
  exact fun _ => .inr ⟨Nat.le_of_ble_eq_true rfl, Nat.le_of_ble_eq_true rfl⟩

theorem Framing.storyDelete (seq : Byte) (editTag story : Word16) (force : Byte) :
    Framing.Statement (.storyDelete seq editTag story force) := by
  exact fun _ => .inr ⟨Nat.le_of_ble_eq_true rfl, Nat.le_of_ble_eq_true rfl⟩

theorem Framing.storyMove (seq : Byte) (editTag story : Word16) (placeKind : Byte) (placeId : Word16) (force : Byte) :
    Framing.Statement (.storyMove seq editTag story placeKind placeId force) := by
  exact fun _ => .inr ⟨Nat.le_of_ble_eq_true rfl, Nat.le_of_ble_eq_true rfl⟩

theorem Framing.storySkip (seq : Byte) (editTag story : Word16) (request force : Byte) :
    Framing.Statement (.storySkip seq editTag story request force) := by
  exact fun _ => .inr ⟨Nat.le_of_ble_eq_true rfl, Nat.le_of_ble_eq_true rfl⟩

theorem Framing.editCancel (seq : Byte) (editTag : Word16) : Framing.Statement (.editCancel seq editTag) := by
  exact fun _ => .inr ⟨Nat.le_of_ble_eq_true rfl, Nat.le_of_ble_eq_true rfl⟩

theorem Framing.readStory (seq : Byte) (story : Word16) : Framing.Statement (.readStory seq story) := by
  exact fun _ => .inr ⟨Nat.le_of_ble_eq_true rfl, Nat.le_of_ble_eq_true rfl⟩

theorem Framing.readRundown (seq first : Byte) : Framing.Statement (.readRundown seq first) := by
  exact fun _ => .inr ⟨Nat.le_of_ble_eq_true rfl, Nat.le_of_ble_eq_true rfl⟩

theorem Framing.scrollStop (seq : Byte) : Framing.Statement (.scrollStop seq) := by
  exact fun _ => .inr ⟨Nat.le_of_ble_eq_true rfl, Nat.le_of_ble_eq_true rfl⟩

theorem Framing.scrollResume (seq : Byte) : Framing.Statement (.scrollResume seq) := by
  exact fun _ => .inr ⟨Nat.le_of_ble_eq_true rfl, Nat.le_of_ble_eq_true rfl⟩

theorem Framing.scrollSpeed (seq : Byte) (speed : Word16) : Framing.Statement (.scrollSpeed seq speed) := by
  exact fun _ => .inr ⟨Nat.le_of_ble_eq_true rfl, Nat.le_of_ble_eq_true rfl⟩

theorem Framing.jump (seq kind : Byte) (story line rows : Word16) :
    Framing.Statement (.jump seq kind story line rows) := by
  exact fun _ => .inr ⟨Nat.le_of_ble_eq_true rfl, Nat.le_of_ble_eq_true rfl⟩

theorem Framing.readPosition (seq : Byte) : Framing.Statement (.readPosition seq) := by
  exact fun _ => .inr ⟨Nat.le_of_ble_eq_true rfl, Nat.le_of_ble_eq_true rfl⟩

theorem Framing.cueDefine (seq cue : Byte) (actions : List ActionField) :
    Framing.Statement (.cueDefine seq cue actions) := by
  intro h
  refine .inr ⟨by simp [payloadOf], ?_⟩
  have := length_flatMap_bytesAction actions
  simp [Instr.wf, payloadOf] at h this ⊢
  omega

theorem Framing.cueRead (seq cue : Byte) : Framing.Statement (.cueRead seq cue) := by
  exact fun _ => .inr ⟨Nat.le_of_ble_eq_true rfl, Nat.le_of_ble_eq_true rfl⟩

theorem Framing.outputSet (seq mask operation duration : Byte) :
    Framing.Statement (.outputSet seq mask operation duration) := by
  exact fun _ => .inr ⟨Nat.le_of_ble_eq_true rfl, Nat.le_of_ble_eq_true rfl⟩

theorem Framing.headConfig (seq head : Byte) (width height : Word16) (scale leading : Byte) (margin : Word16) (readingRow rate : Byte) :
    Framing.Statement (.headConfig seq head width height scale leading margin readingRow rate) := by
  exact fun _ => .inr ⟨Nat.le_of_ble_eq_true rfl, Nat.le_of_ble_eq_true rfl⟩

theorem Framing.headStart (seq head : Byte) : Framing.Statement (.headStart seq head) := by
  exact fun _ => .inr ⟨Nat.le_of_ble_eq_true rfl, Nat.le_of_ble_eq_true rfl⟩

theorem Framing.headStop (seq head : Byte) : Framing.Statement (.headStop seq head) := by
  exact fun _ => .inr ⟨Nat.le_of_ble_eq_true rfl, Nat.le_of_ble_eq_true rfl⟩

theorem Framing.headBlank (seq head : Byte) : Framing.Statement (.headBlank seq head) := by
  exact fun _ => .inr ⟨Nat.le_of_ble_eq_true rfl, Nat.le_of_ble_eq_true rfl⟩

theorem Framing.headUnblank (seq head : Byte) : Framing.Statement (.headUnblank seq head) := by
  exact fun _ => .inr ⟨Nat.le_of_ble_eq_true rfl, Nat.le_of_ble_eq_true rfl⟩

theorem Framing.headAppearance (seq head : Byte) (fields : AppearanceFields) :
    Framing.Statement (.headAppearance seq head fields) := by
  exact fun _ => .inr ⟨Nat.le_of_ble_eq_true rfl, Nat.le_of_ble_eq_true rfl⟩

theorem Framing.headRead (seq head : Byte) : Framing.Statement (.headRead seq head) := by
  exact fun _ => .inr ⟨Nat.le_of_ble_eq_true rfl, Nat.le_of_ble_eq_true rfl⟩

theorem Framing.linkFrame (bytes : List Byte) : Framing.Statement (.linkFrame bytes) := by
  exact fun _ => .inl rfl

theorem Framing.byteGapTimeout : Framing.Statement (.byteGapTimeout) := by
  exact fun _ => .inl rfl

theorem Framing.lineBreak : Framing.Statement (.lineBreak) := by
  exact fun _ => .inl rfl

theorem Framing.transmitDone : Framing.Statement (.transmitDone) := by
  exact fun _ => .inl rfl

theorem Framing.controllerReport (port : Fin 6) (bytes : List Byte) :
    Framing.Statement (.controllerReport port bytes) := by
  exact fun _ => .inl rfl

theorem Framing.portByteGapTimeout (port : Fin 6) : Framing.Statement (.portByteGapTimeout port) := by
  exact fun _ => .inl rfl

theorem Framing.reportTimeout (port : Fin 6) : Framing.Statement (.reportTimeout port) := by
  exact fun _ => .inl rfl

theorem Framing.releaseTimerExpiry : Framing.Statement (.releaseTimerExpiry) := by
  exact fun _ => .inl rfl

theorem Framing.loadIdleTimeout (tag : Byte) : Framing.Statement (.loadIdleTimeout tag) := by
  exact fun _ => .inl rfl

theorem Framing.internalTimerExpiry : Framing.Statement (.internalTimerExpiry) := by
  exact fun _ => .inl rfl

theorem Framing.scrollFrame : Framing.Statement (.scrollFrame) := by
  exact fun _ => .inl rfl

theorem Framing.frameStart (head : Fin 4) : Framing.Statement (.frameStart head) := by
  exact fun _ => .inl rfl

theorem Framing.syncLossExpiry (head : Fin 4) : Framing.Statement (.syncLossExpiry head) := by
  exact fun _ => .inl rfl

theorem Framing.renderComplete : Framing.Statement (.renderComplete) := by
  exact fun _ => .inl rfl

theorem Framing.pulseEnd (line : Fin 8) : Framing.Statement (.pulseEnd line) := by
  exact fun _ => .inl rfl

theorem Framing.reflowComplete : Framing.Statement (.reflowComplete) := by
  exact fun _ => .inl rfl

theorem Framing.powerUp (straps : LinkRate) : Framing.Statement (.powerUp straps) := by
  exact fun _ => .inl rfl

theorem Framing.resetPinAssert : Framing.Statement (.resetPinAssert) := by
  exact fun _ => .inl rfl

theorem Framing.resetPinRelease (straps : LinkRate) : Framing.Statement (.resetPinRelease straps) := by
  exact fun _ => .inl rfl

theorem Framing.restartReset (straps : LinkRate) : Framing.Statement (.restartReset straps) := by
  exact fun _ => .inl rfl

end Sys2Proof.Laws
end

