-- ==== Sys2Proof/Laws/Terms.lean ====
section
/-! SUPPORT. Laws/Terms.lean: the small lemmas of the statements' own terms (Safety.lean). -/

namespace Sys2Proof.Machine

/-! ### Notices raised one after another (R163) -/

@[simp] theorem noticesRaised_nil (s : State) : noticesRaised [] s = s := rfl

@[simp] theorem noticesRaised_cons (n : Notice) (ns : List Notice) (s : State) :
    noticesRaised (n :: ns) s = noticesRaised ns (raise n s) := rfl

theorem noticesRaised_append (a b : List Notice) (s : State) :
    noticesRaised (a ++ b) s = noticesRaised b (noticesRaised a s) := by
  simp [noticesRaised]

theorem noticesRaised_link_congr (ns : List Notice) (s t : State) (h : s.link = t.link) :
    (noticesRaised ns s).link = (noticesRaised ns t).link := by
  induction ns generalizing s t with
  | nil => exact h
  | cons n ns ih => exact ih _ _ (raise_link_congr n s t h)

/-- A change of scroll state raises what `stateNotices` gives (R72). -/
theorem setScrollState_link (new : ScrollState) (cause : ScrollCause) (s : State) :
    (setScrollState new cause s).link = (noticesRaised (stateNotices cause s (setScrollState new cause s)) s).link := by
  unfold setScrollState
  split
  · simp [stateNotices]
  · rename_i h
    have h' : ¬ new = s.scroll.state := fun e => h e.symm
    simp only [stateNotices, raise_scroll, h', if_false, noticesRaised_cons, noticesRaised_nil]
    exact raise_link_congr _ _ _ rfl

/-- A recomputation of the states raises what `onAirNotices` gives (R10). -/
theorem recomputeStates_link_notices (s : State) :
    (recomputeStates s).link = (noticesRaised (onAirNotices s (recomputeStates s)) s).link := by
  rw [recomputeStates_link]
  unfold onAirNotices
  split <;> simp

end Sys2Proof.Machine
end

