-- ==== Sys2Proof/Tests/Slice0.lean ====
section
/-! SUPPORT. Slice0.lean: the smoke tests of WellFormed, the spec's worked examples, and for every statement that has
hypotheses a state and operands that meet them, at the ends of the ranges its clauses name. -/

namespace Sys2Proof.Tests
open Sys2Proof.Machine

set_option maxRecDepth 10000

/-! ## WellFormed refuses -/

theorem test_wf_code_of_a_command : (Instr.unknownCommand 0x01 0 []).wf = false := by decide
theorem test_wf_unknown_too_long : (Instr.unknownCommand 0x7F 0 (List.replicate 219 0)).wf = false := by decide
theorem test_wf_slug_too_long : (Instr.loadOpen 0 1 0 0 1 1 0 0 0 (List.replicate 206 0)).wf = false := by decide
theorem test_wf_line_too_long : (Instr.loadLine 0 1 (List.replicate 218 0)).wf = false := by decide
theorem test_wf_last_too_long : (Instr.loadLast 0 1 (List.replicate 218 0)).wf = false := by decide
theorem test_wf_too_many_actions : (Instr.cueDefine 0 1 (List.replicate 55 ⟨1, 0, 0⟩)).wf = false := by decide
theorem test_no_row_has_bits : decodeTableWord 16 0x0001 = none := by decide

/-! ## States -/

/-- A one-line story with a given row count. -/
def story (id rows : Nat) : Story := ⟨id, [], .ready, 0, [[0x41]], rows, 0, 0, some (layoutStory 24 [] [[0x41]])⟩

def onScript (stories : List Story) : State :=
  { State.reset with store := { State.reset.store with stories := stories, freeCount := 4096 - stories.length } }

def inLayout (f : Layout → Layout) (s : State) : State := { s with layout := f s.layout }
def inLink (f : Link → Link) (s : State) : State := { s with link := f s.link }
def inScroll (f : Scroll → Scroll) (s : State) : State := { s with scroll := f s.scroll }
def inEdit (f : EditUnit → EditUnit) (s : State) : State := { s with edit := f s.edit }
def inHub (f : Hub → Hub) (s : State) : State := { s with hub := f s.hub }
def inHead (f : Head → Head) : State := State.reset.modHead 3 f
def inPort (n : Fin 6) (f : Port → Port) (s : State) : State := s.modPort n f

/-- A LIVE lever on port 0, at rest. -/
def liveLever : State :=
  inPort 0 (fun x => { x with state := .live, kind := some .lever, value := .deflection false 0, timer := some 0 }) State.reset

/-- That lever holding authority. -/
def leverHeld : State := inHub (fun h => { h with holder := some ⟨0, .operator, .lever⟩, releaseTimer := some 0 }) liveLever

def leverReport (raw : Byte) : ControlReport := ⟨.lever, raw, 0⟩

def load (mode : LoadMode) (n received : Nat) : Load :=
  ⟨255, 7, mode, 101, n, .atEnd, [], false, List.replicate n [], received, 0, 0⟩

def loading (l : Load) : State := inEdit (fun e => { e with loads := [l] }) State.reset

/-- An OK answer to the first command that a state takes. -/
def answersOk (i : Instr) (s : State) : Bool :=
  match exec i s with
  | .next t => t.link.replies.any fun r => decide (r.result = .ok)
  | .fault _ => false
  | .refused _ => false

/-- The state after one command, the given state where there is none. -/
def after (i : Instr) (s : State) : State :=
  match exec i s with
  | .next t => t
  | .fault _ => s
  | .refused _ => s

/-! ## The spec's worked examples -/

/-- "ABCDEFGH " at C = 8 (R49). -/
theorem test_wrap_empty_last_row :
    wrapLine 8 [0x41, 0x42, 0x43, 0x44, 0x45, 0x46, 0x47, 0x48, 0x20] = [⟨0, 8⟩, ⟨9, 0⟩] := by decide

/-- A word of 30 characters at C = 24 makes rows of 24 and 6 (chapter 3, Examples: Wrapping). -/
theorem test_wrap_hard_break : wrapLine 24 (List.replicate 30 0x41) = [⟨0, 24⟩, ⟨24, 6⟩] := by decide

/-- From v = 74 with d = 80 and A = 8 the velocity becomes 80 (chapter 4, frame 4 of the worked case). -/
theorem test_velocity_frame_four : velocityStep 8 16 74 80 = 80 := by decide

/-- At +70 a port with gain 64 gives d = 64 (chapter 4, the end clamp): a raw 70 decodes to m = 70 × 128 / 127 = 70. -/
theorem test_lever_demand :
    leverDemand defaultCurve 2048 { Port.reset 0 with value := valueGiven (leverReport 70) false } = 64 := by decide

/-- The window of the default geometry at p = 102,678 (chapter 7, The Window). -/
theorem test_window :
    let w := ((after (.frameStart 3) (inScroll (fun c => { c with p := 102678 })
      (inHead fun h => { h with state := .running }))).heads[3]).window
    (w.topRow, w.bottomRow, w.readingRow) = (97, 107, 100) := by decide

/-- The states at p = 12,290 with rows of 12, 30 and 8 (chapter 1, States as the Reading Line Moves). -/
theorem test_story_states :
    (recomputeStates (inScroll (fun c => { c with p := 12290 }) (onScript [story 101 12, story 103 30, story 104 8]))
      ).store.stories.map Story.state = [.read, .onAir, .ready] := by decide

/-- A cue line keeps its latch under a pulse, and CLEAR ends both (R126). -/
theorem test_output_clear :
    ((after (.outputSet 2 0x80 1 0) (after (.outputSet 1 0x80 2 255) State.reset)).cues.lines[7]) = ⟨false, 0⟩ := by decide

/-- A MOVE whose placement story has left the rundown is not protected (R39). -/
theorem test_move_without_its_place_is_not_held :
    heldByWindow (onScript [story 101 1]) ⟨7, 101, .move (.before 9)⟩ = false := by decide

/-- "A", a mark of cue 1 and "B" in row 0 (R53). -/
theorem test_row_answer_has_its_marks :
    let s := inLayout (fun l => { l with marks := [⟨0, 1, 101, 0, 1, 0, true⟩, ⟨1024, 2, 101, 1, 0, 0, true⟩] }) (onScript [story 101 1])
    (rowAnswer s.store.stories s.layout 0).map (fun a => (a.line, a.count, a.marks)) = some (some 0, 1, [1]) := by decide

/-- The timer that a sync loss starts stands at 0 in that millisecond (R90). -/
theorem test_sync_loss_starts_the_timer_at_zero :
    let s := inScroll (fun c => { c with setting := .head 3, inUse := .head 3, frameTimer := none })
      (inHead fun h => { h with state := .running, syncTimer := some 49 })
    ((tickMs s).scroll.inUse, (tickMs s).scroll.frameTimer) = (.internal .hz60, some 0) := by decide

/-- TOP and MARK in one report: the notice has the position before the jump (R102). -/
theorem test_mark_key_gives_the_position_of_the_report :
    (runKeys 0 0x0C0 (inScroll (fun c => { c with p := 512, state := .stopped }) (onScript [story 101 1]))
      ).link.notices.getLast? = some (.markKey 0 512 (some ⟨101, .line 0 0, 512⟩)) := by decide

/-- The frame of a STATUS command with sequence byte 05h: LEN 2, CHECK 100h - 02h - 02h - 05h (R158). -/
theorem test_status_frame : frameBytes [0x02, 0x05] = [0xC3, 0x02, 0x02, 0x05, 0xF7] := by decide

/-! ## Hypotheses that are met -/

/-- The statements of IDENTIFY, STATUS, CLEAR_SHOW, SET_COLUMNS and READ_RUNDOWN have no other hypothesis. -/
theorem test_witness_Ready : Ready State.reset := by decide

theorem test_witness_IdleStepIsAFrameOrAMillisecond :
    State.reset.pending = [] ∧ State.reset.resetHeld = false ∧ State.reset.scroll.framesOwed ≤ 0
      ∧ (after .resetPinAssert State.reset).pending = [] ∧ (after .resetPinAssert State.reset).resetHeld = true
      ∧ (let s := after .internalTimerExpiry State.reset
        s.pending = [] ∧ s.resetHeld = false ∧ 0 < s.scroll.framesOwed) := by decide

/-- Each timer one millisecond before its end, and one before that. -/
theorem test_witness_IdleStep_timers :
    ∀ late ∈ [0, 1],
      let s := inHub (fun h => { h with releaseTimer := some (598 + late) })
        (inPort 0 (fun x => { x with timer := some (248 + late) }) leverHeld)
      (decide (s.hub.ports[0].armedTimeout ≤ 248 + late + 1) = decide (late = 1))
        ∧ (decide (s.hub.releaseDelay ≤ 598 + late + 1) = decide (late = 1))
        ∧ (decide (syncPeriods .hz60 ≤ 48 + late + 1) = decide (late = 1)) ∧ s.hub.holder = some ⟨0, .operator, .lever⟩
        ∧ s.pending = [] ∧ s.resetHeld = false ∧ s.scroll.framesOwed ≤ 0
        ∧ ((loading { load .new 1 0 with idle := 4998 + late }).edit.loads.map Load.tag).Nodup := by decide

theorem test_witness_FullResetsCompleteWithTheirCause :
    State.reset.resetHeld = false ∧ (after .resetPinAssert State.reset).resetHeld = true
      ∧ (Instr.identify 0) ≠ .resetPinAssert
      ∧ (inLink (fun l => { l with restart := .due }) State.reset).link.restart = .due
      ∧ (let s := after .transmitDone (after (.restart 0) State.reset)
        s.link.restart = .replying ∧ s.link.sending = some .reply ∧ s.link.replies.length = 1) := by decide

theorem test_witness_FullResets_other_commands (straps : LinkRate) : Instr.identify 0 ≠ .resetPinRelease straps := nofun

theorem test_witness_TransmitDoneSendsTheNextInOrder :
    ∀ s ∈ [State.reset, after (.identify 0) State.reset, after .transmitDone State.reset,
        inLink (fun l => { l with notices := [], slot := some ⟨1, 0, 0, .idle, 0, none⟩, sending := none }) State.reset],
      s.resetHeld = false ∧ s.link.received = [] ∧ s.link.restart = .none ∧ LinkInv s := by decide

theorem test_witness_TransmitDone_restart_and_waiting :
    (let s := inLink (fun l => { l with restart := .replying, sending := some .reply, replies := [okReply 0x43 0 .bare] }) State.reset
    s.resetHeld = false ∧ s.link.sending = some .reply ∧ s.link.restart = .replying
        ∧ s.link.replies = [okReply 0x43 0 .bare])
      ∧ (let s := inLink (fun l =>
          { l with
            sending := some .reply
            replies := List.replicate 4 (okReply 0x41 0 .bare)
            received := [payloadOf (.status 1), payloadOf (.identify 2)] }) State.reset
        s.resetHeld = false ∧ s.link.sending = some .reply ∧ s.link.restart = .none
          ∧ s.link.replies = okReply 0x41 0 .bare :: List.replicate 3 (okReply 0x41 0 .bare)
          ∧ (List.replicate 3 (okReply 0x41 0 .bare)).length < 4
          ∧ s.link.received = payloadOf (.status 1) :: [payloadOf (.identify 2)]
          ∧ (Instr.status 1).isHostCommand = true ∧ (Instr.status 1).wf = true) := by decide

theorem test_witness_CommandThatCannotBeTakenWaits :
    (220 < (payloadOf (.loadLine 0 1 (List.replicate 218 0))).length
        ∧ (Instr.loadLine 0 1 (List.replicate 218 0)).isHostCommand = true)
      ∧ (Instr.identify 0).wf = true ∧ (Instr.identify 0).isHostCommand = true
      ∧ (after (.restart 0) State.reset).link.restart ≠ .none
      ∧ 4 ≤ (inLink (fun l => { l with replies := List.replicate 4 (okReply 0x41 0 .bare) }) State.reset).link.replies.length := by
  decide

theorem test_witness_FramesPassTheirOwnCheck :
    (List.replicate 220 (0xFF : Byte)).length ≤ 220 ∧ (ReplyBody.cue 0 (List.replicate 4 .pause) 0 0).bounded :=
  ⟨by decide, Nat.le_refl 4⟩

theorem test_witness_PayloadReadsBackAsItsCommand :
    ∀ i ∈ [Instr.loadLine 1 2 (List.replicate 217 0x41), .unknownCommand 0x7F 1 [2], .identify 0],
      i.wf = true ∧ i.isHostCommand = true := by decide

theorem test_witness_FrameOfACommandIsThatCommand :
    (Instr.identify 0).wf = true ∧ (Instr.identify 0).isHostCommand = true ∧ Ready State.reset
      ∧ State.reset.link.receiver = .hunting := by decide

theorem test_witness_FrameOfACommand_bounds :
    (∀ st ∈ State.reset.store.stories, st.slug.length ≤ 24) ∧ (∀ c : Fin 64, State.reset.cues.defs[c].length ≤ 4)
      ∧ payloadOf (.identify 9) = 0x01 :: 9 :: [] := by decide

theorem test_witness_BadFramesAreDiscarded :
    State.reset.resetHeld = false ∧ State.reset.link.receiver = .hunting ∧ (0xC3 : Byte) ∉ [(0x00 : Byte), 0xA5]
      ∧ ((1 : Byte).toNat < 2 ∧ 220 < (221 : Byte).toNat)
      ∧ BitVec.ofNat 8 2 + [(1 : Byte), 0].sum + 0 ≠ 0
      ∧ BitVec.ofNat 8 220 + (List.replicate 220 (0 : Byte)).sum + 0 ≠ 0 := by decide

theorem test_witness_BadFrames_on_a_port :
    (State.reset.hub.ports[5]).receiver = .hunting ∧ (0xA5 : Byte) ∉ [(0xC3 : Byte)]
      ∧ (¬ ((4 : Byte) = 4 ∧ ((4 : Byte) = 1 ∨ (4 : Byte) = 2 ∨ (4 : Byte) = 3)) ∧ ¬ ((4 : Byte) = 3 ∧ (4 : Byte) = 4))
      ∧ (4 : Byte) + 1 + 0 + 0 + 0 + 0 ≠ 0 ∧ (3 : Byte) + 4 + 0 + 0 + 0 ≠ 0 := by decide

theorem test_witness_EveryStepKeepsTheLinkQueues : LinkInv State.reset ∧ ∃ t, step State.reset = .next t :=
  ⟨by decide, _, rfl⟩

theorem test_witness_LinkCommandsAnswer :
    (0x00 : Byte) ∉ commandCodes ∧ (0xFF : Byte) ∉ commandCodes ∧ (List.replicate 218 (0 : Byte)).length ≤ 218 := by decide

/-- A byte too many, one too few, a count that does not agree, and a line without its tag. -/
theorem test_witness_LinkCommands_bad_length :
    (¬ fieldsFit 0x01 [0] ∧ ¬ fieldsFit 0x08 []) ∧ (¬ fieldsFit 0x28 [1, 2, 1, 0, 0, 0] ∧ ¬ fieldsFit 0x11 [])
      ∧ ¬ fieldsFit 0x10 (List.replicate 13 1) ∧ (0x28 : Byte) ∈ commandCodes := by
  refine ⟨⟨?_, ?_⟩, ⟨?_, ?_⟩, ?_, by decide⟩ <;> simp [fieldsFit, fieldAt]

/-- Every setting of SET_PORT at the top of its range, and each port number that is none's neighbour. -/
theorem test_witness_SetPortStoresTheSettings :
    answersOk (.setPort 0 5 1 1 1000 128 32 1 256) State.reset = true
      ∧ answersOk (.setPort 0 0 0 0 50 0 0 0 1) State.reset = true
      ∧ answersOk (.setPort 0 6 1 1 1000 128 32 1 256) State.reset = false
      ∧ answersOk (.setPort 0 0 0 0 49 0 0 0 1) State.reset = false := by decide

theorem test_witness_SetPort_states :
    (leverHeld.hub.ports[0]).state ≠ .off ∧ (∃ h ∈ leverHeld.hub.holder, h.port = 0)
      ∧ (∀ h ∈ leverHeld.hub.holder, h.port ≠ 5) ∧ (leverHeld.hub.ports[5]).state ≠ .off ∧ Ready leverHeld
      ∧ ((after (.setPort 0 5 0 1 250 64 6 0 4) State.reset).hub.ports[5]).state = .off := by decide

theorem test_witness_MotionSettingsApplyAllOrNone :
    answersOk (.setMotion 0 16384 4096 4096 5000 1 1024 64) State.reset = true
      ∧ answersOk (.setMotion 0 1 1 1 0 0 1 0) State.reset = true
      ∧ answersOk (.setMotion 0 16385 1 1 0 0 1 0) State.reset = false
      ∧ answersOk (.setCurve 0 #v[0, 0, 0, 0, 0, 0, 0, 0, 16384]) State.reset = true
      ∧ answersOk (.setCurve 0 #v[0, 2, 1, 1, 1, 1, 1, 1, 1]) State.reset = false := by decide

theorem test_witness_SetFrameSourceDecidesTheSource :
    (∃ n : Fin 4, (3 : Byte).toNat = n.val ∧ FrameSource.head 3 = .head n) ∧ (4 : Byte) = 4 ∧ 4 < (5 : Byte).toNat
      ∧ 2 < (3 : Byte).toNat := by decide

theorem test_witness_EveryStepKeepsTheSettingsInRange :
    MotionInv State.reset ∧ OutputInv State.reset ∧ ∃ t, step State.reset = .next t :=
  ⟨by decide, by decide, _, rfl⟩

/-! ### Loads and edits -/

theorem test_witness_LoadOpenReservesItsChain :
    (List.replicate 205 (0x41 : Byte)).length ≤ 205
      ∧ answersOk (.loadOpen 0 255 0 0 65535 1024 0 0 1 []) State.reset = true
      ∧ answersOk (.loadOpen 0 1 0 0 1 1025 0 0 1 []) State.reset = false := by decide

theorem test_witness_LoadOpen_slug :
    (∀ b ∈ List.replicate 25 (0x08 : Byte), b = 0 ∨ 8 ≤ b.toNat) ∧ 24 < (visibleChars (List.replicate 25 0x08)).length := by decide

/-- The ends of the ranges of codes that a slug loses and keeps: 01h and 06h go, 00h and 08h stay, a 07h takes its id byte with it. -/
theorem test_witness_LoadOpen_slug_codes :
    1 ≤ (0x01 : Byte).toNat ∧ (0x06 : Byte).toNat ≤ 6 ∧ 8 ≤ (0x08 : Byte).toNat
      ∧ visibleChars [0x01, 0x00, 0x06, 0x08, 0x07, 0x41, 0x42, 0x07] = [0x00, 0x08, 0x42] := by decide

theorem test_witness_LoadLineStoresTheNextLine :
    (List.replicate 217 (0x41 : Byte)).length ≤ 217 ∧ (∀ l ∈ State.reset.edit.loads, l.tag ≠ (255 : Byte).toNat)
      ∧ (loading (load .new 1 0)).edit.loads = [] ++ load .new 1 0 :: [] ∧ (load .new 1 0).tag = (255 : Byte).toNat := by
  decide

theorem test_witness_LoadLine_text :
    let plain := fun n => List.replicate n (0x41 : Byte)
    (0x07 : Byte) ∉ plain 160 ∧ (plain 160).length ≤ 160 ∧ (plain 159).length + 1 ≤ 160
      ∧ (plain 100).length + 2 + (plain 58).length ≤ 160 := by decide

theorem test_witness_LoadLastThatDoesNotResolve :
    (load .new 1 1).received + 1 ≠ (load .new 1 1).n ∧ (load .new 3 1).received + 1 ≠ (load .new 3 1).n
      ∧ (inLayout (fun l => { l with target := some 8 }) (loading (load .new 1 0))).layout.target ≠ none
      ∧ BreaksBudget [0x07, 0x01] (loading { load .new 1 0 with marks := 256 })
      ∧ ¬ BreaksBudget [0x07, 0x01] (loading { load .new 1 0 with marks := 255 }) := by decide

theorem test_witness_LastLineResolvesTheLoad_new :
    let s := loading (load .new 1 0)
    Ready s ∧ s.edit.loads = [] ++ load .new 1 0 :: [] ∧ s.layout.target = none
      ∧ (load .new 1 0).received + 1 = (load .new 1 0).n ∧ s.edit.pending = [] ∧ ¬ BreaksBudget [] s
      ∧ (∀ st ∈ s.store.stories, st.id ≠ 101) ∧ ¬ RowProtected s s.rows
      ∧ s.rows + (layoutStory s.layout.columns [] [[]]).rows ≤ 32767 := by decide

theorem test_witness_LastLineResolvesTheLoad_row_limit :
    32767 < (onScript [story 1 32767]).rows + (layoutStory 24 [] [[]]).rows
      ∧ ¬ 32767 < (onScript [story 1 32766]).rows + (layoutStory 24 [] [[]]).rows := by decide

theorem test_witness_LastLineResolvesTheLoad_replace :
    let s := inEdit (fun e => { e with loads := [load .replace 1 0] }) (onScript [story 100 13, story 101 1])
    Ready s ∧ s.edit.loads = [] ++ load .replace 1 0 :: [] ∧ Found s [story 100 13] (story 101 1) []
      ∧ (story 101 1).pendingCount = 0 ∧ (story 101 1).state ≠ .skipped
      ∧ s.rows - (story 101 1).rowCount + (layoutStory s.layout.columns [] [[]]).rows ≤ 32767 := by decide

theorem test_witness_LastLine_place :
    let s := onScript [story 100 13, story 101 1]
    (∀ row, ¬ PlacedAt s (.before 9) row) ∧ PlacedAt s (.before 101) 13 ∧ PlacedAt s (.after 101) 14 ∧ PlacedAt s .atEnd 14
      ∧ ¬ RowProtected s 13 ∧ RowProtected s 12 := by
  refine ⟨?_, ⟨[story 100 13], story 101 1, [], by decide⟩, ⟨[story 100 13], story 101 1, [], by decide⟩, ?_, by decide, by decide⟩
  · rintro row ⟨before, y, after, ⟨h, -⟩, hy, -⟩
    have none9 : ∀ x ∈ (onScript [story 100 13, story 101 1]).store.stories, x.id ≠ 9 := by decide
    exact none9 y (by rw [h]; simp) hy
  · change 14 = _
    decide

/-- Row 13 is the first that the window does not protect at the default lookahead of 12. -/
theorem test_witness_not_protected : ¬ Protected (onScript [story 100 13, story 101 1]) [story 100 13] (story 101 1) := by
  rintro ⟨r, h1, -, -, h4⟩
  have e : rowsOf [story 100 13] = 13 := by decide
  have f : (onScript [story 100 13, story 101 1]).scroll.p / 1024
      + (onScript [story 100 13, story 101 1]).edit.lookahead = 12 := by decide
  omega

/-- Row 12 is the last that it protects. -/
theorem test_witness_protected : Protected (onScript [story 100 12, story 101 1]) [story 100 12] (story 101 1) :=
  ⟨12, by decide, by decide, by decide, by decide⟩

/-- A pending DELETE of story 101, which counts it. -/
def waiting (n : Nat) : State :=
  inEdit (fun e => { e with pending := (List.range n).map fun k => ⟨⟨7, 101, .delete⟩, 0, k⟩, nextArrival := n })
    (onScript [{ story 101 1 with pendingCount := n }])

/-- A deletion of a story that is there has its home and its room, and one of a story that is not has no home. -/
theorem test_witness_homes :
    Homeless ⟨7, 9, .delete⟩ (waiting 1) ∧ ¬ Homeless ⟨7, 101, .delete⟩ (waiting 1)
      ∧ overRowLimit ⟨7, 101, .delete⟩ (waiting 1) = false
      ∧ overRowLimit ⟨7, 101, .insert .atEnd [] [[]]⟩ (onScript [story 1 32767]) = true := by
  refine ⟨.inl (by decide), ?_, by decide, by decide⟩
  rintro (⟨-, h⟩ | ⟨p, hp, -⟩)
  · exact absurd h (by decide)
  · exact absurd hp (by simp [Edit.place])

theorem test_witness_LoadsAndEditsAreWithdrawn :
    Ready (loading (load .new 1 0)) ∧ (loading (load .new 1 0)).edit.loads = [] ++ load .new 1 0 :: []
      ∧ Ready (waiting 1) ∧ PoolInv (waiting 1)
      ∧ (waiting 1).edit.pending = [] ++ ⟨⟨7, 101, .delete⟩, 0, 0⟩ :: [] ∧ (7 : Word16).toNat = 7
      ∧ (∀ r ∈ (waiting 1).edit.pending, r.edit.tag ≠ (8 : Word16).toNat) := by decide

theorem test_witness_LoadsAndEdits_release :
    ((waiting 8).edit.pending.map PendingEdit.arrival).Nodup ∧ (waiting 8).layout.target = none ∧ (waiting 8).resetHeld = false
      ∧ (inLayout (fun l => { l with target := some 40 }) (waiting 8)).layout.target ≠ none := by decide

theorem test_witness_StoryCommandsAreCheckedAndDeferred :
    (Instr.storyDelete 0 9 101 0, (0x54 : Byte), true, EditBody.delete) ∈ storyCommands 0 9 101 0 0 0 0
      ∧ Found (waiting 8) [] { story 101 1 with pendingCount := 8 } [] ∧ 0 < ({ story 101 1 with pendingCount := 8 }).pendingCount
      ∧ 8 ≤ (waiting 8).edit.pending.length ∧ ¬ 8 ≤ (waiting 7).edit.pending.length ∧ Ready (waiting 8)
      ∧ (waiting 8).layout.target = none
      ∧ (inLayout (fun l => { l with target := some 40 }) State.reset).layout.target ≠ none
      ∧ (2 : Byte).toNat ≤ 2 ∧ ¬ (3 : Byte).toNat ≤ 2 ∧ ¬ (2 : Byte).toNat ≤ 1 := by decide

/-- With an edit pending: a MOVE before a story that is gone, and an UNSKIP over the row limit and at it. -/
theorem test_witness_StoryCommands_refused :
    let back := { story 102 0 with state := .skipped, dir := none }
    let s := inEdit (fun e => { e with pending := (waiting 1).edit.pending }) (onScript [story 101 32767, back])
    Ready s ∧ s.layout.target = none ∧ s.edit.pending ≠ [] ∧ Found s [story 101 32767] back [] ∧ (1 : Byte) ≠ 0
      ∧ (∀ x ∈ s.store.stories, x.id ≠ (9 : Word16).toNat) ∧ (EditBody.unskip ≠ .move (placementGiven 1 9))
      ∧ 32767 < s.rows + (layoutStory s.layout.columns back.slug back.chain).rows ∧ ¬ 32767 < s.rows + 0 := by decide

/-- The window at the top of the script holds an edit of its one story, and no UNSKIP of it. -/
theorem test_witness_StoryCommands_window :
    HeldByWindow (waiting 0) ⟨9, 101, .delete⟩ ∧ ¬ HeldByWindow (waiting 0) ⟨9, 101, .unskip⟩
      ∧ ({ story 101 1 with pendingCount := 0 }).pendingCount = 0 ∧ (1 : Byte).toNat ≤ 1
      ∧ (waiting 0).rows + 0 ≤ 32767 := by
  refine ⟨⟨[], { story 101 1 with pendingCount := 0 }, [], by decide, rfl, 0, by decide, by decide, by decide, by decide⟩, ?_,
    by decide, by decide, by decide⟩
  rintro ⟨before, st, after, ⟨h, -⟩, -, hp⟩
  have top : before = [] := by
    rcases before with _ | ⟨x, rest⟩
    · rfl
    · have l := congrArg List.length h
      simp [waiting, inEdit, onScript] at l
  subst top
  exact absurd hp.1 (by decide)

/-- A forced DELETE, MOVE or SKIP of the second of three stories; test_witness_not_protected has the unforced case. -/
theorem test_witness_DeleteMoveAndSkip :
    let s := onScript [story 100 13, story 101 1, story 102 1]
    Ready s ∧ s.layout.target = none ∧ s.edit.pending = [] ∧ Found s [story 100 13] (story 101 1) [story 102 1]
      ∧ (story 101 1).id = (101 : Word16).toNat ∧ (1 : Byte).toNat ≤ 1 := by decide

/-- A forced DELETE of the last story with rows, in STOPPED: SCROLL_STATE with cause SCRIPT, then ON_AIR with 0 (R10, R71, R72). -/
theorem test_emptied_script_raises_its_notices :
    let s := inScroll (fun c => { c with p := 512, state := .stopped, v := 9 }) (recomputeStates (onScript [story 101 1]))
    (after (.storyDelete 1 7 101 1) s).link.notices
      = s.link.notices ++ [.scrollState .idle .stopped 0 0 .script, .onAir 0] := by decide

/-- MOVE to the end, before and after story 102, and to itself; no story 9. -/
theorem test_witness_MoveChangesTheOrder :
    let s := onScript [story 100 13, story 101 1, story 102 1]
    [story 100 13] ++ [story 102 1] = [story 100 13] ++ story 102 1 :: [] ∧ (story 102 1).id = (102 : Word16).toNat
      ∧ (∀ y ∈ [story 100 13], y.id ≠ (story 102 1).id)
      ∧ s.store.stories = [story 100 13, story 101 1] ++ story 102 1 :: []
      ∧ (∀ x ∈ s.store.stories, x.id ≠ (9 : Word16).toNat)
      ∧ ¬ RowProtected s s.rows ∧ ¬ RowProtected s (rowsOf [story 100 13, story 101 1]) := by decide

theorem test_witness_SkipAndUnskipKeepTheContent :
    let back := { story 101 0 with state := .skipped, dir := none }
    let s := onScript [story 100 32766, back]
    Ready s ∧ Found s [story 100 32766] back [] ∧ ¬ RowProtected s (rowsOf [story 100 32766])
      ∧ s.rows + (layoutStory s.layout.columns back.slug back.chain).rows ≤ 32767
      ∧ 32767 < (onScript [story 100 32767, back]).rows + (layoutStory 24 back.slug back.chain).rows := by decide

theorem test_witness_ReflowInstallsTheNewLayout :
    let s := inLayout (fun l => { l with target := some 40 }) (onScript [story 101 1])
    s.resetHeld = false ∧ s.edit.pending = [] ∧ 40 ∈ s.layout.target ∧ State.reset.layout.target = none
      ∧ rowsOf [{ story 101 1 with rowCount := (layoutStory 40 [] [[0x41]]).rows }] ≤ 32767 := by decide

/-- The layout a reflow to 24 columns gives a story (R52). -/
def laidAt24 (st : Story) : Story :=
  if st.state = .skipped then { st with rowCount := 0, dir := none }
  else
    { st with rowCount := (layoutStory 24 st.slug st.chain).rows, dir := some (layoutStory 24 st.slug st.chain) }

/-- 32,768 one-row stories are laid out in more rows than a script may have. -/
theorem test_witness_ReflowInstallsTheNewLayout_row_limit :
    let s := inLayout (fun l => { l with target := some 24 }) (onScript (List.replicate 32768 (story 101 1)))
    s.resetHeld = false ∧ s.edit.pending = [] ∧ 24 ∈ s.layout.target ∧ 32767 < rowsOf (s.store.stories.map laidAt24) := by
  refine ⟨rfl, rfl, rfl, ?_⟩
  have h : (laidAt24 (story 101 1)).rowCount = 1 := by decide
  change 32767 < rowsOf ((List.replicate 32768 (story 101 1)).map laidAt24)
  simp only [rowsOf, List.map_replicate, h, List.sum_replicate, smul_eq_mul]
  decide

/-! ### Reading and layout -/

theorem test_witness_ReadStoryGivesTheRecord :
    (∀ st ∈ State.reset.store.stories, st.id ≠ (65535 : Word16).toNat)
      ∧ Found (onScript [story 65535 1]) [] (story 65535 1) [] ∧ (story 65535 1).id = (65535 : Word16).toNat
      ∧ Ready (onScript [story 65535 1]) := by decide

theorem test_witness_ReadingCommandsAnswerWithTheState :
    4 ≤ (4 : Byte).toNat ∧ (3 : Byte).toNat = (3 : Fin 4).val ∧ 64 < (65 : Byte).toNat
      ∧ (64 : Byte).toNat = (63 : Fin 64).val + 1 ∧ (1 : Byte).toNat = (0 : Fin 64).val + 1 := by decide

theorem test_witness_LinesWrapGreedily :
    (1 : Nat) ≤ 1 ∧ (wrapLine 1 [0x41, 0x42])[0]? = some ⟨0, 1⟩ ∧ (wrapLine 1 [0x41, 0x42])[1]? = some ⟨1, 1⟩
      ∧ (wrapLine 1 [0x41, 0x42])[2]? = none := by decide

theorem test_witness_StoryStatesFollowTheReadingRow :
    let s := inScroll (fun c => { c with p := 51200 }) (onScript [story 101 12, { story 102 0 with state := .skipped }, story 103 38])
    s.scroll.p ≤ s.rows * 1024 ∧ (∀ st ∈ s.store.stories, st.rowCount = 0 ↔ st.state = .skipped) ∧ 0 < s.rows
      ∧ State.reset.scroll.p ≤ State.reset.rows * 1024 := by decide

/-- ON_AIR is raised with story 103's id where 101 was on air, and not again (R10). -/
theorem test_on_air_is_raised_once :
    let s := recomputeStates (inScroll (fun c => { c with p := 12290 }) (onScript [story 101 12, story 103 30]))
    s.link.notices = State.reset.link.notices ++ [.onAir 103] ∧ (recomputeStates s).link.notices = s.link.notices := by decide

/-! ### Motion -/

theorem test_witness_ScrollCommandsSetTheState :
    Ready leverHeld ∧ leverHolds leverHeld = true ∧ leverHolds State.reset = false := by decide

/-- A KEYPAD on a presenter's port, with authority free and with an operator's lever holding it. -/
def keypad (s : State) : State := inPort 3 (fun x => { x with state := .live, kind := some .keypad }) s

theorem test_witness_ScrollCommands_keys :
    let x := (keypad State.reset).hub.ports[3]
    x.receiver = .hunting ∧ x.state = .live ∧ x.kind = some .keypad ∧ x.refused = false
      ∧ (∀ h ∈ (keypad leverHeld).hub.holder, h.port ≠ 3)
      ∧ Permitted x.role (keypad State.reset) ∧ ¬ Permitted x.role (keypad leverHeld) := by decide

theorem test_witness_JumpMovesThePositionAndArmsTheMarks :
    let s := onScript [story 100 13, story 101 1]
    Ready s ∧ s.layout.target = none ∧ 3 < (4 : Byte).toNat ∧ (3 : Byte).toNat ≤ 3
      ∧ (inLayout (fun l => { l with target := some 8 }) s).layout.target ≠ none
      ∧ (∀ st ∈ s.store.stories, st.id ≠ (102 : Word16).toNat)
      ∧ Found s [story 100 13] (story 101 1) [] ∧ 0 < (story 101 1).rowCount ∧ 1 ≤ s.layout.columns
      ∧ (story 101 1).chain ≠ []
      ∧ (story 101 1).dir = some (layoutStory s.layout.columns (story 101 1).slug (story 101 1).chain)
      ∧ (story 101 0).rowCount = 0 ∧ Found (onScript [story 101 0]) [] (story 101 0) [] := by decide

/-- The second of four stories is on air, its neighbour SKIPPED; the first of one story is, with nothing before or after. -/
theorem test_witness_Jump_keys :
    let air := { story 101 30 with state := .onAir }
    let skipped := { story 102 0 with state := .skipped }
    let s := inScroll (fun c => { c with p := 15 * 1024 }) (onScript [story 100 13, air, skipped, story 103 1])
    (s.layout.target = none ∧ (s.store.stories.map Story.id).Nodup ∧ Permitted (s.hub.ports[3]).role s)
      ∧ (s.store.stories = [story 100 13] ++ air :: [skipped, story 103 1] ∧ (∀ x ∈ [story 100 13], x.state ≠ .onAir))
      ∧ ([skipped, story 103 1] = [skipped] ++ story 103 1 :: [] ∧ (∀ x ∈ [skipped], x.rowCount = 0) ∧ 0 < (story 103 1).rowCount)
      ∧ (s.scroll.p / 1024 ≤ rowsOf [story 100 13] + 2 ∧ rowsOf [story 100 13] + 2 < 16 ∧ s.scroll.p < s.rows * 1024)
      ∧ ([story 100 13] = [] ++ story 100 13 :: [] ∧ 0 < (story 100 13).rowCount) ∧ State.reset.rows = 0 := by decide

/-- A CRUISE at 10 fine units a frame, 10 units above a mark of cue 1, which pauses. -/
def nearMark (gap : Nat) : State :=
  { inScroll (fun c => { c with state := .cruise, cruise := 10, v := 10, p := 1024 - gap }) (onScript [story 101 2]) with
    layout := { State.reset.layout with marks := [⟨1024, 1, 101, 0, 0, 0, true⟩] }
    cues := { State.reset.cues with defs := upd State.reset.cues.defs 0 fun _ => [.pause] } }

theorem test_witness_ScrollFrameMovesThePosition :
    State.reset.resetHeld = false ∧ State.reset.edit.pending = [] ∧ State.reset.scroll.state ≠ .cruise
      ∧ (let s := nearMark 11
        s.edit.pending = [] ∧ s.scroll.state = .cruise ∧ velocityStep 8 16 s.scroll.v (demandGiven s) = 10
          ∧ ∀ m ∈ s.layout.marks, ¬ PausesIn s s.scroll.p (s.scroll.p + 10) m) := by decide

/-- FASTER on a port without reverse: at -K and below to 0; above it by the table of R83 (log 47). -/
theorem test_faster_from_a_negative_speed :
    let s := fun x : Int => inPort 0 (fun p => { p with reverse := false }) (inScroll (fun c => { c with cruise := x, keyStep := 32 }) State.reset)
    (runKeys 0 (onlyKey 2) (s (-32))).scroll.cruise = 0 ∧ (runKeys 0 (onlyKey 2) (s (-31))).scroll.cruise = 1
      ∧ (runKeys 0 (onlyKey 3) (s (-31))).scroll.cruise = 0 := by decide

/-- In CRUISE at the end and at the top of the script, the frame passes it and stops, with its cause (R72, R77). -/
theorem test_clamps_give_their_cause :
    let s := inScroll (fun c => { c with state := .cruise, p := 1024, cruise := 80 }) (onScript [story 101 1])
    let back := inScroll (fun c => { c with state := .cruise, p := 0, cruise := -80 }) (onScript [story 101 1])
    (Notice.scrollState .stopped .cruise 1024 0 .atEnd) ∈ (after .scrollFrame s).link.notices
      ∧ (Notice.scrollState .stopped .cruise 0 0 .atTop) ∈ (after .scrollFrame back).link.notices := by decide

theorem test_witness_PauseMarkHoldsTheScroll :
    let s := nearMark 10
    s.resetHeld = false ∧ s.edit.pending = [] ∧ s.scroll.state = .cruise
      ∧ s.layout.marks = [] ++ ⟨1024, 1, 101, 0, 0, 0, true⟩ :: []
      ∧ 0 < velocityStep s.scroll.accel s.scroll.brake s.scroll.v (demandGiven s)
      ∧ (min ((s.rows : Int) * 1024) ((s.scroll.p : Int)
          + velocityStep s.scroll.accel s.scroll.brake s.scroll.v (demandGiven s))).toNat = 1024
      ∧ PausesIn s s.scroll.p 1024 ⟨1024, 1, 101, 0, 0, 0, true⟩ ∧ s.link.notices.length < 32 := by decide

theorem test_witness_FramesFireAndRearmMarks :
    let s := nearMark 10
    s.resetHeld = false ∧ s.edit.pending = [] ∧ (s.layout.marks.map MarkRecord.key).Nodup := by decide

theorem test_witness_VelocityStepMovesTowardTheDemand :
    (1 : Nat) ≤ 1 ∧ (0 : Int) < 3 * 4 ∧ (3 : Int).natAbs < (4 : Int).natAbs ∧ (3 : Int).natAbs = (3 : Int).natAbs
      ∧ (2 : Int).natAbs < (3 : Int).natAbs ∧ (3 : Int) * (-1) ≤ 0 ∧ (3 : Int).natAbs + (0 : Int).natAbs ≤ 3 := by decide

theorem test_witness_LeverDemandFollowsTheCurve :
    curveOrdered defaultCurve = true ∧ (32 : Nat) ≤ 32
      ∧ ({ Port.reset 0 with value := .deflection true 128 }).value = .deflection true 128
      ∧ ({ Port.reset 0 with value := .deflection false 0 }).value = .deflection false 0 := by decide

theorem test_witness_TimersRunOut :
    State.reset.resetHeld = false ∧ (State.reset.heads[3]).syncTimer = none
      ∧ (let s := inHead fun h => { h with state := .running, syncTimer := some 249 }
        s.resetHeld = false ∧ (s.heads[3]).syncTimer ≠ none ∧ (s.heads[3]).syncLost = false) := by decide

/-! ### Cues -/

theorem test_witness_CueDefineReplacesTheEntry :
    answersOk (.cueDefine 0 64 [⟨3, 7, 255⟩, ⟨3, 0, 1⟩, ⟨4, 7, 0⟩, ⟨2, 0, 0xFFFF⟩]) State.reset = true
      ∧ answersOk (.cueDefine 0 1 []) State.reset = true ∧ answersOk (.cueDefine 0 65 []) State.reset = false
      ∧ answersOk (.cueDefine 0 1 [⟨3, 0, 256⟩]) State.reset = false
      ∧ answersOk (.cueDefine 0 1 (List.replicate 5 ⟨1, 0, 0⟩)) State.reset = false := by decide

theorem test_witness_OutputSetOperatesTheMaskedLines :
    answersOk (.outputSet 0 0xFF 2 1) State.reset = true ∧ answersOk (.outputSet 0 0xFF 2 0) State.reset = false
      ∧ answersOk (.outputSet 0 0xFF 3 1) State.reset = false ∧ answersOk (.outputSet 0 0xFF 1 0) State.reset = true := by decide

/-! ### Heads -/

/-- The largest picture, the narrowest that 24 columns leave, and one that is too narrow; a head that is not DISABLED. -/
theorem test_witness_HeadConfigReplacesTheGeometry :
    answersOk (.headConfig 0 3 1920 1080 4 31 256 5 2) State.reset = true
      ∧ answersOk (.headConfig 0 0 384 240 1 0 0 6 0) State.reset = true
      ∧ answersOk (.headConfig 0 0 368 240 1 0 0 6 0) State.reset = false
      ∧ answersOk (.headConfig 0 0 1920 1080 1 0 0 0 0) State.reset = false
      ∧ answersOk (.headConfig 0 0 384 240 1 0 0 7 0) State.reset = false
      ∧ answersOk (.headConfig 0 3 1920 1080 4 31 256 5 2) (inHead fun h => { h with state := .blanked }) = false := by
  decide

theorem test_witness_HeadsStartAndStop :
    (3 : Byte).toNat = (3 : Fin 4).val ∧ (State.reset.heads[3]).state = .disabled
      ∧ HoldsRows (State.reset.heads[3]).geometry State.reset
      ∧ ¬ HoldsRows (State.reset.heads[3]).geometry (inLayout (fun l => { l with columns := 39 }) State.reset)
      ∧ (let s := inHead fun h => { h with state := .running }
        Ready s ∧ (s.heads[3]).state ≠ .disabled ∧ (s.heads[3]).state ≠ .stopping ∧ (∀ j ∈ s.job, j.head ≠ 3))
      ∧ ((inHead fun h => { h with state := .stopping }).heads[3]).state = .stopping := by decide

/-- A job of head 3, slot 31. -/
def job : Job := ⟨3, 31, 0, ⟨101, 0, 0, 0⟩, ⟨[], false, 0, false, 2, 64, 24, false⟩⟩

def drawing (state : HeadState) : State :=
  { inHead fun h => { h with state := state, slots := upd h.slots 31 fun _ => .rendering ⟨101, 0, 0, 0⟩ } with job := some job }

theorem test_witness_HeadsStartAndStop_in_render : ∃ j ∈ (drawing .running).job, j.head = 3 := ⟨job, rfl, rfl⟩

theorem test_witness_HeadsBlankAndUnblank :
    ∀ x ∈ [HeadState.disabled, .starting, .running, .blanked, .stopping],
      ((inHead fun h => { h with state := x }).heads[3]).state = x ∧ Ready (inHead fun h => { h with state := x }) := by
  decide

def plain (flag : Byte) : AppearanceFields :=
  ⟨flag, flag, ⟨0, 0, 0⟩, ⟨0, 0, 0⟩, ⟨0, 0, 0⟩, ⟨0, 0, 0⟩, ⟨0, 0, 0⟩, flag, ⟨0, 0, 0⟩, flag⟩

theorem test_witness_HeadAppearanceIsMadePending :
    answersOk (.headAppearance 0 3 (plain 1)) State.reset = true ∧ answersOk (.headAppearance 0 4 (plain 1)) State.reset = false
      ∧ answersOk (.headAppearance 0 3 (plain 2)) State.reset = false := by decide

/-- Head 3 RUNNING with row 0 VALID in slot 31 and ready at the top of its picture. -/
def scanning : State :=
  inHead fun h =>
    { h with
      state := .running
      slots := upd h.slots 31 fun _ => .valid job.tag job.drawing
      frame := some ⟨0, [(0, 31)]⟩ }

/-- Line 216 is the marker's first and lies in row 3, which is not ready; line 0 lies in row 0, which is. -/
theorem test_witness_HeadAppearance_pixels :
    let g := (scanning.heads[3]).geometry
    (scanning.heads[3]).state = .running ∧ (scanning.heads[3]).frame = some ⟨0, [(0, 31)]⟩
      ∧ g.readingRow * (32 * g.scale + g.leading) = 216 ∧ 216 < g.height ∧ (scanning.heads[3]).appearance.marker = true
      ∧ (scanning.heads[3]).slots[31] = .valid job.tag job.drawing ∧ (0 : Nat) < 32 * g.scale
      ∧ 1 ≤ job.drawing.scale ∧ job.drawing.chars.length = 0
      ∧ (Drawing.chars ⟨[0x20], false, 0, false, 1, 0, 8, false⟩)[0]? = some ⟨0x20, ⟨0, false⟩⟩
      ∧ ((1 + 1) * 32 ≤ 2 * 16 * 15 ∧ (1 + 1) * 32 ≤ 2 * 16 * (32 - (15 + 1))) ∧ 2 * 16 * (0 + 1) ≤ 15 * 32
      ∧ ((0x80 : Byte) ≠ 0x20 ∧ 0x7E < (0x80 : Byte).toNat) := by decide

theorem test_witness_FrameStartTakesTheWindow :
    ∀ x ∈ [HeadState.starting, .running, .blanked, .stopping],
      (drawing x).resetHeld = false ∧ ((drawing x).heads[3]).state ≠ .disabled := by decide

/-- With a job in progress, and with none. -/
theorem test_witness_FrameStart_with_and_without_a_job :
    ∀ x ∈ [HeadState.starting, .running, .blanked],
      (drawing x).job ≠ none ∧ ((drawing x).heads[3]).state = x ∧ ((drawing x).heads[3]).state ≠ .stopping
        ∧ ({ drawing x with job := none }).job = none ∧ (drawing x).resetHeld = false := by decide

theorem test_witness_FrameStart_answers : ∃ t, exec (.frameStart 3) (drawing .running) = .next t := ⟨_, rfl⟩

theorem test_witness_RenderedRowsAreStoredOrDiscarded :
    ∀ x ∈ [HeadState.starting, .running, .blanked, .stopping, .disabled],
      (drawing x).resetHeld = false ∧ job ∈ (drawing x).job
        ∧ (∀ (h : Fin 4) (half : Fin 2), (((drawing x).heads[h]).halves[half]).remaining = []) := by decide

/-- A RUNNING head of a one-row script that asks for row 0, in slot 0. -/
def asking : State :=
  (onScript [story 101 1]).modHead 3 fun h =>
    { h with state := .running, halves := upd h.halves 0 fun _ => ⟨some 0, [0], true⟩ }

theorem test_witness_RenderedRows_choice :
    ((asking.heads[3]).halves[0]).remaining ≠ [] ∧ (asking.heads[3]).slotRow 0 = some 0 ∧ 0 < asking.rows ∧ halfOf 0 = 0
      ∧ ((asking.heads[3]).halves[1]).remaining = []
      ∧ (∀ h : Fin 4, h ≠ 3 → ∀ half : Fin 2, ((asking.heads[h]).halves[half]).remaining = []) := by decide

/-- The same head when the row it asks for has left the script (R149): with no story, slot 0 still shows row 0. -/
theorem test_witness_RenderedRows_dropped :
    let s := { asking with store := { asking.store with stories := [] } }
    ((s.heads[3]).halves[0]).remaining ≠ [] ∧ (s.heads[3]).slotRow 0 = some 0 ∧ s.rows = 0 ∧ halfOf 0 = 0
      ∧ ((s.heads[3]).halves[1]).remaining = []
      ∧ (∀ h : Fin 4, h ≠ 3 → ∀ half : Fin 2, ((s.heads[h]).halves[half]).remaining = [])
      ∧ (((chooseNext s).heads[3]).halves[0]).remaining = [] ∧ (chooseNext s).job = none := by decide

/-! ### Control ports -/

theorem test_witness_FirstReportIsABaseline :
    AuthorityInv State.reset ∧ (State.reset.hub.ports[5]).receiver = .hunting ∧ (State.reset.hub.ports[5]).state = .empty
      ∧ ((after (.setPort 0 5 0 1 250 64 6 0 4) State.reset).hub.ports[5]).state = .off
      ∧ ((leverReport 0).kind = .keypad → (leverReport 0).raw = 0) := by decide

theorem test_witness_FirstReport_of_another_kind :
    AuthorityInv leverHeld ∧ (leverHeld.hub.ports[0]).receiver = .hunting ∧ (leverHeld.hub.ports[0]).state = .live
      ∧ (leverHeld.hub.ports[0]).kind ≠ some ControllerKind.wheel := by decide

/-- A lever at +6, the dead zone's end, and at +7, with authority free. -/
theorem test_witness_DeflectedLeversRequestAuthority :
    let x := liveLever.hub.ports[0]
    x.receiver = .hunting ∧ x.state = .live ∧ x.kind = some .lever ∧ (leverReport 7).keys &&& ~~~x.keys = 0
      ∧ x.mustRest = false ∧ x.refused = false ∧ (∀ h ∈ liveLever.hub.holder, h.port ≠ 0)
      ∧ valueGiven (leverReport 6) x.reverse = .deflection false 6 ∧ valueGiven (leverReport 7) x.reverse = .deflection false 7
      ∧ x.dead = 6 ∧ Permitted .operator liveLever := by decide

/-- A presenter's lever at +7 against the operator that holds, under OPERATOR_FIRST. -/
theorem test_witness_DeflectedLeversRequestAuthority_refused :
    let s := inPort 3 (fun x => { x with state := .live, kind := some .lever }) leverHeld
    let x := s.hub.ports[3]
    x.receiver = .hunting ∧ x.state = .live ∧ x.kind = some .lever ∧ (leverReport 7).keys &&& ~~~x.keys = 0
      ∧ x.mustRest = false ∧ x.refused = false ∧ (∀ h ∈ s.hub.holder, h.port ≠ 3)
      ∧ valueGiven (leverReport 7) x.reverse = .deflection false 7 ∧ x.dead < 7 ∧ ¬ Permitted x.role s := by decide

/-- The holder's own lever, at rest and deflected, with and without its timer, under a delay and under none. -/
theorem test_witness_DeflectedLevers_holder :
    (∃ h ∈ leverHeld.hub.holder, h.port = 0 ∧ h.kind ≠ .wheel) ∧ leverHeld.hub.releaseTimer ≠ none
      ∧ (inHub (fun h => { h with releaseTimer := none }) leverHeld).hub.releaseTimer = none ∧ 0 < leverHeld.hub.releaseDelay
      ∧ (inHub (fun h => { h with releaseDelay := 0 }) leverHeld).hub.releaseDelay = 0
      ∧ ((inPort 0 (fun x => { x with mustRest := true }) liveLever).hub.ports[0]).mustRest = true := by decide

/-- The holder's deflected lever, its STOP key newly down, and a key that stays down; the report stops, sets must-rest and makes no
request (R96). -/
theorem test_witness_DeflectedLevers_stop :
    let r : ControlReport := { leverReport 7 with keys := onlyKey 0 }
    let x := leverHeld.hub.ports[0]
    x.receiver = .hunting ∧ x.state = .live ∧ x.kind = some r.kind ∧ x.dead < 7 ∧ r.keys &&& ~~~x.keys = onlyKey 0
      ∧ valueGiven r x.reverse = .deflection false 7 ∧ (∃ h ∈ leverHeld.hub.holder, h.port = 0 ∧ h.role = x.role)
      ∧ onlyKey 0 &&& 0x0FF ≠ 0 ∧ onlyKey 0 &&& ~~~(onlyKey 0) &&& 0x0FF = 0
      ∧ (let t := after (.controllerReport 0 (reportFrame r)) leverHeld
         t.hub.holder = none ∧ (t.hub.ports[0]).mustRest = true) := by decide

/-- A wheel on port 0, free, holding, and against an operator's lever on port 1 when it is a presenter's. -/
theorem test_witness_DeflectedLevers_wheel :
    let wheel := inPort 0 (fun x => { x with state := .live, kind := some .wheel }) State.reset
    let other := inPort 0 (fun x => { x with role := .presenter })
      (inHub (fun h => { h with holder := some ⟨1, .operator, .lever⟩ }) wheel)
    let x := wheel.hub.ports[0]
    (x.receiver = .hunting ∧ x.state = .live ∧ x.kind = some .wheel ∧ Permitted x.role wheel)
      ∧ (⟨.wheel, 0x80, 0⟩ : ControlReport).raw.toInt = -128 ∧ (⟨.wheel, 0, 0⟩ : ControlReport).raw.toInt = 0
      ∧ (∃ h ∈ (inHub (fun h => { h with holder := some ⟨0, .operator, .wheel⟩ }) wheel).hub.holder,
          h.port = 0 ∧ h.kind = .wheel ∧ h.role = x.role)
      ∧ ¬ Permitted (other.hub.ports[0]).role other ∧ (other.hub.ports[0]).refused = false
      ∧ (∀ h ∈ other.hub.holder, h.port ≠ 0) := by decide

theorem test_witness_SilenceAndRestEndTheHold :
    (State.reset.hub.ports[0]).state ≠ .live ∧ (leverHeld.hub.ports[0]).state = .live
      ∧ (∃ h ∈ leverHeld.hub.holder, h.port = 0) ∧ (∀ h ∈ liveLever.hub.holder, h.port ≠ 0)
      ∧ State.reset.hub.releaseTimer = none ∧ leverHeld.hub.releaseTimer ≠ none := by decide

/-! ### Invariants -/

theorem test_witness_EveryStepKeepsTheLinePool :
    PoolInv State.reset ∧ TextInv State.reset ∧ RundownInv State.reset ∧ PoolInv (waiting 8) ∧ TextInv (waiting 8)
      ∧ ∃ t, step State.reset = .next t :=
  ⟨by decide, by decide, by decide, by decide, by decide, _, rfl⟩

theorem test_witness_EveryStepKeepsThePositionInTheScript :
    PositionInv State.reset ∧ PositionInv (onScript [story 101 1]) ∧ ∃ t, step State.reset = .next t :=
  ⟨by decide, by decide, _, rfl⟩

theorem test_witness_EveryStepKeepsTheAuthorityRecord :
    AuthorityInv State.reset ∧ AuthorityInv leverHeld ∧ ∃ t, step State.reset = .next t :=
  ⟨by decide, by decide, _, rfl⟩

theorem test_witness_EveryStepKeepsTheBands :
    BandInv State.reset ∧ BandInv (drawing .running) ∧ ∃ t, step State.reset = .next t :=
  ⟨by decide, by decide, _, rfl⟩

end Sys2Proof.Tests
end

section
/-! The rundown taken apart at the story with an id: what the lookups, the changes and the placements by id make there (R5, R6, R55),
and the same of the list of open loads. -/

namespace Sys2Proof.Machine

/-! ### The rundown at a story -/

theorem findStory_eq_none_iff {stories : List Story} {id : Nat} :
    findStory stories id = none ↔ ∀ st ∈ stories, st.id ≠ id := by
  simp [findStory]

/-- A story that is found is the first with its id. -/
theorem findStory_eq_some {stories : List Story} {id : Nat} {st : Story} (h : findStory stories id = some st) :
    st.id = id ∧ ∃ before after, stories = before ++ st :: after ∧ ∀ x ∈ before, x.id ≠ st.id := by
  obtain ⟨hid, before, after, rfl, hbefore⟩ := List.find?_eq_some_iff_append.mp h
  have hid : st.id = id := by simpa using hid
  exact ⟨hid, before, after, rfl, fun x hx => by simpa [hid] using hbefore x hx⟩

theorem hasStory_eq_false_iff {stories : List Story} {id : Nat} :
    hasStory stories id = false ↔ ∀ st ∈ stories, st.id ≠ id := by
  simp [hasStory, findStory_eq_none_iff]

theorem hasStory_eq_true_iff {stories : List Story} {id : Nat} : hasStory stories id = true ↔ ∃ st ∈ stories, st.id = id := by
  simp [hasStory, findStory]

section
variable {before : List Story} {st : Story} (h : ∀ x ∈ before, x.id ≠ st.id)
include h

theorem findStory_split (after : List Story) : findStory (before ++ st :: after) st.id = some st := by
  rw [findStory, List.find?_append, List.find?_eq_none.mpr (by simpa using h)]
  simp

theorem startRow_split (after : List Story) : startRow (before ++ st :: after) st.id = rowsOf before := by
  induction before with
  | nil => simp [startRow, rowsOf]
  | cons x rest ih =>
    obtain ⟨hx, hrest⟩ := List.forall_mem_cons.mp h
    simpa [startRow, rowsOf, hx] using ih hrest

theorem removeStory_split (after : List Story) : removeStory (before ++ st :: after) st.id = before ++ after := by
  rw [removeStory, List.eraseP_append_right _ (by simpa using h)]
  simp

theorem mapStory_split (after : List Story) (f : Story → Story) :
    mapStory (before ++ st :: after) st.id f = before ++ f st :: after := by
  induction before with
  | nil => simp [mapStory]
  | cons x rest ih =>
    obtain ⟨hx, hrest⟩ := List.forall_mem_cons.mp h
    simpa [mapStory, hx] using ih hrest

theorem storiesAfter_split (after : List Story) : storiesAfter (before ++ st :: after) st.id = after := by
  induction before with
  | nil => simp [storiesAfter]
  | cons x rest ih =>
    obtain ⟨hx, hrest⟩ := List.forall_mem_cons.mp h
    simpa [storiesAfter, hx] using ih hrest

theorem storiesBefore_split (after : List Story) : storiesBefore (before ++ st :: after) st.id = before := by
  rw [storiesBefore, List.takeWhile_append_of_pos (by simpa using h)]
  simp

theorem insertBefore_split (after : List Story) (new : Story) :
    insertBefore st.id new (before ++ st :: after) = before ++ new :: st :: after := by
  induction before with
  | nil => simp [insertBefore]
  | cons x rest ih =>
    obtain ⟨hx, hrest⟩ := List.forall_mem_cons.mp h
    simpa [insertBefore, hx] using ih hrest

theorem insertAfter_split (after : List Story) (new : Story) :
    insertAfter st.id new (before ++ st :: after) = before ++ st :: new :: after := by
  induction before with
  | nil => simp [insertAfter]
  | cons x rest ih =>
    obtain ⟨hx, hrest⟩ := List.forall_mem_cons.mp h
    simpa [insertAfter, hx] using ih hrest

end

theorem mapStory_absent {stories : List Story} {id : Nat} (h : ∀ st ∈ stories, st.id ≠ id) (f : Story → Story) :
    mapStory stories id f = stories := by
  induction stories with
  | nil => rfl
  | cons x rest ih =>
    obtain ⟨hx, hrest⟩ := List.forall_mem_cons.mp h
    simp [mapStory, hx, ih hrest]

/-- A change of the record with an id that leaves what `g` gives of it. -/
theorem map_mapStory {α : Type} (g : Story → α) {f : Story → Story} (h : ∀ st, g (f st) = g st) (stories : List Story) (id : Nat) :
    (mapStory stories id f).map g = stories.map g := by
  induction stories with
  | nil => rfl
  | cons x rest ih =>
    unfold mapStory
    split <;> simp [h, ih]

/-! ### Placing a story -/

theorem insertBefore_perm (x : Nat) (st : Story) (stories : List Story) : (insertBefore x st stories).Perm (st :: stories) := by
  induction stories with
  | nil => exact .refl _
  | cons y rest ih =>
    unfold insertBefore
    split
    · exact .refl _
    · exact (ih.cons y).trans (.swap st y rest)

theorem insertAfter_perm (x : Nat) (st : Story) (stories : List Story) : (insertAfter x st stories).Perm (st :: stories) := by
  induction stories with
  | nil => exact .refl _
  | cons y rest ih =>
    unfold insertAfter
    split
    · exact .swap st y rest
    · exact (ih.cons y).trans (.swap st y rest)

/-- A story that is placed joins the others, wherever it goes (R5). -/
theorem placeStory_perm (place : Placement) (st : Story) (stories : List Story) :
    (placeStory place st stories).Perm (st :: stories) := by
  cases place with
  | atEnd => exact List.perm_append_singleton st stories
  | before x => exact insertBefore_perm x st stories
  | after x => exact insertAfter_perm x st stories

/-- A relocation only changes the order (R6). -/
theorem relocateStory_perm (stories : List Story) (id : Nat) (place : Placement) :
    (relocateStory stories id place).Perm stories := by
  unfold relocateStory
  split
  · exact .refl _
  · cases found : findStory stories id with
    | none => exact .refl _
    | some st =>
      obtain ⟨rfl, before, after, rfl, hbefore⟩ := findStory_eq_some found
      refine (placeStory_perm place st _).trans ?_
      rw [removeStory_split hbefore]
      exact List.perm_middle.symm

/-! ### The open loads -/

/-- A load that is found is the first with its tag. -/
theorem findLoad_eq_some {s : State} {tag : Nat} {l : Load} (h : findLoad s tag = some l) :
    l.tag = tag ∧ ∃ before after, s.edit.loads = before ++ l :: after ∧ ∀ x ∈ before, x.tag ≠ l.tag := by
  obtain ⟨htag, before, after, hloads, hbefore⟩ := List.find?_eq_some_iff_append.mp h
  have htag : l.tag = tag := by simpa using htag
  exact ⟨htag, before, after, hloads, fun x hx => by simpa [htag] using hbefore x hx⟩

section
variable {before : List Load} {l : Load} (h : ∀ x ∈ before, x.tag ≠ l.tag)
include h

theorem findLoad_split {s : State} {after : List Load} (hs : s.edit.loads = before ++ l :: after) :
    findLoad s l.tag = some l := by
  rw [findLoad, hs, List.find?_append, List.find?_eq_none.mpr (by simpa using h)]
  simp

theorem eraseLoad_split (after : List Load) :
    ((before ++ l :: after).eraseP fun x => x.tag == l.tag) = before ++ after := by
  rw [List.eraseP_append_right _ (by simpa using h)]
  simp

theorem mapLoad_split (after : List Load) (f : Load → Load) :
    mapLoad (before ++ l :: after) l.tag f = before ++ f l :: after := by
  induction before with
  | nil => simp [mapLoad]
  | cons x rest ih =>
    obtain ⟨hx, hrest⟩ := List.forall_mem_cons.mp h
    simpa [mapLoad, hx] using ih hrest

end

end Sys2Proof.Machine
end

section
/-! The ledger of the script: what the line pool, the mark budget and the ids are judged by (R1, R11, R16, R25). Every operation of the
heads, the hub, the cue unit, the scroll controller and the link leaves it. -/

namespace Sys2Proof.Machine

/-- A story's record without what the layout, the states and the revisions make of it. -/
def Story.content (st : Story) : Story := { st with state := .ready, revision := 0, rowCount := 0, dir := none }

/-- The contents of the rundown, the free slots, the open loads and the pending edits with their arrival numbers. -/
structure Ledger where
  contents : List Story
  freeCount : Nat
  loads : List Load
  pending : List PendingEdit
  nextArrival : Nat

/-- The ledger of a state. -/
def ledger (s : State) : Ledger :=
  ⟨s.store.stories.map Story.content, s.store.freeCount, s.edit.loads, s.edit.pending, s.edit.nextArrival⟩

/-- A state with the store and the edit unit of another has its ledger. -/
theorem ledger_congr {s t : State} (hstore : t.store = s.store) (hedit : t.edit = s.edit) : ledger t = ledger s := by
  simp [ledger, hstore, hedit]

/-- Steps that each leave the ledger leave it together. -/
theorem ledger_foldl {α : Type} {f : State → α → State} (hf : ∀ s a, ledger (f s a) = ledger s) (l : List α) (s : State) :
    ledger (l.foldl f s) = ledger s := by
  induction l generalizing s with
  | nil => rfl
  | cons a rest ih => exact (ih _).trans (hf s a)

/-! ### Records, notices, replies and the frame source -/

@[simp] theorem ledger_withScroll (s : State) (x : Scroll) : ledger { s with scroll := x } = ledger s := rfl
@[simp] theorem ledger_withLink (s : State) (x : Link) : ledger { s with link := x } = ledger s := rfl
@[simp] theorem ledger_withHub (s : State) (x : Hub) : ledger { s with hub := x } = ledger s := rfl
@[simp] theorem ledger_withLayout (s : State) (x : Layout) : ledger { s with layout := x } = ledger s := rfl
@[simp] theorem ledger_withCues (s : State) (x : CueUnit) : ledger { s with cues := x } = ledger s := rfl
@[simp] theorem ledger_withJob (s : State) (x : Option Job) : ledger { s with job := x } = ledger s := rfl
@[simp] theorem ledger_modPort (s : State) (n : Fin 6) (f : Port → Port) : ledger (s.modPort n f) = ledger s := rfl
@[simp] theorem ledger_modHead (s : State) (h : Fin 4) (f : Head → Head) : ledger (s.modHead h f) = ledger s := rfl
@[simp] theorem ledger_modLine (s : State) (l : Fin 8) (f : CueLine → CueLine) : ledger (s.modLine l f) = ledger s := rfl
@[simp] theorem ledger_setMarks (s : State) (m : List MarkRecord) : ledger (s.setMarks m) = ledger s := rfl
@[simp] theorem ledger_setMotion (s : State) (p : Nat) (v : Int) : ledger (s.setMotion p v) = ledger s := rfl
@[simp] theorem ledger_setReleaseTimer (s : State) (t : Option Nat) : ledger (s.setReleaseTimer t) = ledger s := rfl
@[simp] theorem ledger_setCruise (x : Int) (s : State) : ledger (setCruise x s) = ledger s := rfl
@[simp] theorem ledger_portCruise (n : Fin 6) (x : Int) (s : State) : ledger (portCruise n x s) = ledger s := rfl
@[simp] theorem ledger_addBiasAll (d : Int) (s : State) : ledger (addBiasAll d s) = ledger s := rfl
@[simp] theorem ledger_dropFrame (s : State) : ledger (dropFrame s) = ledger s := rfl
@[simp] theorem ledger_answer (c q : Byte) (r : Result) (a b : Bool) (y : ReplyBody) (s : State) :
    ledger (answer c q r a b y s) = ledger s := rfl
@[simp] theorem ledger_reply (c q : Byte) (r : Result) (y : ReplyBody) (s : State) : ledger (reply c q r y s) = ledger s := rfl
@[simp] theorem ledger_refuse (c q : Byte) (r : Reason) (s : State) : ledger (refuse c q r s) = ledger s := rfl
@[simp] theorem ledger_motionReply (c q : Byte) (r : Result) (s : State) : ledger (motionReply c q r s) = ledger s := rfl
@[simp] theorem ledger_raise (n : Notice) (s : State) : ledger (raise n s) = ledger s := ledger_congr (by simp) (by simp)
@[simp] theorem ledger_pump (s : State) : ledger (pump s) = ledger s := ledger_congr (by simp) (by simp)
@[simp] theorem ledger_refreshSource (s : State) : ledger (refreshSource s) = ledger s := ledger_congr (by simp) (by simp)
@[simp] theorem ledger_setScrollState (new : ScrollState) (c : ScrollCause) (s : State) :
    ledger (setScrollState new c s) = ledger s := ledger_congr (by simp) (by simp)

/-- A recomputation of the states leaves every record's content (R9). -/
@[simp] theorem ledger_recomputeStates (s : State) : ledger (recomputeStates s) = ledger s := by
  simp [ledger, recomputeStates_stories, recomputeFrom_frame Story.content (fun _ _ => rfl)]

/-! ### Heads and render unit -/

@[simp] theorem ledger_setHeadState (h : Fin 4) (new : HeadState) (s : State) : ledger (setHeadState h new s) = ledger s := by
  simp [setHeadState]

@[simp] theorem ledger_clearDegraded (h : Fin 4) (s : State) : ledger (clearDegraded h s) = ledger s := by
  unfold clearDegraded; split <;> simp

@[simp] theorem ledger_enterDisabled (h : Fin 4) (s : State) : ledger (enterDisabled h s) = ledger s := by simp [enterDisabled]

@[simp] theorem ledger_beginJob (h : Fin 4) (slot : Fin 32) (r : Nat) (s : State) : ledger (beginJob h slot r s) = ledger s := by
  unfold beginJob; split <;> rfl

@[simp] theorem ledger_arbiter (fuel : Nat) (s : State) : ledger (arbiter fuel s) = ledger s := by
  induction fuel generalizing s with
  | zero => rfl
  | succ fuel ih => simp only [arbiter]; (repeat' split) <;> simp [ih]

@[simp] theorem ledger_chooseNext (s : State) : ledger (chooseNext s) = ledger s := ledger_arbiter _ s

@[simp] theorem ledger_judgeFrame (h : Fin 4) (s : State) : ledger (judgeFrame h s) = ledger s := by
  unfold judgeFrame; dsimp only; (repeat' split) <;> simp

@[simp] theorem ledger_syncFrame (h : Fin 4) (s : State) : ledger (syncFrame h s) = ledger s := by
  unfold syncFrame; dsimp only; split <;> simp

@[simp] theorem ledger_giveFrame (h : Fin 4) (s : State) : ledger (giveFrame h s) = ledger s := by
  unfold giveFrame; split <;> rfl

@[simp] theorem ledger_headFrame (h : Fin 4) (s : State) : ledger (headFrame h s) = ledger s := by
  unfold headFrame; dsimp only; (repeat' split) <;> simp

@[simp] theorem ledger_frameStart (h : Fin 4) (s : State) : ledger (frameStart h s) = ledger s := by
  unfold frameStart; split <;> simp

@[simp] theorem ledger_syncLoss (h : Fin 4) (s : State) : ledger (syncLoss h s) = ledger s := by
  unfold syncLoss; dsimp only; (repeat' split) <;> simp

@[simp] theorem ledger_stopHead (h : Fin 4) (s : State) : ledger (stopHead h s) = ledger s := by
  unfold stopHead; (repeat' split) <;> simp

@[simp] theorem ledger_renderComplete (s : State) : ledger (renderComplete s) = ledger s := by
  unfold renderComplete; dsimp only; (repeat' split) <;> simp

/-! ### Cue unit and scroll controller -/

@[simp] theorem ledger_runAction (s : State) (a : CueAction) : ledger (runAction s a) = ledger s := by
  cases a <;> simp [runAction]

@[simp] theorem ledger_fireMark (s : State) (m : MarkRecord) : ledger (fireMark s m) = ledger s := by
  simp [fireMark, ledger_foldl ledger_runAction]

@[simp] theorem ledger_takeAdvance (p p' : Nat) (s : State) : ledger (takeAdvance p p' s) = ledger s := by
  unfold takeAdvance rearm fireMarks; split <;> simp [ledger_foldl ledger_fireMark]

@[simp] theorem ledger_clampStop (c : ScrollCause) (s : State) : ledger (clampStop c s) = ledger s := by
  unfold clampStop; split <;> simp

@[simp] theorem ledger_moveFrame (s : State) : ledger (moveFrame s) = ledger s := by
  unfold moveFrame; dsimp only; (repeat' split) <;> simp

@[simp] theorem ledger_countFrame (s : State) : ledger (countFrame s) = ledger s := by
  unfold countFrame; dsimp only; (repeat' split) <;> simp

@[simp] theorem ledger_internalExpiry (n : Nat) (s : State) : ledger (internalExpiry n s) = ledger s := by
  unfold internalExpiry; split <;> rfl

@[simp] theorem ledger_jumpTo (row : Int) (s : State) : ledger (jumpTo row s) = ledger s := by
  simp [jumpTo]

@[simp] theorem ledger_keyJump (row : Nat) (s : State) : ledger (keyJump row s) = ledger s := by
  unfold keyJump; split <;> simp

/-! ### Control hub -/

@[simp] theorem ledger_setHolder (new : Option Holder) (t : Option Nat) (c : AuthorityCause) (s : State) :
    ledger (setHolder new t c s) = ledger s := by simp [setHolder]

@[simp] theorem ledger_restHolder (s : State) : ledger (restHolder s) = ledger s := by unfold restHolder; split <;> simp
@[simp] theorem ledger_endHold (c : AuthorityCause) (s : State) : ledger (endHold c s) = ledger s := by
  unfold endHold; split <;> simp
@[simp] theorem ledger_endLeverHold (s : State) : ledger (endLeverHold s) = ledger s := by unfold endLeverHold; split <;> simp
@[simp] theorem ledger_stopLost (s : State) : ledger (stopLost s) = ledger s := by unfold stopLost; split <;> simp
@[simp] theorem ledger_loseControl (n : Fin 6) (s : State) : ledger (loseControl n s) = ledger s := by
  unfold loseControl; split <;> simp
@[simp] theorem ledger_contend (n : Fin 6) (s : State) : ledger (contend n s) = ledger s := by
  unfold contend; (repeat' split) <;> simp
@[simp] theorem ledger_goStale (n : Fin 6) (s : State) : ledger (goStale n s) = ledger s := by simp [goStale]
@[simp] theorem ledger_goLive (n : Fin 6) (k : ControllerKind) (s : State) : ledger (goLive n k s) = ledger s := by simp [goLive]
@[simp] theorem ledger_portOff (n : Fin 6) (s : State) : ledger (portOff n s) = ledger s := by simp [portOff]
@[simp] theorem ledger_portOn (n : Fin 6) (s : State) : ledger (portOn n s) = ledger s := by simp [portOn]

@[simp] theorem ledger_trimCruise (n : Fin 6) (d : Int) (s : State) : ledger (trimCruise n d s) = ledger s := by
  unfold trimCruise; dsimp only; split <;> simp

@[simp] theorem ledger_stopScroll (c : ScrollCause) (s : State) : ledger (stopScroll c s) = ledger s := by
  unfold stopScroll; dsimp only; split <;> simp

@[simp] theorem ledger_resumeKey (n : Fin 6) (s : State) : ledger (resumeKey n s) = ledger s := by
  unfold resumeKey; split <;> simp

@[simp] theorem ledger_speedKey (n : Fin 6) (d : Int) (s : State) : ledger (speedKey n d s) = ledger s := by
  unfold speedKey; dsimp only; split <;> simp

@[simp] theorem ledger_wheelDetents (n : Fin 6) (c : Int) (s : State) : ledger (wheelDetents n c s) = ledger s := by
  unfold wheelDetents; dsimp only; split <;> simp

@[simp] theorem ledger_runKey (n : Fin 6) (k : ActionKey) (s : State) : ledger (runKey n k s) = ledger s := by
  cases k <;> simp [runKey]

@[simp] theorem ledger_judgeKey (n : Fin 6) (pressed : KeySet) (s : State) (k : ActionKey) :
    ledger (judgeKey n pressed s k) = ledger s := by
  unfold judgeKey; (repeat' split) <;> simp

@[simp] theorem ledger_runKeys (n : Fin 6) (pressed : KeySet) (s : State) : ledger (runKeys n pressed s) = ledger s := by
  unfold runKeys markKey
  split <;> simp [ledger_foldl (ledger_judgeKey n pressed)]

@[simp] theorem ledger_releaseHold (s : State) : ledger (releaseHold s) = ledger s := by
  unfold releaseHold; dsimp only; (repeat' split) <;> simp

@[simp] theorem ledger_holderTiming (n : Fin 6) (rest : Bool) (s : State) : ledger (holderTiming n rest s) = ledger s := by
  unfold holderTiming; (repeat' split) <;> simp

@[simp] theorem ledger_leverTakes (n : Fin 6) (k : ControllerKind) (s : State) : ledger (leverTakes n k s) = ledger s := by
  unfold leverTakes; dsimp only; split <;> simp

@[simp] theorem ledger_makeRequest (n : Fin 6) (k : ControllerKind) (v : PortValue) (s : State) :
    ledger (makeRequest n k v s) = ledger s := by
  unfold makeRequest leverRequest wheelRequest; dsimp only; (repeat' split) <;> simp

@[simp] theorem ledger_enterReport (n : Fin 6) (k : ControllerKind) (s : State) : ledger (enterReport n k s).1 = ledger s := by
  unfold enterReport; dsimp only; (repeat' split) <;> simp

@[simp] theorem ledger_takeReport (n : Fin 6) (r : ControlReport) (first : Bool) (s : State) :
    ledger (takeReport n r first s) = ledger s := by
  unfold takeReport; dsimp only; (repeat' split) <;> simp

@[simp] theorem ledger_validReport (n : Fin 6) (r : ControlReport) (s : State) : ledger (validReport n r s) = ledger s := by
  unfold validReport; dsimp only; split <;> simp

@[simp] theorem ledger_receivePortByte (n : Fin 6) (s : State) (b : Byte) : ledger (receivePortByte n s b) = ledger s := by
  unfold receivePortByte; dsimp only; split <;> simp

@[simp] theorem ledger_reportTimeout (n : Fin 6) (s : State) : ledger (reportTimeout n s) = ledger s := by
  unfold reportTimeout; split <;> simp

@[simp] theorem ledger_releaseExpiry (s : State) : ledger (releaseExpiry s) = ledger s := by unfold releaseExpiry; split <;> simp

@[simp] theorem ledger_setEnabled (n : Fin 6) (e : Bool) (s : State) : ledger (setEnabled n e s) = ledger s := by
  unfold setEnabled; (repeat' split) <;> simp

/-! ### Time -/

@[simp] theorem ledger_tickPort (s : State) (n : Fin 6) : ledger (tickPort s n) = ledger s := by
  unfold tickPort; dsimp only; split <;> simp

@[simp] theorem ledger_tickRelease (s : State) : ledger (tickRelease s) = ledger s := by unfold tickRelease; split <;> simp

@[simp] theorem ledger_tickHead (s : State) (h : Fin 4) : ledger (tickHead s h) = ledger s := by
  unfold tickHead; split <;> simp

@[simp] theorem ledger_tickFrameTimer (s : State) : ledger (tickFrameTimer s) = ledger s := by
  unfold tickFrameTimer; (repeat' split) <;> simp

/-! ### The edit unit's own work on the position -/

@[simp] theorem ledger_reanchor (a : Option Anchor) (row : Nat) (s : State) : ledger (reanchor a row s) = ledger s := by
  unfold reanchor; dsimp only; (repeat' split) <;> simp

@[simp] theorem ledger_followRows (before : Nat) (s : State) : ledger (followRows before s) = ledger s := by
  unfold followRows; (repeat' split) <;> simp

@[simp] theorem content_layStory (c : Nat) (st : Story) : (layStory c st).content = st.content := by
  unfold layStory; dsimp only; split <;> rfl

theorem content_replaceContent (c : Nat) (slug : Line) (chain : List Line) (st : Story) :
    (replaceContent c slug chain st).content = { st.content with slug := slug, chain := chain, markCount := chainMarks chain } :=
  content_layStory c _

theorem content_newStory (c : Nat) (revision : BitVec 16) (count id : Nat) (slug : Line) (chain : List Line) :
    (newStory c revision count id slug chain).content =
      { id := id, slug := slug, state := .ready, revision := 0, chain := chain, rowCount := 0, markCount := chainMarks chain,
        pendingCount := count, dir := none } :=
  content_layStory c _

@[simp] theorem content_skipStory (c : Nat) (st : Story) : (skipStory c st).content = st.content := content_layStory c _
@[simp] theorem content_unskipStory (c : Nat) (st : Story) : (unskipStory c st).content = st.content := content_layStory c _

@[simp] theorem ledger_installLayout (c : Nat) (s : State) : ledger (installLayout c s) = ledger s := by
  simp only [installLayout, ledger_recomputeStates, ledger_setMarks, ledger_reanchor]
  simp [ledger]

end Sys2Proof.Machine
end

section
/-! The invariant of the line pool, the mark budget and the ids, over the ledger and the edits in hand: those that have left their load
or the pending list and are not yet settled (R11, R12, R16, R22, R25, R37, R38). What each change of the ledger makes of it. -/

namespace Sys2Proof.Machine

/-! ### The invariant -/

/-- The ids that the insertions in hand bring. -/
def handIds (hand : List Edit) : List Nat := (hand.filter fun e => e.kind == .insert).map Edit.story

/-- The ids in use, those of the insertions in hand included (R22). -/
def Ledger.ids (hand : List Edit) (g : Ledger) : List Nat :=
  g.contents.map Story.id ++ (g.pending.filter fun r => r.edit.kind == .insert).map (fun r => r.edit.story)
    ++ (g.loads.filter fun l => l.mode == .new).map Load.story ++ handIds hand

/-- The line slots that stories, loads, pending edits and the edits in hand hold (R11). -/
def Ledger.held (hand : List Edit) (g : Ledger) : Nat :=
  (g.contents.map fun st => st.chain.length).sum + (g.loads.map fun l => l.chain.length).sum
    + (g.pending.map fun r => r.edit.chain.length).sum + (hand.map fun e => e.chain.length).sum

/-- The cue marks in the engine, those of the edits in hand included (R25). -/
def Ledger.marks (hand : List Edit) (g : Ledger) : Nat :=
  (g.contents.map Story.markCount).sum + (g.pending.map PendingEdit.marks).sum + (g.loads.map Load.marks).sum
    + (hand.map fun e => chainMarks e.chain).sum

/-- Ids that are distinct, of the range of an id, and no more than the rundown holds (R1). -/
structure IdsOk (ids : List Nat) : Prop where
  nodup : ids.Nodup
  few : ids.length ≤ 96
  range : ∀ id ∈ ids, 1 ≤ id ∧ id ≤ 65535

/-- The counts of a story's record are true, and its slug is short enough (R15, R16, R37). -/
structure StoryOk (pending : List PendingEdit) (st : Story) : Prop where
  count : st.pendingCount = pendingFor pending st.id
  marks : st.markCount = chainMarks st.chain
  slug : st.slug.length ≤ 24

/-- A pending edit's arrival number is below the next, its mark count true and its slug short enough (R15, R16, R38). -/
structure PendingOk (next : Nat) (r : PendingEdit) : Prop where
  below : r.arrival < next
  marks : r.marks = chainMarks r.edit.chain
  slug : r.edit.body.slug.length ≤ 24

/-- An open load has a line for each slot, empty while it is to come, a true mark count and a short slug (R15, R16, R21). -/
structure LoadOk (l : Load) : Prop where
  length : l.chain.length = l.n
  marks : l.marks = chainMarks l.chain
  empty : ∀ text ∈ l.chain.drop l.received, text = []
  slug : l.slug.length ≤ 24

/-- The invariant with the edits `hand` in hand. -/
structure Kept (hand : List Edit) (g : Ledger) : Prop where
  slots : g.freeCount + g.held hand = 4096
  budget : g.marks hand ≤ 256
  arrivals : (g.pending.map PendingEdit.arrival).Nodup
  stories : ∀ st ∈ g.contents, StoryOk g.pending st
  edits : ∀ r ∈ g.pending, PendingOk g.nextArrival r
  loads : ∀ l ∈ g.loads, LoadOk l
  slugs : ∀ e ∈ hand, e.body.slug.length ≤ 24
  ids : IdsOk (g.ids hand)
  loadCount : g.loads.length ≤ 4
  editCount : g.pending.length ≤ 8

theorem pendingFor_eq (pending : List PendingEdit) (id : Nat) :
    (pending.countP fun r => decide (r.edit.story = id)) = pendingFor pending id := by
  simp [pendingFor, beq_eq_decide]

theorem held_ledger (s : State) : (ledger s).held [] = heldSlots s := by
  simp [ledger, Ledger.held, heldSlots, Story.content, Function.comp_def]

theorem marks_ledger (s : State) : (ledger s).marks [] = markTotal s := by
  simp [ledger, Ledger.marks, markTotal, Story.content, Function.comp_def]

theorem ids_ledger (s : State) : (ledger s).ids [] = idsInUse s := by
  simp [ledger, Ledger.ids, idsInUse, handIds, pendingInserts, newLoads, Story.content, Function.comp_def]

/-- With no edit in hand the invariant is the statement's. -/
theorem kept_iff (s : State) : Kept [] (ledger s) ↔ PoolInv s ∧ TextInv s ∧ RundownInv s := by
  have hheld := held_ledger s
  have hmarks := marks_ledger s
  have hids := ids_ledger s
  constructor
  · intro k
    have hst := fun st hst => k.stories (Story.content st) (List.mem_map_of_mem hst)
    exact ⟨⟨hheld ▸ k.slots, k.arrivals, fun r hr => (k.edits r hr).below,
        fun st h => (hst st h).count.trans (pendingFor_eq _ _).symm⟩,
      ⟨(show markTotal s ≤ 256 from hmarks ▸ k.budget), fun st h => (hst st h).marks, fun r hr => (k.edits r hr).marks,
        fun l hl => ⟨(k.loads l hl).length, (k.loads l hl).marks, (k.loads l hl).empty⟩, fun st h => (hst st h).slug,
        fun r hr => (k.edits r hr).slug, fun l hl => (k.loads l hl).slug⟩,
      hids ▸ k.ids.nodup, hids ▸ k.ids.few, hids ▸ k.ids.range, k.loadCount, k.editCount⟩
  · rintro ⟨⟨slots, arrivals, below, counts⟩, ⟨budget, storyMarks, editMarks, loads, storySlugs, editSlugs, loadSlugs⟩,
      nodup, few, range, loadCount, editCount⟩
    refine ⟨hheld ▸ slots, hmarks ▸ budget, arrivals, ?_, fun r hr => ⟨below r hr, editMarks r hr, editSlugs r hr⟩,
      fun l hl => ?_, by simp, ⟨hids ▸ nodup, hids ▸ few, hids ▸ range⟩, loadCount, editCount⟩
    · intro x hx
      obtain ⟨st, hst, rfl⟩ := List.mem_map.mp hx
      exact ⟨(counts st hst).trans (pendingFor_eq _ _), storyMarks st hst, storySlugs st hst⟩
    · obtain ⟨length, marks, empty⟩ := loads l hl
      exact ⟨length, marks, empty, loadSlugs l hl⟩

/-! ### Its ids and its lists -/

theorem IdsOk.subperm {a b : List Nat} (h : IdsOk b) (sub : a.Subperm b) : IdsOk a :=
  ⟨sub.elim fun _ ⟨hp, hs⟩ => hp.nodup_iff.mp (hs.nodup h.nodup), sub.length_le.trans h.few,
    fun id hid => h.range id (sub.subset hid)⟩

theorem IdsOk.perm {a b : List Nat} (h : IdsOk b) (p : a.Perm b) : IdsOk a := h.subperm p.subperm

/-- The order of the rundown does not matter. -/
theorem Kept.perm {hand : List Edit} {g : Ledger} {contents : List Story} (k : Kept hand g) (p : contents.Perm g.contents) :
    Kept hand { g with contents := contents } := by
  refine ⟨?_, ?_, k.arrivals, fun st hst => k.stories st (p.mem_iff.mp hst), k.edits, k.loads, k.slugs,
    k.ids.perm ((((p.map _).append_right _).append_right _).append_right _), k.loadCount, k.editCount⟩
  · have := k.slots
    simp only [Ledger.held, (p.map _).sum_eq] at this ⊢
    exact this
  · have := k.budget
    simp only [Ledger.marks, (p.map _).sum_eq] at this ⊢
    exact this

/-- The ids of the stories in the rundown are distinct (R1). -/
theorem Kept.storyIds {hand : List Edit} {g : Ledger} (k : Kept hand g) : (g.contents.map Story.id).Nodup :=
  (List.nodup_append.mp (List.nodup_append.mp (List.nodup_append.mp k.ids.nodup).1).1).1

/-! ### Edits in hand -/

/-- An edit without a chain may be taken in hand. -/
theorem Kept.take {hand : List Edit} {g : Ledger} (k : Kept hand g) {e : Edit} (h : e.body.carriesChain = false) :
    Kept (e :: hand) g := by
  have hchain : e.chain = [] := by cases hb : e.body <;> simp_all [Edit.chain, EditBody.carriesChain]
  have hslug : e.body.slug = [] := by cases hb : e.body <;> simp_all [EditBody.slug, EditBody.carriesChain]
  have hkind : e.kind ≠ .insert := by cases hb : e.body <;> simp_all [Edit.kind, EditBody.carriesChain]
  refine ⟨?_, ?_, k.arrivals, k.stories, k.edits, k.loads, ?_, ?_, k.loadCount, k.editCount⟩
  · simpa [Ledger.held, hchain] using k.slots
  · simpa [Ledger.marks, hchain, chainMarks] using k.budget
  · simpa [hslug] using k.slugs
  · simpa [Ledger.ids, handIds, hkind] using k.ids

/-- The slots of an edit that is given up come back to the pool (R12, R40). -/
theorem Kept.discard {hand : List Edit} {g : Ledger} {e : Edit} (k : Kept (e :: hand) g) :
    Kept hand { g with freeCount := g.freeCount + e.chain.length } := by
  refine ⟨?_, ?_, k.arrivals, k.stories, k.edits, k.loads, fun x hx => k.slugs x (List.mem_cons_of_mem e hx),
    k.ids.subperm ?_, k.loadCount, k.editCount⟩
  · have := k.slots
    simp only [Ledger.held, List.map_cons, List.sum_cons] at this ⊢
    omega
  · have := k.budget
    simp only [Ledger.marks, List.map_cons, List.sum_cons] at this ⊢
    omega
  · exact ((((List.sublist_cons_self e hand).filter _).map _).append_left _).subperm

/-! ### Stories -/

theorem handIds_cons_insert {e : Edit} (h : e.kind = .insert) (hand : List Edit) : handIds (e :: hand) = e.story :: handIds hand := by
  simp [handIds, h]

/-- An insertion in hand becomes a story (R3, R5). -/
theorem Kept.insertStory {hand : List Edit} {g : Ledger} {e : Edit} (k : Kept (e :: hand) g) (he : e.kind = .insert) {st : Story}
    (hid : st.id = e.story) (hchain : st.chain = e.chain) (ok : StoryOk g.pending st) :
    Kept hand { g with contents := st :: g.contents } := by
  refine ⟨?_, ?_, k.arrivals, List.forall_mem_cons.mpr ⟨ok, k.stories⟩, k.edits, k.loads,
    fun x hx => k.slugs x (List.mem_cons_of_mem e hx), k.ids.perm ?_, k.loadCount, k.editCount⟩
  · have := k.slots
    simp only [Ledger.held, List.map_cons, List.sum_cons, hchain] at this ⊢
    omega
  · have := k.budget
    simp only [Ledger.marks, List.map_cons, List.sum_cons, ok.marks, hchain] at this ⊢
    omega
  · simp only [Ledger.ids, handIds_cons_insert he, List.map_cons, hid, List.cons_append]
    exact List.perm_middle.symm

/-- A replacement in hand gives a story its content, and the old lines free their slots (R6, R12). -/
theorem Kept.replaceStory {hand : List Edit} {g : Ledger} {e : Edit} {st new : Story} {rest : List Story}
    (k : Kept (e :: hand) g) (hg : g.contents.Perm (st :: rest)) (he : e.kind ≠ .insert) (hid : new.id = st.id)
    (hcount : new.pendingCount = st.pendingCount) (hchain : new.chain = e.chain) (hmarks : new.markCount = chainMarks e.chain)
    (hslug : new.slug = e.body.slug) :
    Kept hand { g with contents := new :: rest, freeCount := g.freeCount + st.chain.length } := by
  have k := k.perm hg.symm
  obtain ⟨old, others⟩ := List.forall_mem_cons.mp k.stories
  refine ⟨?_, ?_, k.arrivals, List.forall_mem_cons.mpr ⟨⟨?_, ?_, ?_⟩, others⟩, k.edits, k.loads,
    fun x hx => k.slugs x (List.mem_cons_of_mem e hx), ?_, k.loadCount, k.editCount⟩
  · have := k.slots
    simp only [Ledger.held, List.map_cons, List.sum_cons, hchain] at this ⊢
    omega
  · have := k.budget
    simp only [Ledger.marks, List.map_cons, List.sum_cons, hmarks] at this ⊢
    omega
  · rw [hcount, hid]
    exact old.count
  · rw [hmarks, hchain]
  · rw [hslug]
    exact k.slugs e (List.mem_cons_self)
  · simpa [Ledger.ids, handIds, hid, he] using k.ids

/-- A story that leaves the rundown frees its slots (R5, R12). -/
theorem Kept.removeStory {hand : List Edit} {g : Ledger} {st : Story} {rest : List Story} (k : Kept hand g)
    (hg : g.contents.Perm (st :: rest)) :
    Kept hand { g with contents := rest, freeCount := g.freeCount + st.chain.length } := by
  have k := k.perm hg.symm
  refine ⟨?_, ?_, k.arrivals, (List.forall_mem_cons.mp k.stories).2, k.edits, k.loads, k.slugs, k.ids.subperm ?_, k.loadCount,
    k.editCount⟩
  · have := k.slots
    simp only [Ledger.held, List.map_cons, List.sum_cons] at this ⊢
    omega
  · have := k.budget
    simp only [Ledger.marks, List.map_cons, List.sum_cons] at this ⊢
    omega
  · simp only [Ledger.ids, List.map_cons, List.cons_append]
    exact (List.sublist_cons_self _ _).subperm

/-! ### The pending edit list -/

/-- The rundown with the pending count of the story with an id changed. -/
def bumped (f : Nat → Nat) (id : Nat) (stories : List Story) : List Story :=
  stories.map fun st => if st.id = id then { st with pendingCount := f st.pendingCount } else st

theorem mapStory_eq_map {stories : List Story} (h : (stories.map Story.id).Nodup) (id : Nat) (f : Story → Story) :
    mapStory stories id f = stories.map fun st => if st.id = id then f st else st := by
  induction stories with
  | nil => rfl
  | cons st rest ih =>
    obtain ⟨hst, hrest⟩ := List.nodup_cons.mp h
    simp only [mapStory, List.map_cons]
    split
    · next hid =>
      have others : ∀ x ∈ rest, ¬ x.id = id := fun x hx e => hst (hid ▸ e ▸ List.mem_map_of_mem hx)
      rw [List.map_congr_left fun x hx => if_neg (others x hx)]
      simp
    · rw [ih hrest]

theorem map_bumped {α : Type} (g : Story → α) (hg : ∀ st n, g { st with pendingCount := n } = g st) (f : Nat → Nat) (id : Nat)
    (stories : List Story) : (bumped f id stories).map g = stories.map g := by
  rw [bumped, List.map_map]
  refine List.map_congr_left fun st _ => ?_
  simp only [Function.comp]
  split
  · exact hg st _
  · rfl

/-- A change of a pending count is the same in the contents of the rundown. -/
theorem ledger_bumpPending {s : State} (h : (s.store.stories.map Story.id).Nodup) (f : Nat → Nat) (id : Nat) :
    ledger (bumpPending f id s) = { ledger s with contents := bumped f id (ledger s).contents } := by
  simp only [ledger, bumpPending, mapStory_eq_map h, bumped, List.map_map]
  congr 1
  refine List.map_congr_left fun st _ => ?_
  by_cases hid : st.id = id <;> simp [Story.content, hid]

/-- The list with the pending edits rewritten, where each story's count follows. -/
theorem StoryOk.bumped {before after : List PendingEdit} {f : Nat → Nat} {id : Nat}
    (hf : f (pendingFor before id) = pendingFor after id) (hne : ∀ x, x ≠ id → pendingFor after x = pendingFor before x)
    {stories : List Story} (h : ∀ st ∈ stories, StoryOk before st) : ∀ st ∈ bumped f id stories, StoryOk after st := by
  intro x hx
  obtain ⟨st, hst, rfl⟩ := List.mem_map.mp hx
  obtain ⟨count, marks, slug⟩ := h st hst
  split
  · next hid => exact ⟨by simpa [count, hid] using hf, marks, slug⟩
  · next hid => exact ⟨by rw [count, hne _ hid], marks, slug⟩

/-- The list without one of its records, whose arrival number is its own. -/
theorem filter_arrival_split {before after : List PendingEdit} {r : PendingEdit}
    (h : ((before ++ r :: after).map PendingEdit.arrival).Nodup) :
    ((before ++ r :: after).filter fun x => !(x.arrival == r.arrival)) = before ++ after := by
  have p := (List.perm_middle (a := r) (l₁ := before) (l₂ := after)).map PendingEdit.arrival
  have own : ∀ x ∈ before ++ after, ¬ x.arrival = r.arrival := fun x hx e =>
    (List.nodup_cons.mp (p.nodup_iff.mp h)).1 (e ▸ List.mem_map_of_mem hx)
  have keep : ∀ l, l ⊆ before ++ after → (l.filter fun x => !(x.arrival == r.arrival)) = l := fun l hl =>
    List.filter_eq_self.mpr fun x hx => by simpa using own x (hl hx)
  rw [List.filter_append, List.filter_cons, keep before (by simp), keep after (by simp)]
  simp

theorem pendingFor_cons (r : PendingEdit) (rest : List PendingEdit) (id : Nat) :
    pendingFor (r :: rest) id = pendingFor rest id + if r.edit.story = id then 1 else 0 := by
  simp [pendingFor, List.countP_cons]

theorem pendingFor_perm {a b : List PendingEdit} (p : a.Perm b) (id : Nat) : pendingFor a id = pendingFor b id :=
  p.countP_eq _

/-- A record that leaves the list comes in hand (R37, R39). -/
theorem Kept.leave {hand : List Edit} {g : Ledger} {before after : List PendingEdit} {r : PendingEdit} (k : Kept hand g)
    (hg : g.pending = before ++ r :: after) :
    Kept (r.edit :: hand)
      { g with contents := bumped (· - 1) r.edit.story g.contents, pending := before ++ after } := by
  have p : g.pending.Perm (r :: (before ++ after)) := hg ▸ List.perm_middle
  obtain ⟨ok, others⟩ := List.forall_mem_cons.mp fun x hx => k.edits x (p.mem_iff.mpr hx)
  have count : ∀ id, pendingFor g.pending id = pendingFor (before ++ after) id + if r.edit.story = id then 1 else 0 := fun id => by
    rw [pendingFor_perm p, pendingFor_cons]
  refine ⟨?_, ?_, ?_, ?_, others, k.loads,
    List.forall_mem_cons.mpr ⟨ok.slug, k.slugs⟩, k.ids.perm ?_, k.loadCount, ?_⟩
  · have := k.slots
    simp only [Ledger.held, (p.map _).sum_eq, map_bumped (fun st => st.chain.length) (fun _ _ => rfl), List.map_cons,
      List.sum_cons] at this ⊢
    omega
  · have := k.budget
    simp only [Ledger.marks, (p.map _).sum_eq, map_bumped Story.markCount (fun _ _ => rfl), List.map_cons, List.sum_cons,
      ok.marks] at this ⊢
    omega
  · exact (List.nodup_cons.mp ((p.map _).nodup_iff.mp k.arrivals)).2
  · exact StoryOk.bumped (after := before ++ after) (f := (· - 1)) (id := r.edit.story) (by simp [count])
      (fun x hx => by simp [count, Ne.symm hx]) k.stories
  · simp only [Ledger.ids, map_bumped Story.id (fun _ _ => rfl), List.append_assoc]
    refine (List.Perm.append_left _ ?_).trans (.refl _)
    have q := ((p.filter fun r => r.edit.kind == .insert).map fun r => r.edit.story).symm
    refine .trans ?_ (q.append_right _)
    by_cases hk : r.edit.kind = .insert
    · rw [handIds_cons_insert hk]
      simp only [List.filter_cons, hk, beq_self_eq_true, if_true, List.map_cons, List.cons_append, ← List.append_assoc]
      exact List.perm_middle
    · simp [handIds, hk]
  · have := k.editCount
    rw [p.length_eq, List.length_cons] at this
    exact Nat.le_of_succ_le this

/-- An edit in hand that is deferred joins the list with the next arrival number (R38). -/
theorem Kept.join {hand : List Edit} {g : Ledger} {e : Edit} (k : Kept (e :: hand) g) (room : g.pending.length < 8) :
    Kept hand
      { g with
        contents := bumped (· + 1) e.story g.contents
        pending := g.pending ++ [⟨e, chainMarks e.chain, g.nextArrival⟩]
        nextArrival := g.nextArrival + 1 } := by
  have p := List.perm_append_singleton (⟨e, chainMarks e.chain, g.nextArrival⟩ : PendingEdit) g.pending
  have count : ∀ id, pendingFor (g.pending ++ [⟨e, chainMarks e.chain, g.nextArrival⟩]) id
      = pendingFor g.pending id + if e.story = id then 1 else 0 := fun id => by rw [pendingFor_perm p, pendingFor_cons]
  refine ⟨?_, ?_, ?_, ?_, fun r hr => ?_, k.loads,
    fun x hx => k.slugs x (List.mem_cons_of_mem e hx), k.ids.perm ?_, k.loadCount, ?_⟩
  · have := k.slots
    simp only [Ledger.held, (p.map _).sum_eq, map_bumped (fun st => st.chain.length) (fun _ _ => rfl), List.map_cons,
      List.sum_cons] at this ⊢
    omega
  · have := k.budget
    simp only [Ledger.marks, (p.map _).sum_eq, map_bumped Story.markCount (fun _ _ => rfl), List.map_cons, List.sum_cons] at this ⊢
    omega
  · refine (p.map _).nodup_iff.mpr (List.nodup_cons.mpr ⟨fun h => ?_, k.arrivals⟩)
    obtain ⟨r, hr, harr⟩ := List.mem_map.mp h
    exact absurd harr (k.edits r hr).below.ne
  · exact StoryOk.bumped (by simp [count]) (fun x hx => by simp [count, Ne.symm hx]) k.stories
  · rcases List.mem_cons.mp (p.mem_iff.mp hr) with rfl | hr
    · exact ⟨Nat.lt_succ_self _, rfl, k.slugs e List.mem_cons_self⟩
    · obtain ⟨below, marks, slug⟩ := k.edits r hr
      exact ⟨below.trans (Nat.lt_succ_self _), marks, slug⟩
  · simp only [Ledger.ids, map_bumped Story.id (fun _ _ => rfl), List.append_assoc]
    refine List.Perm.append_left _ ?_
    refine (((p.filter fun r => r.edit.kind == .insert).map fun r => r.edit.story).append_right _).trans ?_
    by_cases hk : e.kind = .insert
    · rw [handIds_cons_insert hk]
      simp only [List.filter_cons, hk, beq_self_eq_true, if_true, List.map_cons, List.cons_append, ← List.append_assoc]
      exact List.perm_middle.symm
    · simp [handIds, hk]
  · simp only [List.length_append, List.length_singleton]
    omega

end Sys2Proof.Machine
end

section
/-! What the operations of the edit unit make of the invariant of pool, budget and ids: the loads, the application of an edit, the
settling and the release of pending edits, and the presenting of an edit (R21 to R31, R37 to R43). -/

namespace Sys2Proof.Machine

theorem Kept.congr {hand : List Edit} {g g' : Ledger} (k : Kept hand g) (h : g' = g) : Kept hand g' := h ▸ k

/-! ### Open loads in the ledger -/

/-- A load that changes within its slots, its id and the budget. -/
theorem Kept.changeLoad {hand : List Edit} {g : Ledger} {before after : List Load} {l new : Load} (k : Kept hand g)
    (hg : g.loads = before ++ l :: after) (ok : LoadOk new) (hchain : new.chain.length = l.chain.length) (hmode : new.mode = l.mode)
    (hstory : new.story = l.story) (fits : g.marks hand + new.marks ≤ 256 + l.marks) :
    Kept hand { g with loads := before ++ new :: after } := by
  have others := k.loads
  rw [hg] at others
  obtain ⟨hbefore, hafter⟩ := List.forall_mem_append.mp others
  have hafter := (List.forall_mem_cons.mp hafter).2
  refine ⟨?_, ?_, k.arrivals, k.stories, k.edits, ?_, k.slugs, ?_, ?_, k.editCount⟩
  · have := k.slots
    simp only [Ledger.held, hg, List.map_append, List.map_cons, List.sum_append, List.sum_cons, hchain] at this ⊢
    exact this
  · simp only [Ledger.marks, hg, List.map_append, List.map_cons, List.sum_append, List.sum_cons] at fits ⊢
    omega
  · intro x hx
    rcases List.mem_append.mp hx with hx | hx
    · exact hbefore x hx
    · rcases List.mem_cons.mp hx with rfl | hx
      · exact ok
      · exact hafter x hx
  · have := k.ids
    simp only [Ledger.ids, hg, List.filter_append, List.filter_cons, hmode] at this ⊢
    split at this <;> simp_all
  · simpa [hg] using k.loadCount

theorem chain_loadEdit (l : Load) : (loadEdit l).chain = l.chain := by unfold loadEdit; split <;> rfl
theorem slug_loadEdit (l : Load) : (loadEdit l).body.slug = l.slug := by unfold loadEdit; split <;> rfl
theorem story_loadEdit (l : Load) : (loadEdit l).story = l.story := by unfold loadEdit; split <;> rfl
theorem kind_loadEdit (l : Load) : (loadEdit l).kind = .insert ↔ l.mode = .new := by
  unfold loadEdit; split <;> simp_all [Edit.kind]

/-- A load whose slot becomes free leaves its edit in hand (R27). -/
theorem Kept.finishLoad {hand : List Edit} {g : Ledger} {before after : List Load} {l : Load} (k : Kept hand g)
    (hg : g.loads = before ++ l :: after) : Kept (loadEdit l :: hand) { g with loads := before ++ after } := by
  have p : g.loads.Perm (l :: (before ++ after)) := hg ▸ List.perm_middle
  obtain ⟨ok, others⟩ := List.forall_mem_cons.mp fun x hx => k.loads x (p.mem_iff.mpr hx)
  refine ⟨?_, ?_, k.arrivals, k.stories, k.edits, others,
    List.forall_mem_cons.mpr ⟨by rw [slug_loadEdit]; exact ok.slug, k.slugs⟩, k.ids.perm ?_, ?_, k.editCount⟩
  · have := k.slots
    simp only [Ledger.held, (p.map _).sum_eq, List.map_cons, List.sum_cons, chain_loadEdit] at this ⊢
    omega
  · have := k.budget
    simp only [Ledger.marks, (p.map _).sum_eq, List.map_cons, List.sum_cons, chain_loadEdit, ok.marks] at this ⊢
    omega
  · simp only [Ledger.ids, List.append_assoc]
    refine List.Perm.append_left _ (List.Perm.append_left _ ?_)
    refine .trans ?_ (((p.filter fun l => l.mode == .new).map Load.story).symm.append_right _)
    by_cases hk : l.mode = .new
    · rw [handIds_cons_insert ((kind_loadEdit l).mpr hk), story_loadEdit]
      simp only [List.filter_cons, hk, beq_self_eq_true, if_true, List.map_cons, List.cons_append]
      exact List.perm_middle
    · have hk' : (loadEdit l).kind ≠ .insert := fun e => hk ((kind_loadEdit l).mp e)
      simp [handIds, hk, hk']
  · have := k.loadCount
    rw [p.length_eq, List.length_cons] at this
    exact Nat.le_of_succ_le this

/-- A load that is given up gives its slots back (R29). -/
theorem Kept.abortLoad {hand : List Edit} {s : State} (k : Kept hand (ledger s)) {tag : Nat} {l : Load}
    (h : findLoad s tag = some l) : Kept hand (ledger (abortLoad l s)) := by
  obtain ⟨-, before, after, hloads, hbefore⟩ := findLoad_eq_some h
  have := (k.finishLoad hloads).discard
  rw [chain_loadEdit] at this
  simpa [ledger, Machine.abortLoad, closeLoad, hloads, eraseLoad_split hbefore] using this

/-- The idle time of a load is no concern of the invariant (R28). -/
theorem Kept.idleLoad {hand : List Edit} {s : State} (k : Kept hand (ledger s)) {tag : Nat} {l : Load}
    (h : findLoad s tag = some l) (f : Nat → Nat) :
    Kept hand (ledger (s.setLoads (mapLoad s.edit.loads tag fun x => { x with idle := f x.idle }))) := by
  obtain ⟨rfl, before, after, hloads, hbefore⟩ := findLoad_eq_some h
  have ok : LoadOk l := k.loads l (by simp [ledger, hloads])
  have := k.changeLoad (new := { l with idle := f l.idle }) hloads ⟨ok.length, ok.marks, ok.empty, ok.slug⟩ rfl rfl rfl
    (Nat.add_le_add_right k.budget _)
  simpa [ledger, hloads, mapLoad_split hbefore] using this

theorem lineMarks_nil : lineMarks [] = 0 := rfl

theorem chainMarks_set {chain : List Line} {i : Nat} (hi : i < chain.length) (hempty : chain[i] = []) (text : Line) :
    chainMarks (chain.set i text) = chainMarks chain + lineMarks text := by
  induction chain generalizing i with
  | nil => exact absurd hi (Nat.not_lt_zero i)
  | cons x rest ih =>
    cases i with
    | zero =>
      obtain rfl : x = [] := hempty
      simp only [chainMarks, List.set_cons_zero, List.map_cons, List.sum_cons, lineMarks_nil]
      omega
    | succ i =>
      have := ih (Nat.lt_of_succ_lt_succ hi) hempty
      simp only [chainMarks, List.set_cons_succ, List.map_cons, List.sum_cons] at this ⊢
      omega

/-- A line stored into the next slot of a load (R24). -/
theorem LoadOk.storeLine {l : Load} (ok : LoadOk l) (h : l.received < l.n) (text : Line) : LoadOk (storeLine text l) := by
  have hi : l.received < l.chain.length := ok.length ▸ h
  have hempty : l.chain[l.received] = [] := ok.empty _ (by rw [List.drop_eq_getElem_cons hi]; exact List.mem_cons_self)
  refine ⟨by simp [Machine.storeLine, ok.length], by simp [Machine.storeLine, chainMarks_set hi hempty, ok.marks], fun x hx => ?_,
    ok.slug⟩
  refine ok.empty x ?_
  rw [List.drop_eq_getElem_cons hi]
  exact List.mem_cons_of_mem _ (by simpa [Machine.storeLine, List.drop_set_of_lt] using hx)

/-- A line that the budget passes fits into it (R25). -/
theorem Kept.fits {s : State} (k : Kept [] (ledger s)) {n : Nat} (h : overBudget n s = false) : (ledger s).marks [] + n ≤ 256 := by
  have := k.budget
  rw [marks_ledger] at this ⊢
  simp only [overBudget, Bool.and_eq_false_iff, decide_eq_false_iff_not] at h
  have hmax : Config.maxMarks = 256 := rfl
  omega

/-- A load with a line stored: the state has the ledger with that load in its place. -/
theorem Kept.storedLoad {s : State} (k : Kept [] (ledger s)) {before after : List Load} {l : Load}
    (hs : s.edit.loads = before ++ l :: after) (h : l.received < l.n) {text : Line} (fits : overBudget (lineMarks text) s = false) :
    Kept [] { ledger s with loads := before ++ storeLine text l :: after } := by
  have ok : LoadOk l := k.loads l (by simp [ledger, hs])
  refine k.changeLoad hs (ok.storeLine h text) (by simp [storeLine]) rfl rfl ?_
  have := k.fits fits
  simp only [storeLine]
  omega

/-- A load that is opened takes its slots from the pool (R23). -/
theorem Kept.addLoad {hand : List Edit} {g : Ledger} {l : Load} (k : Kept hand g) (ok : LoadOk l) (room : g.loads.length < 4)
    (pool : l.chain.length ≤ g.freeCount) (hmarks : l.marks = 0) (hids : l.mode = .new → IdsOk (l.story :: g.ids hand)) :
    Kept hand { g with loads := g.loads ++ [l], freeCount := g.freeCount - l.chain.length } := by
  have p := List.perm_append_singleton l g.loads
  refine ⟨?_, ?_, k.arrivals, k.stories, k.edits, fun x hx => ?_, k.slugs, ?_, ?_, k.editCount⟩
  · have := k.slots
    simp only [Ledger.held, (p.map _).sum_eq, List.map_cons, List.sum_cons] at this ⊢
    omega
  · have := k.budget
    simp only [Ledger.marks, (p.map _).sum_eq, List.map_cons, List.sum_cons, hmarks] at this ⊢
    omega
  · rcases List.mem_cons.mp (p.mem_iff.mp hx) with rfl | hx
    · exact ok
    · exact k.loads x hx
  · by_cases hnew : l.mode = .new
    · refine (hids hnew).perm ?_
      simp only [Ledger.ids, List.filter_append, List.map_append, List.append_assoc]
      simp only [List.filter_cons, hnew, beq_self_eq_true, if_true, List.filter_nil, List.map_cons, List.map_nil,
        List.singleton_append, ← List.append_assoc]
      exact List.perm_middle
    · simpa [Ledger.ids, hnew] using k.ids
  · simp only [List.length_append, List.length_singleton]
    omega

/-- The record that LOAD_OPEN makes (R23). -/
def newLoad (tag : Byte) (editTag : Word16) (mode : Byte) (story n : Word16) (place : Placement) (force : Byte) (slug : Line) : Load :=
  { tag := tag.toNat, editTag := editTag.toNat, mode := if mode = 0 then .new else .replace, story := story.toNat,
    n := n.toNat, place := place, slug := slug, force := decide (force = 1), chain := List.replicate n.toNat [],
    received := 0, marks := 0, idle := 0 }

theorem openLoad_eq (tag : Byte) (editTag : Word16) (mode : Byte) (story n : Word16) (place : Placement) (force : Byte)
    (slug : Line) (s : State) :
    openLoad tag editTag mode story n place force slug s =
      { s.setLoads (s.edit.loads ++ [newLoad tag editTag mode story n place force slug]) with
        store := { s.store with freeCount := s.store.freeCount - n.toNat } } := rfl

/-- The checks of LOAD_OPEN leave room for the load, its id and its chain (R22, R23). -/
theorem Kept.openLoad {s : State} (k : Kept [] (ledger s)) {tag : Byte} {editTag : Word16} {mode : Byte} {story n : Word16}
    {placeKind : Byte} {place : Placement} {force : Byte} {slug : Line} (hranges : loadOpenRanges tag mode story n placeKind force = true)
    (hfault : loadOpenFault tag mode story n place s = none) (hslug : slug.length ≤ 24) :
    Kept [] (ledger (openLoad tag editTag mode story n place force slug s)) := by
  have hstory : story ≠ 0 := by
    simp only [loadOpenRanges, Bool.and_eq_true, decide_eq_true_eq] at hranges
    exact hranges.1.1.1.1.2
  unfold loadOpenFault at hfault
  split_ifs at hfault with hslot htag hexists hplace hreplace hstories hpool
  have hids : mode = 0 → IdsOk (story.toNat :: (ledger s).ids []) := fun hnew => by
    have hcount := k.ids.few
    rw [ids_ledger] at hcount ⊢
    simp only [hnew, true_and, not_or, hasStory_eq_true_iff, List.any_eq_true, beq_iff_eq, not_exists, not_and] at hexists
    obtain ⟨hrundown, hloads, hinserts⟩ := hexists
    have hfew : s.store.stories.length + (pendingInserts s).length + (newLoads s).length + 1 ≤ 96 := by
      simpa [hnew, Config.maxStories] using hstories
    refine ⟨List.nodup_cons.mpr ⟨?_, ids_ledger s ▸ k.ids.nodup⟩, by simpa [idsInUse, add_assoc] using hfew, ?_⟩
    · simp only [idsInUse, List.mem_append, List.mem_map, not_or, not_exists, not_and]
      exact ⟨⟨hrundown, hinserts⟩, hloads⟩
    · refine List.forall_mem_cons.mpr ⟨⟨?_, ?_⟩, ids_ledger s ▸ k.ids.range⟩
      · exact Nat.pos_of_ne_zero fun h => hstory (BitVec.eq_of_toNat_eq h)
      · exact Nat.le_of_lt_succ story.isLt
  have := k.addLoad (l := newLoad tag editTag mode story n place force slug)
    ⟨by simp [newLoad], by simp [newLoad, chainMarks, lineMarks_nil], by simp [newLoad], hslug⟩ (Nat.lt_of_not_le hslot)
    (by simpa [newLoad, ledger] using hpool) rfl (fun h => hids (by simpa [newLoad] using h))
  simpa [newLoad, ledger, openLoad_eq] using this

/-! ### Applying an edit -/

theorem story_ids_ledger (s : State) : (ledger s).contents.map Story.id = s.store.stories.map Story.id := by
  simp [ledger, Story.content, Function.comp_def]

/-- An edit that is applied does its store primitive to the ledger (R43). -/
theorem ledger_applyEdit (fromPending : Bool) (e : Edit) (s : State) :
    ledger (applyEdit fromPending e s)
      = ledger { s with store := storePrimitive s.layout.columns s.edit.pending e s.store } := by
  cases fromPending <;> simp [applyEdit, changeScript]

/-- An edit without a chain that is in hand holds nothing. -/
theorem Kept.drop {hand : List Edit} {g : Ledger} {e : Edit} (k : Kept (e :: hand) g) (h : e.chain = []) : Kept hand g := by
  simpa [h] using k.discard

/-- The rundown's contents, with the story with an id at the front. -/
theorem contents_perm {s : State} {id : Nat} (h : hasStory s.store.stories id = true) :
    ∃ before st after, s.store.stories = before ++ st :: after ∧ st.id = id ∧ (∀ x ∈ before, x.id ≠ st.id)
      ∧ (ledger s).contents.Perm (st.content :: (before ++ after).map Story.content) := by
  obtain ⟨st, hst⟩ := Option.isSome_iff_exists.mp h
  obtain ⟨hid, before, after, hs, hbefore⟩ := findStory_eq_some hst
  refine ⟨before, st, after, hs, hid, hbefore, ?_⟩
  simp only [ledger, hs]
  exact List.perm_middle.map _

/-- An edit in hand that is applied is settled (R3 to R7, R12). -/
theorem Kept.applyEdit {hand : List Edit} {s : State} {e : Edit} (k : Kept (e :: hand) (ledger s))
    (found : e.needsStory = true → hasStory s.store.stories e.story = true) (fromPending : Bool) :
    Kept hand (ledger (applyEdit fromPending e s)) := by
  rw [ledger_applyEdit]
  obtain ⟨tag, story, body⟩ := e
  cases body with
  | replace slug chain =>
    obtain ⟨before, st, after, hs, rfl, hbefore, hg⟩ := contents_perm (found rfl)
    have new := content_replaceContent s.layout.columns slug chain st
    refine ((k.replaceStory hg (by simp [Edit.kind]) (new := (replaceContent s.layout.columns slug chain st).content)
      (by rw [new]) (by rw [new]) (by rw [new]; rfl) (by rw [new]; rfl) (by rw [new]; rfl)).perm
      (contents := (before ++ replaceContent s.layout.columns slug chain st :: after).map Story.content) ?_).congr ?_
    · exact List.perm_middle.map _
    · simp [ledger, storePrimitive, hs, mapStory_split hbefore, chainLength, findStory_split hbefore, Story.content]
  | insert place slug chain =>
    have new := content_newStory s.layout.columns s.store.insertions (pendingFor s.edit.pending story) story slug chain
    refine ((k.insertStory rfl (st := (newStory s.layout.columns s.store.insertions (pendingFor s.edit.pending story) story slug
      chain).content) (by rw [new]) (by rw [new]; rfl) (by rw [new]; exact ⟨rfl, rfl, k.slugs _ List.mem_cons_self⟩)).perm
      (contents := (placeStory place (newStory s.layout.columns s.store.insertions (pendingFor s.edit.pending story) story slug
        chain) s.store.stories).map Story.content) ?_).congr rfl
    exact (placeStory_perm _ _ _).map _
  | delete =>
    obtain ⟨before, st, after, hs, rfl, hbefore, hg⟩ := contents_perm (found rfl)
    refine ((k.drop rfl).removeStory hg).congr ?_
    simp [ledger, storePrimitive, hs, removeStory_split hbefore, chainLength, findStory_split hbefore, Story.content]
  | move place => exact (k.drop rfl).perm ((relocateStory_perm _ _ _).map _)
  | skip =>
    refine (k.drop rfl).congr ?_
    unfold storePrimitive
    dsimp only
    split <;> simp [ledger, map_mapStory Story.content (content_skipStory _)]
  | unskip =>
    refine (k.drop rfl).congr ?_
    unfold storePrimitive
    dsimp only
    split <;> simp [ledger, map_mapStory Story.content (content_unskipStory _)]

/-! ### Pending edits -/

/-- An edit that can be applied names a story that is there, where its kind needs one (R40). -/
theorem editFault_none {e : Edit} {s : State} (h : editFault e s = none) :
    e.needsStory = true → hasStory s.store.stories e.story = true := by
  intro needs
  by_contra absent
  have absent := Bool.eq_false_iff.mpr absent
  simp [editFault, needs, absent] at h

/-- A record that leaves the list comes in hand (R37). -/
theorem Kept.leavePending {hand : List Edit} {s : State} (k : Kept hand (ledger s)) {r : PendingEdit} (hr : r ∈ s.edit.pending) :
    Kept (r.edit :: hand) (ledger (leavePending r s)) := by
  obtain ⟨before, after, hs⟩ := List.append_of_mem hr
  have harr : ((before ++ r :: after).map PendingEdit.arrival).Nodup := hs ▸ k.arrivals
  refine (k.leave hs).congr ?_
  rw [Machine.leavePending, ledger_bumpPending (by simpa [story_ids_ledger] using k.storyIds)]
  simp [ledger, hs, filter_arrival_split harr]

/-- A pending edit that is settled is applied, or gives its chain back (R39, R40). -/
theorem Kept.settlePending {hand : List Edit} {s : State} (k : Kept hand (ledger s)) {r : PendingEdit} (hr : r ∈ s.edit.pending) :
    Kept hand (ledger (settlePending r s)) := by
  have left := k.leavePending hr
  unfold Machine.settlePending
  dsimp only
  split
  · rw [ledger_raise]
    exact left.discard
  · next h => exact left.applyEdit (editFault_none h) true

theorem applyEdit_edit (fromPending : Bool) (e : Edit) (s : State) : (applyEdit fromPending e s).edit = s.edit := by
  have follow : ∀ n t, (followRows n t).edit = t.edit := fun n t => by unfold followRows; (repeat' split) <;> simp
  have anchored : ∀ a n t, (reanchor a n t).edit = t.edit := fun a n t => by unfold reanchor; dsimp only; (repeat' split) <;> simp
  cases fromPending <;> simp [applyEdit, changeScript, follow, anchored]

/-- A settled record is the one that leaves the list (R39). -/
theorem settlePending_pending (r : PendingEdit) (s : State) :
    (settlePending r s).edit.pending = s.edit.pending.filter fun x => !(x.arrival == r.arrival) := by
  unfold settlePending
  dsimp only
  split <;> simp [applyEdit_edit, leavePending, bumpPending]

/-- Records of the list, each settled in turn. -/
theorem Kept.settleEach {hand : List Edit} {s : State} (k : Kept hand (ledger s)) {rs : List PendingEdit}
    (hrs : ∀ r ∈ rs, r ∈ s.edit.pending) (harr : (rs.map PendingEdit.arrival).Nodup) :
    Kept hand (ledger (rs.foldl (fun s r => Machine.settlePending r s) s)) := by
  induction rs generalizing s with
  | nil => exact k
  | cons r rest ih =>
    obtain ⟨hr, hrest⟩ := List.forall_mem_cons.mp hrs
    obtain ⟨own, harr⟩ := List.nodup_cons.mp harr
    refine ih (k.settlePending hr) (fun x hx => ?_) harr
    rw [settlePending_pending]
    exact List.mem_filter.mpr ⟨hrest x hx, by simpa using fun e : x.arrival = r.arrival => own (e ▸ List.mem_map_of_mem hx)⟩

theorem Kept.settleAllFor {hand : List Edit} {s : State} (k : Kept hand (ledger s)) (id : Nat) :
    Kept hand (ledger (settleAllFor id s)) :=
  k.settleEach (fun _ hr => List.mem_of_mem_filter hr) ((List.filter_sublist.map _).nodup k.arrivals)

theorem Kept.releaseOne {hand : List Edit} {acc : State × Bool} (k : Kept hand (ledger acc.1)) (arrival : Nat) :
    Kept hand (ledger (releaseOne acc arrival).1) := by
  rcases releaseOne_eq acc arrival with same | ⟨r, hr, -, -, -, settled⟩
  · rwa [same]
  · rw [settled]
    exact k.settlePending hr

theorem Kept.releasePass {hand : List Edit} {s : State} (k : Kept hand (ledger s)) : Kept hand (ledger (releasePass s).1) := by
  have turns : ∀ (arrivals : List Nat) (acc : State × Bool), Kept hand (ledger acc.1) →
      Kept hand (ledger (arrivals.foldl Machine.releaseOne acc).1) := by
    intro arrivals
    induction arrivals with
    | nil => exact fun _ k => k
    | cons a rest ih => exact fun acc k => ih _ (k.releaseOne a)
  exact turns _ _ k

theorem Kept.releaseLoop {hand : List Edit} {s : State} (k : Kept hand (ledger s)) (fuel : Nat) :
    Kept hand (ledger (releaseLoop fuel s)) := by
  induction fuel generalizing s with
  | zero => exact k
  | succ fuel ih =>
    unfold Machine.releaseLoop
    dsimp only
    split
    · exact ih k.releasePass
    · exact k.releasePass

/-- The release of pending edits (R39). -/
theorem Kept.release {hand : List Edit} {s : State} (k : Kept hand (ledger s)) : Kept hand (ledger (release s)) := by
  unfold Machine.release
  split
  · exact k
  · exact k.releaseLoop _

/-- An edit that joins the list (R38). -/
theorem Kept.joinPending {hand : List Edit} {s : State} {e : Edit} (k : Kept (e :: hand) (ledger s))
    (room : s.edit.pending.length < 8) : Kept hand (ledger (joinPending e s)) := by
  refine (k.join room).congr ?_
  rw [Machine.joinPending, ledger_bumpPending (by simpa [story_ids_ledger] using k.storyIds)]
  simp [ledger]

/-- An edit in hand that is presented is settled, or joins the list (R31, R42). -/
theorem Kept.present {hand : List Edit} {s : State} {e : Edit} (k : Kept (e :: hand) (ledger s))
    (found : e.needsStory = true → hasStory s.store.stories e.story = true) (force : Bool) :
    Kept hand (ledger (present force e s).1) := by
  unfold Machine.present forceEdit
  dsimp only
  split
  · have settled := k.settleAllFor e.story
    split
    · exact settled.discard
    · next h => exact (settled.applyEdit (editFault_none h) false).release
  · split
    · split
      · exact k.discard
      · next room => exact k.joinPending (Nat.lt_of_not_le room)
    · exact (k.applyEdit found false).release

end Sys2Proof.Machine
end

section
/-! Every step keeps the invariant of pool, budget and ids: the commands, the link's receiver and transmitter, the events and the passing
of time (R161, log 2). -/

namespace Sys2Proof.Machine

/-! ### Commands that leave the ledger -/

@[simp] theorem ledger_badLengthReply (code seq : Byte) (s : State) : ledger (badLengthReply code seq s) = ledger s := by
  unfold badLengthReply; split <;> simp

@[simp] theorem ledger_cmdSetColumns (seq c : Byte) (s : State) : ledger (cmdSetColumns seq c s) = ledger s := by
  unfold cmdSetColumns
  dsimp only
  (repeat' split)
  · simp
  · simp
  · rfl

@[simp] theorem ledger_cmdSetMotion (seq : Byte) (vmax a b delay : Word16) (priority : Byte) (k : Word16) (p : Byte) (s : State) :
    ledger (cmdSetMotion seq vmax a b delay priority k p s) = ledger s := by
  unfold cmdSetMotion; split <;> rfl

@[simp] theorem ledger_cmdSetCurve (seq : Byte) (q : Vector Word16 9) (s : State) : ledger (cmdSetCurve seq q s) = ledger s := by
  unfold cmdSetCurve; dsimp only; (repeat' split) <;> simp

@[simp] theorem ledger_cmdSetPort (seq port enabled role : Byte) (timeout : Word16) (gain dead reverse : Byte) (step : Word16)
    (s : State) : ledger (cmdSetPort seq port enabled role timeout gain dead reverse step s) = ledger s := by
  unfold cmdSetPort followRole; dsimp only; split <;> simp

@[simp] theorem ledger_cmdSetFrameSource (seq source rate : Byte) (s : State) :
    ledger (cmdSetFrameSource seq source rate s) = ledger s := by
  unfold cmdSetFrameSource; dsimp only; split <;> simp

@[simp] theorem ledger_cmdReadStory (seq : Byte) (story : Word16) (s : State) : ledger (cmdReadStory seq story s) = ledger s := by
  unfold cmdReadStory; split <;> simp

@[simp] theorem ledger_cmdScrollResume (seq : Byte) (s : State) : ledger (cmdScrollResume seq s) = ledger s := by
  unfold cmdScrollResume resumeScroll; (repeat' split) <;> simp

@[simp] theorem ledger_cmdScrollSpeed (seq : Byte) (speed : Word16) (s : State) : ledger (cmdScrollSpeed seq speed s) = ledger s := by
  unfold cmdScrollSpeed cruiseAt; (repeat' split) <;> simp

@[simp] theorem ledger_cmdJump (seq kind : Byte) (story line rows : Word16) (s : State) :
    ledger (cmdJump seq kind story line rows s) = ledger s := by
  unfold cmdJump; (repeat' split) <;> simp

@[simp] theorem ledger_cmdCueDefine (seq cue : Byte) (actions : List ActionField) (s : State) :
    ledger (cmdCueDefine seq cue actions s) = ledger s := by
  unfold cmdCueDefine; (repeat' split) <;> simp

@[simp] theorem ledger_cmdCueRead (seq cue : Byte) (s : State) : ledger (cmdCueRead seq cue s) = ledger s := by
  unfold cmdCueRead; split <;> rfl

@[simp] theorem ledger_cmdOutputSet (seq mask operation duration : Byte) (s : State) :
    ledger (cmdOutputSet seq mask operation duration s) = ledger s := by
  unfold cmdOutputSet; dsimp only; split <;> simp

@[simp] theorem ledger_cmdHeadConfig (seq head : Byte) (width height : Word16) (scale leading : Byte) (margin : Word16)
    (readingRow rate : Byte) (s : State) :
    ledger (cmdHeadConfig seq head width height scale leading margin readingRow rate s) = ledger s := by
  unfold cmdHeadConfig; (repeat' split) <;> simp

@[simp] theorem ledger_cmdHeadStart (seq head : Byte) (s : State) : ledger (cmdHeadStart seq head s) = ledger s := by
  unfold cmdHeadStart; (repeat' split) <;> simp

@[simp] theorem ledger_cmdHeadStop (seq head : Byte) (s : State) : ledger (cmdHeadStop seq head s) = ledger s := by
  unfold cmdHeadStop; dsimp only; split <;> simp

@[simp] theorem ledger_cmdHeadBlank (seq head : Byte) (s : State) : ledger (cmdHeadBlank seq head s) = ledger s := by
  unfold cmdHeadBlank; (repeat' split) <;> simp

@[simp] theorem ledger_cmdHeadUnblank (seq head : Byte) (s : State) : ledger (cmdHeadUnblank seq head s) = ledger s := by
  unfold cmdHeadUnblank; (repeat' split) <;> simp

@[simp] theorem ledger_cmdHeadAppearance (seq head : Byte) (f : AppearanceFields) (s : State) :
    ledger (cmdHeadAppearance seq head f s) = ledger s := by
  unfold cmdHeadAppearance; split <;> simp

@[simp] theorem ledger_cmdHeadRead (seq head : Byte) (s : State) : ledger (cmdHeadRead seq head s) = ledger s := by
  unfold cmdHeadRead; split <;> simp

/-! ### Commands of the edit unit -/

@[simp] theorem ledger_presentedReply (code seq : Byte) (truncated badMark : Bool) (e : Edit) (okBody : State → ReplyBody)
    (r : State × Presented) : ledger (presentedReply code seq truncated badMark e okBody r) = ledger r.1 := by
  unfold presentedReply; split <;> simp

theorem Kept.cmdLoadOpen {s : State} (k : Kept [] (ledger s)) (seq tag : Byte) (editTag : Word16) (mode : Byte) (story n : Word16)
    (placeKind : Byte) (placeId : Word16) (force : Byte) (slug : List Byte) :
    Kept [] (ledger (cmdLoadOpen seq tag editTag mode story n placeKind placeId force slug s)) := by
  unfold Machine.cmdLoadOpen
  dsimp only
  split
  · next ranges =>
    split
    · simpa using k
    · next fault =>
      rw [ledger_answer]
      refine k.openLoad ranges fault ?_
      simp [prepareSlug, Config.maxSlug]
  · simpa using k

theorem Kept.cmdLoadLine {s : State} (k : Kept [] (ledger s)) (seq tag : Byte) (text : List Byte) :
    Kept [] (ledger (cmdLoadLine seq tag text s)) := by
  unfold Machine.cmdLoadLine
  dsimp only
  split
  · simpa using k
  · next l found =>
    obtain ⟨-, before, after, hloads, hbefore⟩ := findLoad_eq_some found
    (repeat' split)
    · simpa using k.abortLoad found
    · simpa using k.abortLoad found
    · next room fits =>
      refine (k.storedLoad hloads (Nat.lt_of_not_le room) (Bool.eq_false_iff.mpr fits)).congr ?_
      simp [ledger, hloads, mapLoad_split hbefore]

/-- A load that its last line completes is closed, and its edit presented, refused or deferred (R27). -/
theorem Kept.resolveLoad {s : State} (k : Kept [] (ledger s)) (seq : Byte) (truncated badMark : Bool) {tag : Nat} {l : Load}
    (found : findLoad s tag = some l) {text : Line} (room : l.received < l.n) (fits : overBudget (lineMarks text) s = false) :
    Kept [] (ledger (resolveLoad seq truncated badMark (storeLine text l) s)) := by
  obtain ⟨-, before, after, hloads, hbefore⟩ := findLoad_eq_some found
  have closed : Kept [loadEdit (storeLine text l)] (ledger (closeLoad l.tag s)) := by
    refine ((k.storedLoad hloads room fits).finishLoad rfl).congr ?_
    simp [ledger, closeLoad, hloads, eraseLoad_split hbefore]
  unfold Machine.resolveLoad
  dsimp only
  split
  · rw [ledger_answer]
    exact chain_loadEdit (storeLine text l) ▸ closed.discard
  · next h =>
    rw [ledger_presentedReply]
    exact closed.present (editFault_none h) _

theorem Kept.cmdLoadLast {s : State} (k : Kept [] (ledger s)) (seq tag : Byte) (text : List Byte) :
    Kept [] (ledger (cmdLoadLast seq tag text s)) := by
  unfold Machine.cmdLoadLast
  dsimp only
  split
  · simpa using k
  · next l found =>
    split
    · have htag := (findLoad_eq_some found).1
      simpa [touchLoad, htag] using k.idleLoad found fun _ => 0
    · split
      · simpa using k.abortLoad found
      · next room =>
        split
        · simpa using k.abortLoad found
        · next fits =>
          split
          · simpa using k.abortLoad found
          · exact k.resolveLoad seq _ _ found (Nat.lt_of_not_le room) (Bool.eq_false_iff.mpr fits)

theorem Kept.cmdLoadCancel {s : State} (k : Kept [] (ledger s)) (seq tag : Byte) : Kept [] (ledger (cmdLoadCancel seq tag s)) := by
  unfold Machine.cmdLoadCancel
  split
  · simpa using k
  · next found => simpa using k.abortLoad found

/-- An edit without a chain that is presented (R31). -/
theorem Kept.presentBare {s : State} (k : Kept [] (ledger s)) {e : Edit} (bare : e.body.carriesChain = false)
    (found : hasStory s.store.stories e.story = true) (force : Bool) : Kept [] (ledger (Machine.present force e s).1) :=
  (k.take bare).present (fun _ => found) force

/-- The checks that the story commands share find the story (R32 to R34). -/
theorem storyFault_none {ranges : Bool} {story : Word16} {force : Byte} {s : State} (h : storyFault ranges story force s = none) :
    hasStory s.store.stories story.toNat = true := by
  unfold storyFault at h
  split_ifs at h with _ _ found
  simpa using found

theorem Kept.cmdStoryDelete {s : State} (k : Kept [] (ledger s)) (seq : Byte) (editTag story : Word16) (force : Byte) :
    Kept [] (ledger (cmdStoryDelete seq editTag story force s)) := by
  unfold Machine.cmdStoryDelete
  dsimp only
  split
  · simpa using k
  · next h =>
    rw [ledger_presentedReply]
    exact k.presentBare rfl (storyFault_none h) _

theorem Kept.cmdStoryMove {s : State} (k : Kept [] (ledger s)) (seq : Byte) (editTag story : Word16) (placeKind : Byte)
    (placeId : Word16) (force : Byte) : Kept [] (ledger (cmdStoryMove seq editTag story placeKind placeId force s)) := by
  unfold Machine.cmdStoryMove
  dsimp only
  split
  · simpa using k
  · next h =>
    split
    · rw [ledger_presentedReply]
      exact k.presentBare rfl (storyFault_none h) _
    · simpa using k

theorem Kept.cmdStorySkip {s : State} (k : Kept [] (ledger s)) (seq : Byte) (editTag story : Word16) (request force : Byte) :
    Kept [] (ledger (cmdStorySkip seq editTag story request force s)) := by
  unfold Machine.cmdStorySkip
  dsimp only
  split
  · simpa using k
  · next h =>
    have bare : (if request = 0 then EditBody.skip else .unskip).carriesChain = false := by split <;> rfl
    generalize (if request = 0 then EditBody.skip else .unskip) = body at bare ⊢
    split
    · simpa using k
    · rw [ledger_presentedReply]
      exact k.presentBare bare (storyFault_none h) _

theorem Kept.cmdEditCancel {s : State} (k : Kept [] (ledger s)) (seq : Byte) (editTag : Word16) :
    Kept [] (ledger (cmdEditCancel seq editTag s)) := by
  unfold Machine.cmdEditCancel
  split
  · simpa using k
  · next r found =>
    rw [ledger_reply]
    exact (k.leavePending (List.mem_of_find?_eq_some found)).discard

/-! ### Resets -/

/-- An empty script with every slot free (R19, R20). -/
theorem Kept.empty {g : Ledger} (hcontents : g.contents = []) (hfree : g.freeCount = 4096) (hloads : g.loads = [])
    (hpending : g.pending = []) : Kept [] g := by
  obtain ⟨contents, freeCount, loads, pending, next⟩ := g
  subst hcontents hfree hloads hpending
  exact ⟨rfl, Nat.zero_le _, List.nodup_nil, by simp, by simp, by simp, by simp,
    ⟨List.nodup_nil, Nat.zero_le _, by simp [Ledger.ids, handIds]⟩, Nat.zero_le _, Nat.zero_le _⟩

theorem kept_clearShow (s : State) : Kept [] (ledger (clearShow s)) := .empty rfl rfl rfl rfl
theorem kept_fullReset (c : StartCause) (r : LinkRate) (s : State) : Kept [] (ledger (fullReset c r s)) := .empty rfl rfl rfl rfl
theorem kept_heldInReset (s : State) : Kept [] (ledger (heldInReset s)) := .empty rfl rfl rfl rfl

theorem Kept.restartReset {s : State} (k : Kept [] (ledger s)) (r : LinkRate) : Kept [] (ledger (restartReset r s)) := by
  unfold Machine.restartReset
  (repeat' split)
  · exact kept_fullReset _ _ _
  · exact kept_fullReset _ _ _
  · exact k
  · exact k

/-! ### The command link -/

/-- A command that is carried out (R161). -/
theorem Kept.runCommand {s : State} (k : Kept [] (ledger s)) (i : Instr) : Kept [] (ledger (runCommand i s)) := by
  cases i
  case clearShow => exact kept_clearShow s
  case loadOpen => exact k.cmdLoadOpen ..
  case loadLine => exact k.cmdLoadLine ..
  case loadLast => exact k.cmdLoadLast ..
  case loadCancel => exact k.cmdLoadCancel ..
  case storyDelete => exact k.cmdStoryDelete ..
  case storyMove => exact k.cmdStoryMove ..
  case storySkip => exact k.cmdStorySkip ..
  case editCancel => exact k.cmdEditCancel ..
  all_goals
    refine k.congr ?_
    simp [Machine.runCommand, cmdIdentify, cmdStatus, cmdRestart, cmdUnknown, cmdSetReporting, cmdReadRundown, cmdScrollStop,
      cmdReadPosition]

theorem Kept.interpret {s : State} (k : Kept [] (ledger s)) (payload : List Byte) : Kept [] (ledger (interpret payload s)) := by
  unfold Machine.interpret
  split
  · exact k.runCommand _
  · simpa using k

theorem Kept.takeNext {s : State} (k : Kept [] (ledger s)) : Kept [] (ledger (takeNext s)) := by
  unfold Machine.takeNext
  (repeat' split)
  · exact k
  · exact Kept.interpret (k.congr (ledger_withLink _ _)) _
  · exact k

theorem Kept.frameArrives {s : State} (k : Kept [] (ledger s)) (payload : List Byte) :
    Kept [] (ledger (frameArrives payload s)) := by
  have joined : ledger (joinReceived payload s) = ledger s := by unfold joinReceived; split <;> simp
  rw [Machine.frameArrives, ledger_pump]
  exact (k.congr joined).takeNext

theorem Kept.receiveByte {s : State} (k : Kept [] (ledger s)) (b : Byte) : Kept [] (ledger (receiveByte s b)) := by
  unfold Machine.receiveByte
  dsimp only
  split
  · exact Kept.frameArrives (k.congr (ledger_withLink _ _)) _
  · exact k.congr (ledger_withLink _ _)

theorem Kept.transmitDone {s : State} (k : Kept [] (ledger s)) : Kept [] (ledger (transmitDone s)) := by
  unfold Machine.transmitDone replySent
  dsimp only
  split
  · exact k
  · exact Kept.takeNext (k.congr (ledger_withLink _ _))
  · exact k.congr (ledger_withLink _ _)
  · exact k.congr (ledger_withLink _ _)

/-! ### Events and time -/

theorem Kept.foldl {α : Type} {f : State → α → State} (hf : ∀ s a, Kept [] (ledger s) → Kept [] (ledger (f s a))) (l : List α)
    {s : State} (k : Kept [] (ledger s)) : Kept [] (ledger (l.foldl f s)) := by
  induction l generalizing s with
  | nil => exact k
  | cons a rest ih => exact ih (hf s a k)

theorem Kept.loadIdleExpiry {s : State} (k : Kept [] (ledger s)) (tag : Nat) : Kept [] (ledger (loadIdleExpiry tag s)) := by
  unfold Machine.loadIdleExpiry
  split
  · exact k
  · next found => simpa using k.abortLoad found

theorem Kept.tickLoad {s : State} (k : Kept [] (ledger s)) (tag : Nat) : Kept [] (ledger (tickLoad s tag)) := by
  unfold Machine.tickLoad
  split
  · exact k
  · next found =>
    split
    · exact k.loadIdleExpiry tag
    · exact k.idleLoad found (· + 1)

theorem Kept.takeFrame {s : State} (k : Kept [] (ledger s)) : Kept [] (ledger (takeFrame s)) := by
  rw [Machine.takeFrame, scrollFrame, ledger_countFrame]
  exact Kept.release (k.congr (by simp))

theorem Kept.reflowComplete {s : State} (k : Kept [] (ledger s)) : Kept [] (ledger (reflowComplete s)) := by
  unfold Machine.reflowComplete
  dsimp only
  (repeat' split)
  · exact k
  · exact Kept.release (k.congr (by simp))
  · exact Kept.release (k.congr (by simp))

theorem Kept.tickMs {s : State} (k : Kept [] (ledger s)) : Kept [] (ledger (tickMs s)) := by
  unfold Machine.tickMs
  simp only [ledger_withCues, ledger_foldl ledger_tickHead, ledger_tickFrameTimer]
  refine Kept.foldl (fun s tag k => k.tickLoad tag) _ (k.congr ?_)
  simp [ledger_foldl ledger_tickPort]

/-- The idle step (log 2). -/
theorem Kept.tick {s : State} (k : Kept [] (ledger s)) : Kept [] (ledger (tick s)) := by
  unfold Machine.tick
  (repeat' split)
  · exact k
  · simpa using k.takeFrame
  · simpa using k.tickMs

/-- An event of the engine. -/
theorem Kept.live {s t : State} {f : State → State} (k : Kept [] (ledger s)) (hf : Kept [] (ledger (f s)))
    (h : live f s = .next t) : Kept [] (ledger t) := by
  unfold Machine.live at h
  split at h
  · cases h
    exact k
  · cases h
    simpa using hf

/-- A host command, taken at once or put into the receive queue (log 5). -/
theorem Kept.submit {s t : State} {i : Instr} {run : State → State} (k : Kept [] (ledger s)) (hrun : Kept [] (ledger (run s)))
    (h : submit i run s = .next t) : Kept [] (ledger t) := by
  unfold Machine.submit at h
  split_ifs at h
  · cases h
    exact k
  · cases h
    simpa using hrun
  · cases h
    exact k.frameArrives _

theorem Kept.submitCommand {s t : State} {i : Instr} (k : Kept [] (ledger s)) (h : Machine.submit i (Machine.runCommand i) s = .next t) :
    Kept [] (ledger t) := k.submit (k.runCommand i) h

/-- Every row of the table keeps the invariant. -/
theorem Kept.exec {s t : State} (k : Kept [] (ledger s)) (i : Instr) (h : exec i s = .next t) : Kept [] (ledger t) := by
  cases i
  case unknownCommand code seq rest => exact k.submit (k.interpret _) h
  case linkFrame bytes =>
    simp only [Machine.exec, execLinkFrame] at h
    split_ifs at h
    · cases h
      exact k
    · cases h
      exact Kept.foldl (fun s b k => k.receiveByte b) bytes k
  case byteGapTimeout => exact k.live (k.congr (by simp)) h
  case lineBreak => exact k.live (k.congr (by simp)) h
  case transmitDone => exact k.live k.transmitDone h
  case controllerReport port bytes =>
    exact k.live (f := fun s => bytes.foldl (receivePortByte port) s)
      (k.congr (ledger_foldl (ledger_receivePortByte port) bytes s)) h
  case portByteGapTimeout port => exact k.live (k.congr (by simp [portGap])) h
  case reportTimeout port => exact k.live (k.congr (by simp)) h
  case releaseTimerExpiry => exact k.live (k.congr (by simp)) h
  case loadIdleTimeout tag => exact k.live (k.loadIdleExpiry _) h
  case internalTimerExpiry => exact k.live (k.congr (by simp)) h
  case scrollFrame => exact k.live k.takeFrame h
  case frameStart head => exact k.live (k.congr (by simp)) h
  case syncLossExpiry head => exact k.live (k.congr (by simp)) h
  case renderComplete => exact k.live (k.congr (by simp)) h
  case pulseEnd line => exact k.live (f := fun s => s.modLine line CueLine.pulseEnd) (k.congr (by simp)) h
  case reflowComplete => exact k.live k.reflowComplete h
  case powerUp straps =>
    simp only [Machine.exec, execPowerUp] at h
    split_ifs at h
    · cases h
      exact k
    · cases h
      exact kept_fullReset _ _ _
  case resetPinAssert =>
    cases h
    exact kept_heldInReset s
  case resetPinRelease straps =>
    cases h
    exact kept_fullReset _ _ _
  case restartReset straps => exact k.live (k.restartReset straps) h
  all_goals exact k.submitCommand h

theorem Kept.step {s t : State} (k : Kept [] (ledger s)) (h : step s = .next t) : Kept [] (ledger t) := by
  unfold Machine.step at h
  split at h
  · cases h
    exact k.tick
  · next c rest _ => exact Kept.exec (s := { s with pending := rest }) k c h

/-- Settles O57: every step keeps the invariant of the ledger, which with no edit in hand is the statement's. -/
theorem everyStepKeepsTheLinePool : Obligations.EveryStepKeepsTheLinePool := by
  intro s t pool text rundown h
  exact (kept_iff t).mp (((kept_iff s).mpr ⟨pool, text, rundown⟩).step h)

end Sys2Proof.Machine
end

section
/-! The reset values, the reading commands of the store and CLEAR_SHOW (R17 to R20, R168, R169). -/

namespace Sys2Proof.Machine

/-- Settles O3: every block of the reset state, evaluated. -/
theorem resetLeavesTheFullResetValues : Obligations.ResetLeavesTheFullResetValues := by
  unfold Obligations.ResetLeavesTheFullResetValues
  dsimp only
  refine ⟨by decide, by decide, by decide, by decide, by decide, by decide, by decide, by decide, ?_, by decide, by decide⟩
  intro h
  have reset : State.reset.heads[h] = Head.reset := by simp [State.reset]
  rw [reset]
  exact ⟨rfl, rfl, rfl, rfl, rfl, rfl, rfl, rfl, ⟨rfl, rfl, rfl⟩, by decide, by decide⟩

/-- Settles O56: each invariant is a finite fact of the reset state. -/
theorem resetMeetsTheInvariants : Obligations.ResetMeetsTheInvariants := by
  obtain ⟨pool, text, -⟩ := (kept_iff State.reset).mp (.empty rfl rfl rfl rfl)
  exact ⟨by decide, pool, text, by decide, by decide, by decide, by decide, by decide⟩

/-! ### Commands that are taken at once -/

/-- A command that is taken at once is carried out, and an idle transmitter chooses (R161). -/
theorem exec_taken {i : Instr} {s : State} (h : Ready s) (hl : (payloadOf i).length ≤ 220)
    (he : exec i s = submit i (runCommand i) s) : exec i s = .next (pump (runCommand i s)) :=
  he.trans (submit_ready i (runCommand i) s h hl)

/-- A command that is taken at once and answered, by code `c`, from the state `t` that it makes. -/
theorem exec_answer {i : Instr} {s t : State} {c seq : Byte} {result : Result} {truncated badMark : Bool} {body : ReplyBody}
    (code : Byte) (h : Ready s) (hl : (payloadOf i).length ≤ 220) (he : exec i s = submit i (runCommand i) s)
    (hc : code + 0x40 = c) (ht : t.link.restart = s.link.restart)
    (hrun : runCommand i s = answer code seq result truncated badMark body t) :
    exec i s = .next (answered ⟨c, seq, result, truncated, badMark, body⟩ t) := by
  rw [exec_taken h hl he, hrun, pump_answer _ _ _ _ _ _ _ (by simp [ht, h.2.2.2]), hc]

/-- Settles O32: the story that is found stands after the stories before it, which give its index and its start row. -/
theorem readStoryGivesTheRecord : Obligations.ReadStoryGivesTheRecord := by
  intro seq story s ready
  refine ⟨fun absent => exec_answer 0x18 ready (by simp [payloadOf, bytes16]) rfl rfl rfl ?_, fun before st after found hid => ?_⟩
  · simp [runCommand, cmdReadStory, findStory_eq_none_iff.mpr absent, refuse, reply]
  · obtain ⟨hs, hbefore⟩ := found
    have index : (before ++ st :: after).findIdx (fun x => x.id == st.id) = before.length := by
      have none : ¬ ∃ x ∈ before, x.id = st.id := fun ⟨x, hx, e⟩ => hbefore x hx e
      simp [List.findIdx_append, List.findIdx_cons, none]
    refine exec_answer 0x18 ready (by simp [payloadOf, bytes16]) rfl rfl rfl ?_
    simp [runCommand, cmdReadStory, reply, ← hid, hs, findStory_split hbefore, storyFields, startRow_split hbefore, index]

/-- Settles O33: the entries are the records from the first index on, cut to 48. -/
theorem readRundownGivesTheRecordsInOrder : Obligations.ReadRundownGivesTheRecordsInOrder := by
  intro seq first s ready
  refine ⟨((s.store.stories.drop first.toNat).take 48).map fun st => ⟨st.id, st.state, st.pendingCount⟩,
    exec_answer 0x19 ready (by simp [payloadOf]) rfl rfl rfl rfl, by simp, fun i hi => ?_⟩
  have short : i < 48 := by
    simp only [List.length_map, List.length_take] at hi
    omega
  simp [List.getElem?_take_of_lt short]

/-- Settles O16: CLEAR_SHOW's blocks, each as `clearShow` leaves it. -/
theorem clearShowClearsTheScriptAndTheMotion : Obligations.ClearShowClearsTheScriptAndTheMotion := by
  intro seq s ready
  refine ⟨_, exec_answer 0x04 ready (by simp [payloadOf]) rfl rfl (t := clearShow s) rfl rfl, rfl, rfl, rfl, rfl, ⟨rfl, rfl, rfl, rfl⟩,
    fun n => ?_, rfl, fun h => ?_, rfl, rfl⟩
  · have port : (clearShow s).hub.ports[n] =
        if (s.hub.ports[n]).state = .live then { s.hub.ports[n] with mustRest := true } else s.hub.ports[n] :=
      updAll_get _ _ n
    rw [answered_hub, port]
    generalize s.hub.ports[n] = x
    by_cases live : x.state = .live
    · simp [live]
    · have other : (x.state == .live) = false := by simpa using live
      simp [live, other]
  · have head : (clearShow s).heads[h] = { (s.heads[h]).clearBand with bias := 0 } := updAll_get _ _ h
    rw [answered_heads, head]
    exact ⟨_, _, rfl, fun half => by simp [Head.clearBand, BandHalf.cleared], fun i => by simp [Head.clearBand]⟩

end Sys2Proof.Machine
end

section
/-! The story states (R8 to R10): how a recomputation goes through the rundown, the one story that is ON_AIR, and the lookups that the
states do not touch. -/

namespace Sys2Proof.Machine

/-! ### Rows of the rundown -/

@[simp] theorem rowsOf_nil : rowsOf [] = 0 := rfl
@[simp] theorem rowsOf_cons (st : Story) (rest : List Story) : rowsOf (st :: rest) = st.rowCount + rowsOf rest := by simp [rowsOf]
@[simp] theorem rowsOf_append (a b : List Story) : rowsOf (a ++ b) = rowsOf a + rowsOf b := by simp [rowsOf]

theorem rows_eq (s : State) : s.rows = rowsOf s.store.stories := rfl

theorem rowsOf_eq_zero_iff {stories : List Story} : rowsOf stories = 0 ↔ ∀ st ∈ stories, st.rowCount = 0 := by
  simp [rowsOf, List.sum_eq_zero_iff]

/-! ### The recomputation -/

theorem recomputeFrom_append (reading start : Nat) (a b : List Story) :
    recomputeFrom reading start (a ++ b) = recomputeFrom reading start a ++ recomputeFrom reading (start + rowsOf a) b := by
  induction a generalizing start with
  | nil => simp [recomputeFrom]
  | cons st rest ih => simp [recomputeFrom, ih, add_assoc]

theorem length_recomputeFrom (reading start : Nat) (stories : List Story) :
    (recomputeFrom reading start stories).length = stories.length := by
  simpa using congrArg List.length (recomputeFrom_frame (fun _ => ()) (fun _ _ => rfl) reading start stories)

theorem rowsOf_recomputeFrom (reading start : Nat) (stories : List Story) :
    rowsOf (recomputeFrom reading start stories) = rowsOf stories := by
  rw [rowsOf, recomputeFrom_frame Story.rowCount (fun _ _ => rfl)]
  rfl

/-- A story is ON_AIR where the reading row lies in its rows (R8). -/
theorem storyStateAt_eq_onAir_iff {reading start : Nat} {st : Story} :
    storyStateAt reading start st = .onAir ↔ st.state ≠ .skipped ∧ start ≤ reading ∧ reading < start + st.rowCount := by
  unfold storyStateAt
  split_ifs <;> simp_all

/-- No story that starts after the reading row is ON_AIR. -/
theorem recomputeFrom_late {reading start : Nat} (h : reading < start) (stories : List Story) :
    ∀ st ∈ recomputeFrom reading start stories, st.state ≠ .onAir := by
  induction stories generalizing start with
  | nil => simp [recomputeFrom]
  | cons st rest ih =>
    refine List.forall_mem_cons.mpr ⟨fun on => ?_, ih (by omega)⟩
    obtain ⟨-, early, -⟩ := storyStateAt_eq_onAir_iff.mp on
    omega

/-- The stories after one that is ON_AIR are not. -/
theorem recomputeFrom_after_onAir {reading start : Nat} {st : Story} (h : storyStateAt reading start st = .onAir)
    (rest : List Story) : ∀ x ∈ recomputeFrom reading (start + st.rowCount) rest, x.state ≠ .onAir :=
  recomputeFrom_late (storyStateAt_eq_onAir_iff.mp h).2.2 rest

/-- The on-air id is that of any story that is ON_AIR: there is one at most (R10). -/
theorem onAirOf_recomputeFrom {reading start : Nat} {stories : List Story} {st : Story}
    (hst : st ∈ recomputeFrom reading start stories) (on : st.state = .onAir) :
    onAirOf (recomputeFrom reading start stories) = st.id := by
  induction stories generalizing start with
  | nil => exact absurd hst (by simp [recomputeFrom])
  | cons x rest ih =>
    rcases List.mem_cons.mp hst with rfl | hst
    · simp only at on
      simp [onAirOf, recomputeFrom, on]
    · have other : storyStateAt reading start x ≠ .onAir := fun e => recomputeFrom_after_onAir e rest st hst on
      have := ih hst
      simpa [onAirOf, recomputeFrom, List.find?_cons, other] using this

theorem onAirOf_none {stories : List Story} (h : ∀ st ∈ stories, st.state ≠ .onAir) : onAirOf stories = 0 := by
  have none : (stories.find? fun st => st.state == .onAir) = none := List.find?_eq_none.mpr (by simpa using h)
  simp [onAirOf, none]

/-- The on-air id after a recomputation is true (R10). -/
theorem onAirKept_recomputeStates (s : State) : OnAirKept (recomputeStates s) := by
  rw [OnAirKept, recomputeStates_onAirId, recomputeStates_stories]
  exact ⟨fun st hst on => onAirOf_recomputeFrom hst on, onAirOf_none⟩

/-- The reading row lies in the script while it has rows. -/
theorem readingRow_lt {p rows : Nat} (h : 0 < rows) : readingRow p rows < rows := by
  unfold readingRow Config.fine
  split <;> omega

/-- Where the stories without rows are the SKIPPED ones, one story is ON_AIR exactly while the reading row lies in the rows. -/
theorem countP_onAir_recomputeFrom {reading start : Nat} {stories : List Story}
    (h : ∀ st ∈ stories, st.rowCount = 0 ↔ st.state = .skipped) :
    (recomputeFrom reading start stories).countP (fun st => st.state = .onAir)
      = if start ≤ reading ∧ reading < start + rowsOf stories then 1 else 0 := by
  induction stories generalizing start with
  | nil =>
    rw [if_neg (by rw [rowsOf_nil]; omega)]
    rfl
  | cons st rest ih =>
    obtain ⟨hst, hrest⟩ := List.forall_mem_cons.mp h
    have on := storyStateAt_eq_onAir_iff (reading := reading) (start := start) (st := st)
    simp only [recomputeFrom, List.countP_cons, ih hrest, rowsOf_cons, decide_eq_true_eq, on]
    by_cases hs : st.state = .skipped
    · simp [hs, hst.mpr hs]
    · simp only [hs, ne_eq, not_false_eq_true, true_and]
      split_ifs <;> omega

theorem reading_eq (p rows : Nat) : (if p < rows * 1024 then p / 1024 else rows - 1) = readingRow p rows := rfl

/-- A recomputation changes the states and the on-air id, and raises ON_AIR where that changes (R9, R10). -/
theorem recomputeStates_eq (s : State) :
    recomputeStates s =
      if (recomputeStates s).store.onAirId = s.store.onAirId then
        { s with store := { s.store with
          stories := (recomputeStates s).store.stories, onAirId := (recomputeStates s).store.onAirId } }
      else
        raise (.onAir (recomputeStates s).store.onAirId)
          { s with store := { s.store with
            stories := (recomputeStates s).store.stories, onAirId := (recomputeStates s).store.onAirId } } := by
  rw [recomputeStates_onAirId, recomputeStates_stories]
  rfl

theorem recomputeStates_store (s : State) :
    (recomputeStates s).store = { s.store with
      stories := (recomputeStates s).store.stories, onAirId := (recomputeStates s).store.onAirId } := by
  conv_lhs => rw [recomputeStates_eq]
  split <;> simp

theorem onAirNotices_congr {s u : State} (h : s.store.onAirId = u.store.onAirId) (t : State) :
    onAirNotices s t = onAirNotices u t := by simp [onAirNotices, h]

/-- Settles O36: the recomputation taken apart at a story, its count of stories ON_AIR by induction over the rundown. -/
theorem storyStatesFollowTheReadingRow : Obligations.StoryStatesFollowTheReadingRow := by
  intro s _ skipped
  simp only [reading_eq]
  refine ⟨fun before st after hs => ?_, ?_, ?_, onAirKept_recomputeStates s, fun empty => ?_, fun same => ?_, fun changed => ?_⟩
  · refine ⟨_, recomputeFrom (readingRow s.scroll.p s.rows) (rowsOf before + st.rowCount) after,
      length_recomputeFrom (readingRow s.scroll.p s.rows) 0 before, ?_⟩
    rw [recomputeStates_stories, hs, recomputeFrom_append, recomputeFrom, zero_add]
    rfl
  · rw [recomputeStates_stories, length_recomputeFrom]
  · rw [recomputeStates_stories, countP_onAir_recomputeFrom skipped, ← rows_eq]
    by_cases rows : 0 < s.rows
    · simp [rows, readingRow_lt rows]
    · simp [rows]
      omega
  · rw [recomputeStates_onAirId]
    refine onAirOf_none fun st hst on => ?_
    have := countP_onAir_recomputeFrom (reading := readingRow s.scroll.p s.rows) (start := 0) skipped
    rw [if_neg (by rw [← rows_eq]; omega), List.countP_eq_zero] at this
    exact this st hst (decide_eq_true on)
  · exact (recomputeStates_eq s).trans (if_pos same)
  · exact (recomputeStates_eq s).trans (if_neg changed)

/-! ### What the states do not touch -/

/-- A story's record without its state. -/
def Story.unstated (st : Story) : Story := { st with state := .ready }

/-- What does not depend on the states is the same after a recomputation. -/
theorem recomputeFrom_unstated {α : Sort _} (F : List Story → α) (hF : ∀ stories, F (stories.map Story.unstated) = F stories)
    (reading start : Nat) (stories : List Story) : F (recomputeFrom reading start stories) = F stories := by
  rw [← hF, recomputeFrom_frame Story.unstated (fun _ _ => rfl), hF]

theorem findStory_unstated (stories : List Story) (id : Nat) :
    findStory (stories.map Story.unstated) id = (findStory stories id).map Story.unstated := by
  rw [findStory, List.find?_map]
  rfl

theorem startRow_unstated (stories : List Story) (id : Nat) : startRow (stories.map Story.unstated) id = startRow stories id := by
  induction stories with
  | nil => rfl
  | cons st rest ih => simp [startRow, ih, Story.unstated]

theorem anchorRow_unstated (a : Anchor) (stories : List Story) : anchorRow (stories.map Story.unstated) a = anchorRow stories a := by
  unfold anchorRow
  rw [findStory_unstated]
  cases findStory stories a.story with
  | none => rfl
  | some st => simp only [Option.map_some, endRow, startRow_unstated]; rfl

theorem firstWithRows_unstated (stories : List Story) :
    firstWithRows (stories.map Story.unstated) = (firstWithRows stories).map Story.unstated := by
  rw [firstWithRows, List.find?_map]
  rfl

theorem lastWithRows_unstated (stories : List Story) :
    lastWithRows (stories.map Story.unstated) = (lastWithRows stories).map Story.unstated := by
  rw [lastWithRows, ← List.map_reverse, List.find?_map]
  rfl

theorem anchorAfterLoss_unstated (old stories : List Story) (a : Anchor) :
    anchorAfterLoss old (stories.map Story.unstated) a = anchorAfterLoss old stories a := by
  have follow : ((storiesAfter old a.story).filterMap fun st => findStory (stories.map Story.unstated) st.id)
      = ((storiesAfter old a.story).filterMap fun st => findStory stories st.id).map Story.unstated := by
    rw [List.map_filterMap]
    exact congrArg (List.filterMap · _) (funext fun st => findStory_unstated stories st.id)
  unfold anchorAfterLoss
  simp only [follow, firstWithRows_unstated, lastWithRows_unstated]
  cases firstWithRows ((storiesAfter old a.story).filterMap fun st => findStory stories st.id) with
  | none => simp only [Option.map_none, Option.map_map]; rfl
  | some st => rfl

theorem placeAnchor_unstated (e : Edit) (old : List Story) (a : Anchor) (stories : List Story) :
    placeAnchor e old (stories.map Story.unstated) a = placeAnchor e old stories a := by
  simp only [placeAnchor, anchorAfterLoss_unstated]

theorem markRecords_unstated (start : Nat) (stories : List Story) :
    markRecords start (stories.map Story.unstated) = markRecords start stories := by
  induction stories generalizing start with
  | nil => rfl
  | cons st rest ih => simp only [List.map_cons, markRecords, ih]; rfl

end Sys2Proof.Machine
end

section
/-! The application of an edit (R43): the anchor before and after, the position and the biases, the mark list, and the scroll state that
follows the rows. Its frame is the statements' `EditFrame`. -/

namespace Sys2Proof.Machine

/-! ### Anchors -/

theorem storyAtRow_lt {stories : List Story} {r : Nat} (h : r < rowsOf stories) : ∃ x, storyAtRow stories r = some x := by
  induction stories generalizing r with
  | nil => exact absurd h (Nat.not_lt_zero r)
  | cons st rest ih =>
    unfold storyAtRow
    split
    · exact ⟨_, rfl⟩
    · exact ih (by rw [rowsOf_cons] at h; omega)

theorem lastWithRows_eq_none_iff {stories : List Story} : lastWithRows stories = none ↔ rowsOf stories = 0 := by
  simp [lastWithRows, List.find?_eq_none, rowsOf_eq_zero_iff]

theorem firstWithRows_eq_none_iff {stories : List Story} : firstWithRows stories = none ↔ rowsOf stories = 0 := by
  simp [firstWithRows, List.find?_eq_none, rowsOf_eq_zero_iff]

/-- A position has an anchor exactly while the script has rows (R56). -/
theorem takeAnchor_eq_none_iff {stories : List Story} {p : Nat} : takeAnchor stories p = none ↔ rowsOf stories = 0 := by
  unfold takeAnchor Config.fine
  by_cases rows : rowsOf stories = 0
  · simp [rows, show totalRows stories = 0 from rows]
  · rw [if_neg (show ¬ totalRows stories = 0 from rows)]
    split
    · next inside =>
      obtain ⟨x, hx⟩ := storyAtRow_lt (stories := stories) (r := p / 1024)
        (Nat.div_lt_of_lt_mul (Nat.mul_comm _ 1024 ▸ inside))
      simp [hx, rows]
    · simp [lastWithRows_eq_none_iff]

/-- An anchor's fraction is less than a row (R56). -/
theorem takeAnchor_fraction {stories : List Story} {p : Nat} {a : Anchor} (h : takeAnchor stories p = some a) : a.fraction < 1024 := by
  unfold takeAnchor Config.fine at h
  split_ifs at h
  · obtain ⟨x, -, rfl⟩ := Option.map_eq_some_iff.mp h
    exact Nat.mod_lt p (by decide)
  · obtain ⟨st, -, rfl⟩ := Option.map_eq_some_iff.mp h
    exact Nat.zero_lt_succ _

theorem anchorInReplaced_fraction (a : Anchor) (slug : Line) (chain : List Line) :
    (anchorInReplaced a slug chain).fraction = a.fraction := by
  unfold anchorInReplaced
  (repeat' split) <;> rfl

theorem anchorAfterLoss_ne_none {old new : List Story} {a : Anchor} (h : 0 < rowsOf new) : anchorAfterLoss old new a ≠ none := by
  unfold anchorAfterLoss
  dsimp only
  split
  · simp
  · simpa [lastWithRows_eq_none_iff] using h.ne'

theorem anchorAfterLoss_fraction {old new : List Story} {a b : Anchor} (h : anchorAfterLoss old new a = some b) : b.fraction = 0 := by
  unfold anchorAfterLoss at h
  dsimp only at h
  split at h
  · cases h
    rfl
  · obtain ⟨st, -, rfl⟩ := Option.map_eq_some_iff.mp h
    rfl

/-- An edit that leaves rows leaves an anchor (R44, R45). -/
theorem placeAnchor_ne_none {e : Edit} {old new : List Story} {a : Anchor} (h : 0 < rowsOf new) : placeAnchor e old new a ≠ none := by
  unfold placeAnchor
  split_ifs
  · split
    · simp
    · exact anchorAfterLoss_ne_none h
    · exact anchorAfterLoss_ne_none h
    all_goals simp
  · simp

theorem placeAnchor_fraction {e : Edit} {old new : List Story} {a b : Anchor} (h : placeAnchor e old new a = some b)
    (ha : a.fraction < 1024) : b.fraction < 1024 := by
  unfold placeAnchor at h
  split_ifs at h
  · split at h
    · cases h
      rwa [anchorInReplaced_fraction]
    · rw [anchorAfterLoss_fraction h]
      exact Nat.zero_lt_succ _
    · rw [anchorAfterLoss_fraction h]
      exact Nat.zero_lt_succ _
    all_goals
      cases h
      exact ha
  · cases h
    exact ha

/-! ### The re-anchor -/

/-- All that a re-anchor does (R57, R58, R71). -/
theorem reanchor_eq (anchor : Option Anchor) (oldRow : Nat) (s : State) :
    (∃ a, anchor = some a ∧ 0 < s.rows ∧ reanchor anchor oldRow s =
        addBiasAll ((anchorRow s.store.stories a : Int) - (oldRow : Int))
          { s with scroll := { s.scroll with p := anchorRow s.store.stories a * 1024 + a.fraction } })
      ∨ ((anchor = none ∨ s.rows = 0) ∧ reanchor anchor oldRow s = { s with scroll := { s.scroll with p := 0 } }) := by
  cases anchor with
  | none => exact .inr ⟨.inl rfl, rfl⟩
  | some a =>
    by_cases rows : s.rows = 0
    · exact .inr ⟨.inr rows, if_pos rows⟩
    · exact .inl ⟨a, rfl, Nat.pos_of_ne_zero rows, if_neg rows⟩

section
variable (anchor : Option Anchor) (oldRow : Nat) (s : State)

@[simp] theorem reanchor_pending : (reanchor anchor oldRow s).pending = s.pending := by
  obtain ⟨a, -, -, h⟩ | ⟨-, h⟩ := reanchor_eq anchor oldRow s <;> simp [h]
@[simp] theorem reanchor_link : (reanchor anchor oldRow s).link = s.link := by
  obtain ⟨a, -, -, h⟩ | ⟨-, h⟩ := reanchor_eq anchor oldRow s <;> simp [h]
@[simp] theorem reanchor_store : (reanchor anchor oldRow s).store = s.store := by
  obtain ⟨a, -, -, h⟩ | ⟨-, h⟩ := reanchor_eq anchor oldRow s <;> simp [h]
@[simp] theorem reanchor_edit : (reanchor anchor oldRow s).edit = s.edit := by
  obtain ⟨a, -, -, h⟩ | ⟨-, h⟩ := reanchor_eq anchor oldRow s <;> simp [h]
@[simp] theorem reanchor_layout : (reanchor anchor oldRow s).layout = s.layout := by
  obtain ⟨a, -, -, h⟩ | ⟨-, h⟩ := reanchor_eq anchor oldRow s <;> simp [h]
@[simp] theorem reanchor_hub : (reanchor anchor oldRow s).hub = s.hub := by
  obtain ⟨a, -, -, h⟩ | ⟨-, h⟩ := reanchor_eq anchor oldRow s <;> simp [h]
@[simp] theorem reanchor_cues : (reanchor anchor oldRow s).cues = s.cues := by
  obtain ⟨a, -, -, h⟩ | ⟨-, h⟩ := reanchor_eq anchor oldRow s <;> simp [h]
@[simp] theorem reanchor_job : (reanchor anchor oldRow s).job = s.job := by
  obtain ⟨a, -, -, h⟩ | ⟨-, h⟩ := reanchor_eq anchor oldRow s <;> simp [h]
@[simp] theorem reanchor_resetHeld : (reanchor anchor oldRow s).resetHeld = s.resetHeld := by
  obtain ⟨a, -, -, h⟩ | ⟨-, h⟩ := reanchor_eq anchor oldRow s <;> simp [h]
/-- A re-anchor changes the position alone of the scroll controller. -/
theorem reanchor_scroll : (reanchor anchor oldRow s).scroll = { s.scroll with p := (reanchor anchor oldRow s).scroll.p } := by
  obtain ⟨a, -, -, h⟩ | ⟨-, h⟩ := reanchor_eq anchor oldRow s <;> simp [h]

end

theorem reanchor_rows_zero (anchor : Option Anchor) (oldRow : Nat) {s : State} (h : s.rows = 0) :
    (reanchor anchor oldRow s).scroll.p = 0 := by
  obtain ⟨a, -, rows, -⟩ | ⟨-, h⟩ := reanchor_eq anchor oldRow s
  · omega
  · rw [h]

/-- R138 as the statements say it. -/
theorem biasShifted_addBias (delta : Int) (h : Head) : BiasShifted delta h (h.addBias delta) := by
  unfold BiasShifted Head.addBias Config.biasMin Config.biasMax
  split_ifs with out inside inside
  · omega
  · rfl
  · rfl
  · omega

/-- A re-anchor of `s` whose rows have become those of `u`, and what a state `t` keeps of it (R57, R58). -/
theorem reanchored_of_reanchor {anchor : Option Anchor} {s u t : State} (hheads : u.heads = s.heads)
    (hanchor : 0 < s.rows → 0 < u.rows → anchor ≠ none) (hnone : s.rows = 0 → anchor = none)
    (hfraction : ∀ a ∈ anchor, a.fraction < 1024) (htheads : t.heads = (reanchor anchor (s.scroll.p / 1024) u).heads)
    (htp : t.scroll.p = (reanchor anchor (s.scroll.p / 1024) u).scroll.p) (htrows : t.rows = u.rows)
    (htrow : ∀ a, anchorRow t.store.stories a = anchorRow u.store.stories a) : Reanchored anchor s t := by
  unfold Reanchored
  rw [htheads, htp, htrows]
  obtain ⟨a, rfl, rows, h⟩ | ⟨lost, h⟩ := reanchor_eq anchor (s.scroll.p / 1024) u
  · have before : 0 < s.rows := Nat.pos_of_ne_zero fun e => absurd (hnone e) (by simp)
    rw [if_pos ⟨before, rows⟩, h]
    refine ⟨⟨a, rfl, by rw [htrow]; rfl⟩, fun i => ?_⟩
    have row : (anchorRow u.store.stories a * 1024 + a.fraction) / 1024 = anchorRow u.store.stories a := by
      have := hfraction a rfl
      omega
    simp only [addBiasAll_scroll, addBiasAll_heads, updAll_get, hheads, row]
    exact biasShifted_addBias _ _
  · rw [if_neg, h]
    · exact ⟨rfl, hheads⟩
    · rintro ⟨before, after⟩
      rcases lost with lost | lost
      · exact hanchor before after lost
      · omega

/-! ### The mark list -/

theorem markRecords_disarmed {start : Nat} {stories : List Story} : ∀ m ∈ markRecords start stories, m.armed = false := by
  have chars : ∀ st start l i codes, ∀ m ∈ charMarkRecords st start l i codes, m.armed = false := by
    intro st start l i codes m hm
    obtain ⟨x, -, rfl⟩ := List.mem_map.mp hm
    rfl
  have lines : ∀ st start l text, ∀ m ∈ lineMarkRecords st start l text, m.armed = false := by
    intro st start l text m hm
    rcases List.mem_append.mp hm with hm | hm
    · obtain ⟨x, -, hm⟩ := List.mem_flatMap.mp hm
      exact chars _ _ _ _ _ m hm
    · exact chars _ _ _ _ _ m hm
  induction stories generalizing start with
  | nil => simp [markRecords]
  | cons st rest ih =>
    intro m hm
    rcases List.mem_append.mp hm with hm | hm
    · unfold storyMarkRecords at hm
      split at hm
      · simp at hm
      · obtain ⟨x, -, hm⟩ := List.mem_flatMap.mp hm
        exact lines _ _ _ _ m hm
    · exact ih m hm

theorem sameMark_iff {a b : MarkRecord} : sameMark a b = true ↔ b.key = a.key := by
  simp only [sameMark, MarkRecord.key, Bool.and_eq_true, beq_iff_eq, Prod.mk.injEq]
  constructor
  · rintro ⟨⟨⟨h1, h2⟩, h3⟩, h4⟩
    exact ⟨h1.symm, h2.symm, h3.symm, h4.symm⟩
  · rintro ⟨h1, h2, h3, h4⟩
    exact ⟨⟨⟨h1.symm, h2.symm⟩, h3.symm⟩, h4.symm⟩

/-- The mark list that is rebuilt for a rundown is carried over (R63, R64, R124). -/
theorem marksCarried_of_rebuild {fresh : Option Nat} {s t : State} {stories : List Story}
    (hmarks : t.layout.marks = rebuildMarks s.layout.marks stories fresh t.scroll.p)
    (hrecords : markRecords 0 t.store.stories = markRecords 0 stories) : MarksCarried fresh s t := by
  unfold MarksCarried
  rw [hmarks, hrecords]
  have rename : ∀ (m : MarkRecord) (p : Nat), m.armed = false →
      { (if fresh = some m.story then { m with armed := decide (p < m.position) }
          else match s.layout.marks.find? (sameMark m) with
            | some o => { m with armed := o.armed }
            | none => { m with armed := decide (p < m.position) } : MarkRecord) with armed := false } = m := by
    intro m p hm
    obtain ⟨position, cue, story, line, char, ordinal, armed⟩ := m
    obtain rfl : armed = false := hm
    (repeat' split) <;> rfl
  constructor
  · rw [rebuildMarks, List.map_map]
    conv_rhs => rw [← List.map_id (markRecords 0 stories)]
    exact List.map_congr_left fun m hm => rename m t.scroll.p (markRecords_disarmed m hm)
  · intro m hm
    obtain ⟨r, hr, rfl⟩ := List.mem_map.mp hm
    by_cases new : fresh = some r.story
    · simp [new]
    · rw [if_neg new]
      have story : ∀ x : Bool, ({ r with armed := x } : MarkRecord).story = r.story := fun _ => rfl
      have find : (s.layout.marks.find? fun x => x.key = r.key) = s.layout.marks.find? (sameMark r) :=
        congrArg (List.find? · _) (funext fun x => by rw [Bool.eq_iff_iff, sameMark_iff, decide_eq_true_eq])
      cases h : s.layout.marks.find? (sameMark r) with
      | some o =>
        refine ⟨fun e => absurd e new, fun _ o' ho' => ?_⟩
        have : some o = some o' := (h.symm.trans find.symm).trans ho'
        cases this
        rfl
      | none =>
        refine ⟨fun e => absurd e new, fun _ o' ho' => ?_⟩
        exact absurd ((h.symm.trans find.symm).trans ho') (by simp)

/-! ### The scroll state -/

section
variable (before : Nat) (s : State)

/-- All that the scroll state's following of the rows does (R71). -/
theorem followRows_eq :
    (before = 0 ∧ 0 < s.rows ∧ followRows before s =
        setScrollState (if leverHolds s then .manual else .stopped) .script { s with scroll := { s.scroll with v := 0 } })
      ∨ (0 < before ∧ s.rows = 0 ∧ followRows before s =
        setScrollState .idle .script { s with scroll := { s.scroll with p := 0, v := 0, direction := .forward } })
      ∨ ((before = 0 ↔ s.rows = 0) ∧ followRows before s = s) := by
  by_cases fill : before = 0 ∧ 0 < s.rows
  · exact .inl ⟨fill.1, fill.2, if_pos fill⟩
  · by_cases empty : 0 < before ∧ s.rows = 0
    · exact .inr (.inl ⟨empty.1, empty.2, (if_neg fill).trans (if_pos empty)⟩)
    · exact .inr (.inr ⟨by omega, (if_neg fill).trans (if_neg empty)⟩)

@[simp] theorem followRows_pending : (followRows before s).pending = s.pending := by
  obtain ⟨-, -, h⟩ | ⟨-, -, h⟩ | ⟨-, h⟩ := followRows_eq before s <;> simp [h]
@[simp] theorem followRows_store : (followRows before s).store = s.store := by
  obtain ⟨-, -, h⟩ | ⟨-, -, h⟩ | ⟨-, h⟩ := followRows_eq before s <;> simp [h]
@[simp] theorem followRows_edit : (followRows before s).edit = s.edit := by
  obtain ⟨-, -, h⟩ | ⟨-, -, h⟩ | ⟨-, h⟩ := followRows_eq before s <;> simp [h]
@[simp] theorem followRows_layout : (followRows before s).layout = s.layout := by
  obtain ⟨-, -, h⟩ | ⟨-, -, h⟩ | ⟨-, h⟩ := followRows_eq before s <;> simp [h]
@[simp] theorem followRows_hub : (followRows before s).hub = s.hub := by
  obtain ⟨-, -, h⟩ | ⟨-, -, h⟩ | ⟨-, h⟩ := followRows_eq before s <;> simp [h]
@[simp] theorem followRows_cues : (followRows before s).cues = s.cues := by
  obtain ⟨-, -, h⟩ | ⟨-, -, h⟩ | ⟨-, h⟩ := followRows_eq before s <;> simp [h]
@[simp] theorem followRows_heads : (followRows before s).heads = s.heads := by
  obtain ⟨-, -, h⟩ | ⟨-, -, h⟩ | ⟨-, h⟩ := followRows_eq before s <;> simp [h]
@[simp] theorem followRows_job : (followRows before s).job = s.job := by
  obtain ⟨-, -, h⟩ | ⟨-, -, h⟩ | ⟨-, h⟩ := followRows_eq before s <;> simp [h]
@[simp] theorem followRows_resetHeld : (followRows before s).resetHeld = s.resetHeld := by
  obtain ⟨-, -, h⟩ | ⟨-, -, h⟩ | ⟨-, h⟩ := followRows_eq before s <;> simp [h]

/-- The position stays, as an empty script has it at 0 already. -/
theorem followRows_p (h : s.rows = 0 → s.scroll.p = 0) : (followRows before s).scroll.p = s.scroll.p := by
  obtain ⟨-, -, e⟩ | ⟨-, empty, e⟩ | ⟨-, e⟩ := followRows_eq before s
  · simp [e]
  · simp [e, h empty]
  · rw [e]

/-- A change of state with the rows raises SCROLL_STATE with cause SCRIPT (R71, R72). -/
theorem followRows_link :
    (followRows before s).link = (noticesRaised (stateNotices .script s (followRows before s)) s).link := by
  obtain ⟨-, -, e⟩ | ⟨-, -, e⟩ | ⟨-, e⟩ := followRows_eq before s
  · rw [e, setScrollState_link]
    exact noticesRaised_link_congr _ _ _ rfl
  · rw [e, setScrollState_link]
    exact noticesRaised_link_congr _ _ _ rfl
  · simp [e, stateNotices]

end

theorem scroll_setScrollState (new : ScrollState) (c : ScrollCause) (s : State) :
    (setScrollState new c s).scroll = { s.scroll with state := new } := by
  obtain ⟨h, e⟩ | ⟨-, e⟩ := setScrollState_eq new c s
  · rw [e, ← h]
  · rw [e, raise_scroll]

/-- The velocity, the direction and the state follow the rows (R71). -/
theorem rowsFollowed_of_followRows {s u t : State} (hscroll : u.scroll = { s.scroll with p := u.scroll.p }) (hhub : u.hub = s.hub)
    (ht : t.scroll = (followRows s.rows u).scroll) (htrows : t.rows = u.rows) : RowsFollowed s t := by
  have lever : leverHolds u = leverHolds s := by simp [leverHolds, hhub]
  unfold RowsFollowed
  rw [ht, htrows]
  obtain ⟨fill, rows, e⟩ | ⟨before, empty, e⟩ | ⟨same, e⟩ := followRows_eq s.rows u
  · rw [e, scroll_setScrollState, lever, hscroll]
    exact ⟨u.scroll.p, 0, s.scroll.direction, _, rfl, by omega, fun _ _ => ⟨rfl, rfl, rfl⟩, by omega⟩
  · rw [e, scroll_setScrollState, hscroll]
    exact ⟨0, 0, .forward, .idle, rfl, by omega, by omega, fun _ _ => ⟨rfl, rfl, rfl, rfl⟩⟩
  · rw [e, hscroll]
    exact ⟨u.scroll.p, s.scroll.v, s.scroll.direction, s.scroll.state, rfl, fun _ => ⟨rfl, rfl, rfl⟩, by omega, by omega⟩

/-! ### The frame of an edit -/

/-- The state with an edit's store primitive done (R43 steps 2 and 3). -/
def storeChanged (e : Edit) (s : State) : State :=
  { s with store := storePrimitive s.layout.columns s.edit.pending e s.store }

/-- The state re-anchored, with its mark list rebuilt (R43 steps 4 and 5). -/
def scriptAnchored (e : Edit) (s : State) : State :=
  let u := reanchor (editAnchor e s (storeChanged e s).store.stories) (s.scroll.p / 1024) (storeChanged e s)
  { u with layout := { u.layout with
    marks := rebuildMarks s.layout.marks u.store.stories (newMarkStory s.store.stories e) u.scroll.p } }

theorem changeScript_eq (e : Edit) (s : State) : changeScript e s = followRows s.rows (scriptAnchored e s) := rfl

theorem scriptAnchored_store (e : Edit) (s : State) : (scriptAnchored e s).store = (storeChanged e s).store := by
  simp [scriptAnchored]

theorem storePrimitive_onAirId (c : Nat) (pending : List PendingEdit) (e : Edit) (st : Store) :
    (storePrimitive c pending e st).onAirId = st.onAirId := by
  unfold storePrimitive
  (repeat' split) <;> rfl

/-- The rundown after an edit: that of the store primitive, with its states taken afresh (R9, R43). -/
theorem applyEdit_stories (e : Edit) (s : State) :
    (applyEdit false e s).store.stories = restated (applyEdit false e s) (storeChanged e s).store.stories := by
  have store : (changeScript e s).store = (storeChanged e s).store := by
    rw [changeScript_eq, followRows_store, scriptAnchored_store]
  have rows : (changeScript e s).rows = rowsOf (storeChanged e s).store.stories := by rw [rows_eq, store]
  simp only [applyEdit, Bool.false_eq_true, if_false, recomputeStates_stories, recomputeStates_scroll, restated, rows, store]

theorem applyEdit_store (e : Edit) (s : State) :
    (applyEdit false e s).store.insertions = (storeChanged e s).store.insertions
      ∧ (applyEdit false e s).store.edition = (storeChanged e s).store.edition
      ∧ (applyEdit false e s).store.freeCount = (storeChanged e s).store.freeCount := by
  simp [applyEdit, changeScript_eq, scriptAnchored_store]

theorem rowsOf_restated (t : State) (stories : List Story) : rowsOf (restated t stories) = rowsOf stories :=
  rowsOf_recomputeFrom _ _ _

theorem applyEdit_now (e : Edit) (s : State) :
    applyEdit false e s = recomputeStates (followRows s.rows (scriptAnchored e s)) := by
  simp [applyEdit, changeScript_eq]

theorem scriptAnchored_rows (e : Edit) (s : State) : (scriptAnchored e s).rows = (storeChanged e s).rows := by
  rw [rows_eq, scriptAnchored_store, rows_eq]

theorem applyEdit_rows (e : Edit) (s : State) : (applyEdit false e s).rows = (storeChanged e s).rows := by
  rw [rows_eq, applyEdit_stories, rowsOf_restated, rows_eq]

/-- The position after an edit is the one it is re-anchored to (R57, R71). -/
theorem applyEdit_p (e : Edit) (s : State) : (applyEdit false e s).scroll.p = (scriptAnchored e s).scroll.p := by
  rw [applyEdit_now, recomputeStates_scroll, followRows_p]
  intro empty
  exact reanchor_rows_zero _ _ (by rwa [scriptAnchored_rows] at empty)

theorem answered_link_congr (r : Reply) {s t : State} (h : s.link = t.link) : (answered r s).link = (answered r t).link := by
  simp [answered, h]

/-- What does not depend on the states is the same of the rundown after an edit and after its store primitive. -/
theorem applyEdit_unstated {α : Type} (F : List Story → α) (hF : ∀ l, F (l.map Story.unstated) = F l) (e : Edit) (s : State) :
    F (applyEdit false e s).store.stories = F (storeChanged e s).store.stories := by
  rw [applyEdit_stories]
  exact recomputeFrom_unstated F hF _ _ _

/-- SCROLL_STATE where the state changes, then ON_AIR where the on-air id does (R10, R72). -/
theorem applyEdit_link (e : Edit) (s : State) :
    (applyEdit false e s).link =
      (noticesRaised (stateNotices .script s (applyEdit false e s) ++ onAirNotices s (applyEdit false e s)) s).link := by
  have start : (scriptAnchored e s).link = s.link := by simp [scriptAnchored, storeChanged]
  have id : (scriptAnchored e s).store.onAirId = s.store.onAirId := by
    rw [scriptAnchored_store]
    exact storePrimitive_onAirId _ _ _ _
  have state : (scriptAnchored e s).scroll.state = s.scroll.state := by
    simp only [scriptAnchored]
    rw [reanchor_scroll]
    rfl
  rw [noticesRaised_append, applyEdit_now, recomputeStates_link_notices]
  have onAir : (followRows s.rows (scriptAnchored e s)).store.onAirId = s.store.onAirId := by rw [followRows_store, id]
  have scroll : stateNotices .script (scriptAnchored e s) (followRows s.rows (scriptAnchored e s))
      = stateNotices .script s (recomputeStates (followRows s.rows (scriptAnchored e s))) := by
    simp only [stateNotices, recomputeStates_scroll, state]
  rw [onAirNotices_congr onAir]
  refine noticesRaised_link_congr _ _ _ ?_
  rw [followRows_link, scroll]
  exact noticesRaised_link_congr _ _ _ start

/-- An edit's anchor is there while rows are, before and after (R45). -/
theorem editAnchor_ne_none {e : Edit} {s : State} {after : List Story} (before : 0 < s.rows) (rows : 0 < rowsOf after) :
    editAnchor e s after ≠ none := by
  unfold editAnchor
  cases h : takeAnchor s.store.stories s.scroll.p with
  | none => exact absurd (takeAnchor_eq_none_iff.mp h) (Nat.pos_iff_ne_zero.mp before)
  | some a => exact placeAnchor_ne_none rows

theorem editAnchor_fraction {e : Edit} {s : State} {after : List Story} : ∀ a ∈ editAnchor e s after, a.fraction < 1024 := by
  intro b hb
  obtain ⟨a, ha, hb⟩ := Option.bind_eq_some_iff.mp hb
  exact placeAnchor_fraction hb (takeAnchor_fraction ha)

/-- An edit that is applied at once and answered has the frame that R43 gives it. -/
theorem editFrame_applyEdit (e : Edit) (s : State) (r : Reply) :
    EditFrame e (newMarkStory s.store.stories e) r s (answered r (applyEdit false e s)) := by
  have p := applyEdit_p e s
  have scroll : (scriptAnchored e s).scroll = { s.scroll with p := (scriptAnchored e s).scroll.p } := reanchor_scroll _ _ _
  have after : editAnchor e s (applyEdit false e s).store.stories = editAnchor e s (storeChanged e s).store.stories :=
    applyEdit_unstated (editAnchor e s) (fun l => by simp only [editAnchor, placeAnchor_unstated]) e s
  refine ⟨?_, ?_, ?_, ?_, ?_, ?_, answered_link_congr r (applyEdit_link e s)⟩
  · simp [applyEdit_now, scriptAnchored, storeChanged]
  · exact ⟨(applyEdit false e s).layout.marks, by simp [applyEdit_now, scriptAnchored, storeChanged]⟩
  · refine marksCarried_of_rebuild (stories := (storeChanged e s).store.stories) ?_ ?_
    · rw [answered_scroll, p]
      simp [applyEdit_now, scriptAnchored]
    · exact applyEdit_unstated _ (markRecords_unstated 0) e s
  · refine rowsFollowed_of_followRows scroll (by simp [scriptAnchored, storeChanged]) ?_ ?_
    · simp [applyEdit_now]
    · exact (applyEdit_rows e s).trans (scriptAnchored_rows e s).symm
  · rw [applyEdit_now]
    exact onAirKept_recomputeStates _
  · rw [answered_store, after]
    refine reanchored_of_reanchor (u := storeChanged e s) rfl editAnchor_ne_none (fun empty => ?_) editAnchor_fraction ?_ p
      (applyEdit_rows e s) (fun a => applyEdit_unstated (anchorRow · a) (anchorRow_unstated a) e s)
    · rw [editAnchor, takeAnchor_eq_none_iff.mpr empty]
      rfl
    · simp [applyEdit_now, scriptAnchored]

end Sys2Proof.Machine
end

section
/-! The window and the checks of an edit in the statements' terms (R35, R36, R40), and the story commands that are applied at once (R31 to
R34). -/

namespace Sys2Proof.Machine

/-! ### A story found -/

theorem found_of_findStory {s : State} {id : Nat} {st : Story} (h : findStory s.store.stories id = some st) :
    st.id = id ∧ ∃ before after, Found s before st after := findStory_eq_some h

theorem findStory_of_found {s : State} {before after : List Story} {st : Story} (found : Found s before st after) :
    findStory s.store.stories st.id = some st := by
  obtain ⟨hs, hbefore⟩ := found
  rw [hs, findStory_split hbefore]

theorem hasStory_of_found {s : State} {before after : List Story} {st : Story} (found : Found s before st after) :
    hasStory s.store.stories st.id = true := by simp [hasStory, findStory_of_found found]

theorem startRow_of_found {s : State} {before after : List Story} {st : Story} (found : Found s before st after) :
    startRow s.store.stories st.id = rowsOf before := by
  obtain ⟨hs, hbefore⟩ := found
  rw [hs, startRow_split hbefore]

theorem endRow_of_found {s : State} {before after : List Story} {st : Story} (found : Found s before st after) :
    endRow s.store.stories st = rowsOf before + st.rowCount := by rw [endRow, startRow_of_found found]

/-- The place of an id in the rundown is its own. -/
theorem found_unique {s : State} {before before' after after' : List Story} {st st' : Story} (h : Found s before st after)
    (h' : Found s before' st' after') (hid : st'.id = st.id) : before' = before ∧ st' = st := by
  have story : some st' = some st := by rw [← findStory_of_found h, ← findStory_of_found h', hid]
  obtain ⟨hs, hbefore⟩ := h
  obtain ⟨hs', hbefore'⟩ := h'
  refine ⟨?_, Option.some.inj story⟩
  rw [← storiesBefore_split hbefore after, ← storiesBefore_split hbefore' after', ← hs, ← hs', hid]

/-- What is said of the story with an id, for the story that is found. -/
theorem named_iff {s : State} {before after : List Story} {st : Story} (found : Found s before st after)
    (P : List Story → Story → Prop) :
    (∃ b x a, Found s b x a ∧ x.id = st.id ∧ P b x) ↔ P before st := by
  constructor
  · rintro ⟨b, x, a, h, hid, hP⟩
    obtain ⟨rfl, rfl⟩ := found_unique found h hid
    exact hP
  · exact fun hP => ⟨before, st, after, found, rfl, hP⟩

/-! ### The window -/

theorem storyProtected_iff {s : State} {before after : List Story} {st : Story} (found : Found s before st after) :
    storyProtected s st.id = true ↔ Protected s before st := by
  simp only [storyProtected, findStory_of_found found, startRow_of_found found, Config.fine, Bool.and_eq_true, decide_eq_true_eq,
    Protected]
  constructor
  · rintro ⟨⟨rows, above⟩, below⟩
    exact ⟨max (rowsOf before) (s.scroll.p / 1024 - 1), by omega, by omega, by omega, by omega⟩
  · rintro ⟨r, first, last, above, below⟩
    omega

theorem placeRow_eq_some_iff {s : State} {place : Placement} {row : Nat} :
    placeRow s place = some row ↔ PlacedAt s place row := by
  cases place with
  | atEnd => simp [placeRow, PlacedAt, eq_comm]
  | before x =>
    constructor
    · intro h
      obtain ⟨st, hst, rfl⟩ := Option.map_eq_some_iff.mp h
      obtain ⟨hid, before, after, found⟩ := found_of_findStory hst
      exact ⟨before, st, after, found, hid, startRow_of_found found⟩
    · rintro ⟨before, st, after, found, rfl, rfl⟩
      simp [placeRow, findStory_of_found found, startRow_of_found found]
  | after x =>
    constructor
    · intro h
      obtain ⟨st, hst, rfl⟩ := Option.map_eq_some_iff.mp h
      obtain ⟨hid, before, after, found⟩ := found_of_findStory hst
      exact ⟨before, st, after, found, hid, endRow_of_found found⟩
    · rintro ⟨before, st, after, found, rfl, rfl⟩
      simp [placeRow, findStory_of_found found, endRow_of_found found]

/-- A placement's story is in the rundown where a row is given. -/
theorem placeFound_eq_isSome (s : State) (place : Placement) : placeFound s.store.stories place = (placeRow s place).isSome := by
  cases place <;> simp [placeFound, placeRow, Placement.reference, hasStory]

theorem placeFound_iff {s : State} {place : Placement} : placeFound s.store.stories place = true ↔ ∃ row, PlacedAt s place row := by
  simp only [placeFound_eq_isSome, Option.isSome_iff_exists, placeRow_eq_some_iff]

theorem inLookahead_iff {s : State} {place : Option Nat} :
    inLookahead s place = true ↔ ∃ row, place = some row ∧ RowProtected s row := by
  cases place with
  | none => simp [inLookahead]
  | some row =>
    simp only [inLookahead, Bool.and_eq_true, decide_eq_true_eq, Option.some.injEq, exists_eq_left']
    exact Iff.rfl

theorem absent_named {s : State} {id : Nat} (absent : findStory s.store.stories id = none) (P : List Story → Story → Prop) :
    ¬ ∃ b x a, Found s b x a ∧ x.id = id ∧ P b x := by
  rintro ⟨b, x, a, found, rfl, -⟩
  exact absurd (findStory_of_found found) (by simp [absent])

/-- The window holds an edit as the statements say (R36, R39). -/
theorem heldByWindow_iff {s : State} {e : Edit} : heldByWindow s e = true ↔ HeldByWindow s e := by
  have story : storyProtected s e.story = true ↔ ∃ b x a, Found s b x a ∧ x.id = e.story ∧ Protected s b x := by
    cases h : findStory s.store.stories e.story with
    | none => exact iff_of_false (by simp [storyProtected, h]) (absent_named h _)
    | some st =>
      obtain ⟨hid, before, after, found⟩ := found_of_findStory h
      rw [← hid, storyProtected_iff found, named_iff found]
  unfold heldByWindow HeldByWindow
  cases e.body with
  | replace slug chain => exact story
  | delete => exact story
  | skip => exact story
  | insert place slug chain => simp only [inLookahead_iff, placeRow_eq_some_iff]
  | unskip =>
    simp only [inLookahead_iff, unskipRow]
    cases h : findStory s.store.stories e.story with
    | none => exact iff_of_false (by simp) (absent_named h _)
    | some st =>
      obtain ⟨hid, before, after, found⟩ := found_of_findStory h
      simp only [← hid, named_iff found, Option.map_some, Option.some.injEq, startRow_of_found found, exists_eq_left']
  | move place =>
    simp only [Bool.and_eq_true, Bool.or_eq_true, decide_eq_true_eq, placeFound_iff, inLookahead_iff, placeRow_eq_some_iff]
    cases h : findStory s.store.stories e.story with
    | none =>
      refine iff_of_false ?_ (fun ⟨row, _, named⟩ => absent_named h _ named)
      simp [storyProtected, rowCountOf, h]
    | some st =>
      obtain ⟨hid, before, after, found⟩ := found_of_findStory h
      have only : ∀ row, PlacedAt s place row → ∀ row', PlacedAt s place row' → row' = row := fun row hrow row' hrow' => by
        rw [← placeRow_eq_some_iff] at hrow hrow'
        exact Option.some.inj (hrow'.symm.trans hrow)
      simp only [← hid, named_iff found, storyProtected_iff found, rowCountOf, findStory_of_found found]
      constructor
      · rintro ⟨⟨row, hrow⟩, near | ⟨rows, row', hrow', window⟩⟩
        · exact ⟨row, hrow, .inl near⟩
        · exact ⟨row', hrow', .inr ⟨rows, window⟩⟩
      · rintro ⟨row, hrow, near | ⟨rows, window⟩⟩
        · exact ⟨⟨row, hrow⟩, .inl near⟩
        · exact ⟨⟨row, hrow⟩, .inr ⟨rows, row, hrow, window⟩⟩

/-- An edit waits where the window holds it or its story has edits pending (R36). -/
theorem mustDefer_iff {s : State} {e : Edit} :
    mustDefer s e = true
      ↔ HeldByWindow s e ∨ ∃ st, findStory s.store.stories e.story = some st ∧ 0 < st.pendingCount := by
  rw [mustDefer, Bool.or_eq_true, heldByWindow_iff]
  cases findStory s.store.stories e.story <;> simp

/-! ### Why an edit cannot be applied -/

theorem homeless_iff {e : Edit} {s : State} :
    Homeless e s ↔ (e.needsStory = true ∧ hasStory s.store.stories e.story = false)
      ∨ ∃ place ∈ e.place, placeFound s.store.stories place = false := by
  have place : ∀ p, placeFound s.store.stories p = false ↔ ∀ row, ¬ PlacedAt s p row := fun p => by
    rw [← Bool.not_eq_true, placeFound_iff, not_exists]
  simp only [Homeless, hasStory_eq_false_iff, place]

/-- The checks of an edit in their order (R40). -/
theorem editFault_eq (e : Edit) (s : State) :
    (Homeless e s → editFault e s = some .noStory)
      ∧ (¬ Homeless e s → overRowLimit e s = true → editFault e s = some .rowLimit)
      ∧ (¬ Homeless e s → overRowLimit e s = false → editFault e s = none) := by
  rw [homeless_iff]
  unfold editFault
  by_cases absent : e.needsStory = true ∧ hasStory s.store.stories e.story = false
  · simp [absent]
  · have present : (e.needsStory && !hasStory s.store.stories e.story) = false := by simpa using absent
    cases hplace : e.place with
    | none => simp [absent, present]
    | some place => cases found : placeFound s.store.stories place <;> simp [absent, present, found]

theorem overRowLimit_iff {e : Edit} {s : State} (h : e.kind = .replace ∨ e.kind = .insert ∨ e.kind = .unskip) :
    overRowLimit e s = true ↔ 32767 < totalWith e s := by
  unfold overRowLimit
  cases hb : e.body with
  | replace slug chain => exact decide_eq_true_iff
  | insert place slug chain => exact decide_eq_true_iff
  | unskip => exact decide_eq_true_iff
  | _ => simp [Edit.kind, hb] at h

/-! ### An edit that is applied at once -/

/-- With no edit pending, an edit that is forced, its checks passed, or that need not wait is applied (R31, R42). -/
theorem present_applied {force : Bool} {e : Edit} {s : State} (quiet : s.edit.pending = [])
    (forced : force = true → editFault e s = none) (free : force = false → mustDefer s e = false) :
    present force e s = (applyEdit false e s, .applied) := by
  have done : release (applyEdit false e s) = applyEdit false e s := release_nil _ (by rw [applyEdit_edit, quiet])
  cases force with
  | true =>
    have settled : settleAllFor e.story s = s := by simp [settleAllFor, quiet]
    simp [present, forceEdit, settled, forced rfl, done]
  | false => simp [present, free rfl, done]

@[simp] theorem noticesRaised_link_restart (ns : List Notice) (s : State) : (noticesRaised ns s).link.restart = s.link.restart := by
  induction ns generalizing s with
  | nil => rfl
  | cons n ns ih => rw [noticesRaised_cons, ih, raise_link_restart]

/-- A command that presents an edit which is applied at once: its next state has the frame of an edit, and the store that its store
primitive makes, the states taken afresh. -/
theorem exec_applied {i : Instr} {s : State} {c seq : Byte} {e : Edit} {okBody : State → ReplyBody} {body : ReplyBody} {force : Bool}
    (code : Byte) (h : Ready s) (hl : (payloadOf i).length ≤ 220) (he : exec i s = submit i (runCommand i) s)
    (hc : code + 0x40 = c) (hrun : runCommand i s = presentedReply code seq false false e okBody (present force e s))
    (quiet : s.edit.pending = []) (forced : force = true → editFault e s = none) (free : force = false → mustDefer s e = false)
    (hbody : okBody (applyEdit false e s) = body) :
    ∃ t, exec i s = .next t ∧ EditFrame e (newMarkStory s.store.stories e) (okReply c seq body) s t ∧ t.edit = s.edit
      ∧ t.store.stories = restated t (storeChanged e s).store.stories
      ∧ t.store.insertions = (storeChanged e s).store.insertions ∧ t.store.edition = (storeChanged e s).store.edition
      ∧ t.store.freeCount = (storeChanged e s).store.freeCount := by
  refine ⟨answered (okReply c seq body) (applyEdit false e s), ?_, editFrame_applyEdit e s _, applyEdit_edit false e s,
    applyEdit_stories e s, applyEdit_store e s⟩
  refine exec_answer code h hl he hc ?_ (hrun.trans (by rw [present_applied quiet forced free, ← hbody]; rfl))
  rw [applyEdit_link, noticesRaised_link_restart]

/-- An edit of a story that need not wait: the window does not hold it, and its story has no edit pending (R36). -/
theorem mustDefer_false {s : State} {e : Edit} {before after : List Story} {st : Story} (found : Found s before st after)
    (hid : st.id = e.story) (free : ¬ HeldByWindow s e) (quiet : st.pendingCount = 0) : mustDefer s e = false := by
  refine Bool.eq_false_iff.mpr fun held => ?_
  rcases mustDefer_iff.mp held with held | ⟨x, hx, pending⟩
  · exact free held
  · rw [← hid, findStory_of_found found, Option.some.injEq] at hx
    subst hx
    omega

/-- The checks that the story commands share, passed (R32 to R34). -/
theorem storyFault_passed {s : State} {story : Word16} {force : Byte} (hstory : story ≠ 0) (hforce : force.toNat ≤ 1)
    (still : s.layout.target = none) (there : hasStory s.store.stories story.toNat = true) :
    storyFault true story force s = none := by
  have hstory : decide (story = 0) = false := decide_eq_false hstory
  simp only [storyFault, hstory, yesNoOk, decide_eq_true hforce, State.reflowing, still, there]
  rfl

/-- Settles O28: the deletion is applied, and its frame is that of every edit. -/
theorem deleteRemovesTheStory : Obligations.DeleteRemovesTheStory := by
  intro seq editTag story force s before st after ready hstory hforce still quiet found hid atOnce
  have there : hasStory s.store.stories story.toNat = true := hid ▸ hasStory_of_found found
  have store : (storeChanged ⟨editTag.toNat, story.toNat, .delete⟩ s).store =
      { s.store with stories := before ++ after, edition := s.store.edition + 1, freeCount := s.store.freeCount + st.chain.length } := by
    simp only [storeChanged, storePrimitive, chainLength, ← hid, findStory_of_found found]
    rw [found.1, removeStory_split found.2]
  have forced : editFault ⟨editTag.toNat, story.toNat, .delete⟩ s = none := by
    simp [editFault, Edit.needsStory, Edit.place, overRowLimit, there]
  have free : decide (force = 1) = false → mustDefer s ⟨editTag.toNat, story.toNat, .delete⟩ = false := fun unforced => by
    obtain ⟨clear, idle⟩ := atOnce.resolve_left (of_decide_eq_false unforced)
    refine mustDefer_false found hid (fun held => clear ?_) idle
    simpa only [HeldByWindow, ← hid, named_iff found] using held
  obtain ⟨t, next, frame, edit, stories, insertions, edition, freeCount⟩ :=
    exec_applied (i := .storyDelete seq editTag story force) 0x14 ready (by simp [payloadOf, bytes16]) rfl rfl
      (seq := seq) (okBody := fun t => .totalRows t.rows)
      (by simp only [runCommand, cmdStoryDelete, storyFault_passed hstory hforce still there])
      quiet (fun _ => forced) free (congrArg ReplyBody.totalRows (applyEdit_rows _ _))
  rw [store] at stories insertions edition freeCount
  rw [rows_eq, store] at frame
  exact ⟨t, next, frame, edit, stories, insertions, edition, freeCount⟩

/-! ### STORY_MOVE -/

theorem placementOf_eq {kind : Byte} (id : Word16) (h : kind.toNat ≤ 2) : placementOf kind id = some (placementGiven kind id) := by
  have code : ∀ n : Nat, n ≤ 2 → ∀ k : Byte, k = BitVec.ofNat 8 n →
      placementOf k id = some (placementGiven k id) := by
    intro n hn k hk
    subst hk
    match n, hn with
    | 0, _ => rfl
    | 1, _ => rfl
    | 2, _ => rfl
  exact code kind.toNat h kind (by simp)

/-- A place that is not END names a story, before or after it (R170). -/
theorem placementGiven_named {kind : Byte} (id : Word16) (h : kind.toNat ≤ 2) (named : kind ≠ 0) :
    placementGiven kind id = if kind = 1 then .before id.toNat else .after id.toNat := by
  unfold placementGiven
  by_cases one : kind = 1
  · simp [one]
  · have two : kind = 2 := by bv_omega
    simp [two]

section
variable {s : State} {before after : List Story} {st : Story} (found : Found s before st after)
include found

theorem relocateStory_atEnd : relocateStory s.store.stories st.id .atEnd = before ++ after ++ [st] := by
  obtain ⟨hs, hbefore⟩ := found
  simp [relocateStory, Placement.reference, hs, findStory_split hbefore, removeStory_split hbefore, placeStory]

/-- A move to a place that names another story (R6). -/
theorem relocateStory_named {place : Placement} {x : Story} {b a : List Story} (hx : x.id ≠ st.id)
    (others : before ++ after = b ++ x :: a) (hplace : place.reference = some x.id) :
    relocateStory s.store.stories st.id place = placeStory place st (b ++ x :: a) := by
  obtain ⟨hs, hbefore⟩ := found
  simp [relocateStory, hplace, hx, hs, findStory_split hbefore, removeStory_split hbefore, others]

end

theorem relocateStory_self {stories : List Story} {id : Nat} {place : Placement} (h : place.reference = some id) :
    relocateStory stories id place = stories := if_pos h

/-- What a move to each place makes of the order, with its insertion row (R6, R36). -/
theorem moved_order {s : State} {before after order : List Story} {st : Story} {kind : Byte} {id : Word16} {row : Nat}
    (found : Found s before st after) (hkind : kind.toNat ≤ 2)
    (place : (kind = 0 ∧ order = before ++ after ++ [st] ∧ row = s.rows)
      ∨ (kind ≠ 0 ∧ id.toNat = st.id ∧ order = s.store.stories ∧ row = rowsOf before + if kind = 1 then 0 else st.rowCount)
      ∨ (kind ≠ 0 ∧ id.toNat ≠ st.id ∧ ∃ b x a pre post,
          before ++ after = b ++ x :: a ∧ x.id = id.toNat ∧ (∀ y ∈ b, y.id ≠ x.id)
            ∧ s.store.stories = pre ++ x :: post ∧ (∀ y ∈ pre, y.id ≠ x.id)
            ∧ (if kind = 1 then order = b ++ st :: x :: a ∧ row = rowsOf pre
              else order = b ++ x :: st :: a ∧ row = rowsOf pre + x.rowCount))) :
    relocateStory s.store.stories st.id (placementGiven kind id) = order ∧ placeRow s (placementGiven kind id) = some row := by
  rcases place with ⟨rfl, rfl, rfl⟩ | ⟨named, self, rfl, rfl⟩ | ⟨named, other, b, x, a, pre, post, others, hx, first, hs, hpre, ends⟩
  · exact ⟨relocateStory_atEnd found, rfl⟩
  · rw [placementGiven_named id hkind named, self]
    by_cases one : kind = 1
    · rw [if_pos one, if_pos one]
      exact ⟨relocateStory_self rfl, placeRow_eq_some_iff.mpr ⟨before, st, after, found, rfl, rfl⟩⟩
    · rw [if_neg one, if_neg one]
      exact ⟨relocateStory_self rfl, placeRow_eq_some_iff.mpr ⟨before, st, after, found, rfl, rfl⟩⟩
  · rw [placementGiven_named id hkind named, ← hx]
    rw [← hx] at other
    by_cases one : kind = 1
    · rw [if_pos one] at ends ⊢
      obtain ⟨rfl, rfl⟩ := ends
      rw [relocateStory_named found other others rfl]
      exact ⟨insertBefore_split first a st, placeRow_eq_some_iff.mpr ⟨pre, x, post, ⟨hs, hpre⟩, rfl, rfl⟩⟩
    · rw [if_neg one] at ends ⊢
      obtain ⟨rfl, rfl⟩ := ends
      rw [relocateStory_named found other others rfl]
      exact ⟨insertAfter_split first a st, placeRow_eq_some_iff.mpr ⟨pre, x, post, ⟨hs, hpre⟩, rfl, rfl⟩⟩

/-- Settles O29: the three places a move can name, each with its order and its insertion row. -/
theorem moveChangesTheOrder : Obligations.MoveChangesTheOrder := by
  intro seq editTag story placeKind placeId force s before st after ready hstory hforce hkind still quiet found hid
  have there : hasStory s.store.stories story.toNat = true := hid ▸ hasStory_of_found found
  have run : runCommand (.storyMove seq editTag story placeKind placeId force) s =
      if placeFound s.store.stories (placementGiven placeKind placeId) then
        presentedReply 0x15 seq false false ⟨editTag.toNat, story.toNat, .move (placementGiven placeKind placeId)⟩
          (fun t => .startRow (startRow t.store.stories story.toNat))
          (present (decide (force = 1)) ⟨editTag.toNat, story.toNat, .move (placementGiven placeKind placeId)⟩ s)
      else refuse 0x15 seq .noStory s := by
    simp only [runCommand, cmdStoryMove, decide_eq_true hkind, storyFault_passed hstory hforce still there,
      placementOf_eq placeId hkind, Option.getD_some]
  refine ⟨fun named absent => ?_, fun order row place atOnce => ?_⟩
  · have lost : placeFound s.store.stories (placementGiven placeKind placeId) = false := by
      rw [placementGiven_named placeId hkind named]
      split <;> exact hasStory_eq_false_iff.mpr absent
    exact exec_answer 0x15 ready (by simp [payloadOf, bytes16]) rfl rfl rfl (by rw [run, lost]; rfl)
  · obtain ⟨moved, placed⟩ : relocateStory s.store.stories st.id (placementGiven placeKind placeId) = order
        ∧ placeRow s (placementGiven placeKind placeId) = some row := by
      refine moved_order found hkind ?_
      have own : placeId = story ↔ placeId.toNat = st.id := by rw [hid]; exact BitVec.toNat_inj.symm
      simpa only [ne_eq, ← own] using place
    have kept : placeFound s.store.stories (placementGiven placeKind placeId) = true := by
      rw [placeFound_eq_isSome, placed]
      rfl
    rw [kept, if_pos rfl] at run
    generalize placementGiven placeKind placeId = goal at *
    have store : (storeChanged ⟨editTag.toNat, story.toNat, .move goal⟩ s).store =
        { s.store with stories := order, edition := s.store.edition + 1 } := by
      simp only [storeChanged, storePrimitive, ← hid, moved]
    have forced : editFault ⟨editTag.toNat, story.toNat, .move goal⟩ s = none := by
      simp [editFault, Edit.needsStory, Edit.place, overRowLimit, there, kept]
    have free : decide (force = 1) = false → mustDefer s ⟨editTag.toNat, story.toNat, .move goal⟩ = false := fun unforced => by
      obtain ⟨clear, idle, away⟩ := atOnce.resolve_left (of_decide_eq_false unforced)
      refine mustDefer_false found hid (fun held => ?_) idle
      simp only [HeldByWindow, ← hid, named_iff found, ← placeRow_eq_some_iff, placed, Option.some.injEq, exists_eq_left'] at held
      obtain near | ⟨rows, window⟩ := held
      · exact clear near
      · exact away.elim (by omega) fun out => out window
    obtain ⟨t, next, frame, edit, stories, insertions, edition, freeCount⟩ :=
      exec_applied 0x15 ready (by simp [payloadOf, bytes16]) rfl rfl run quiet (fun _ => forced) free
        (congrArg ReplyBody.startRow
          (applyEdit_unstated (startRow · story.toNat) (fun l => startRow_unstated l _) _ _))
    rw [store] at stories insertions edition freeCount frame
    exact ⟨t, next, frame, edit, stories, insertions, edition, freeCount⟩

/-! ### STORY_SKIP -/

/-- The record of a story that is skipped or unskipped, as it is asked for (R7). -/
def requestedStory (c : Nat) (request : Byte) (st : Story) : Story :=
  if request = 0 ∧ st.state ≠ .skipped then { st with state := .skipped, rowCount := 0, dir := none }
  else if request = 1 ∧ st.state = .skipped then
    { st with state := .ready, rowCount := (layoutStory c st.slug st.chain).rows, dir := some (layoutStory c st.slug st.chain) }
  else st

/-- What a skip or an unskip makes of the store; one that changes nothing is no edition (R7, R11). -/
theorem storeChanged_request {s : State} {before after : List Story} {st : Story} {editTag : Nat} {request : Byte}
    (hrequest : request.toNat ≤ 1) (found : Found s before st after) :
    (storeChanged ⟨editTag, st.id, if request = 0 then .skip else .unskip⟩ s).store =
      { s.store with
        stories := before ++ requestedStory s.layout.columns request st :: after
        edition := if (request = 0 ∧ st.state ≠ .skipped) ∨ (request = 1 ∧ st.state = .skipped) then s.store.edition + 1
          else s.store.edition } := by
  have skipped : isSkipped s.store.stories st.id = decide (st.state = .skipped) := by
    simp [isSkipped, findStory_of_found found, beq_eq_decide]
  have changed : ∀ f, mapStory s.store.stories st.id f = before ++ f st :: after := fun f => by
    rw [found.1, mapStory_split found.2]
  have same : s.store = { s.store with stories := before ++ st :: after } := by rw [← found.1]
  have asked : request = 0 ∨ request = 1 := by bv_omega
  rcases asked with rfl | rfl
  · by_cases out : st.state = .skipped
    · simpa [storeChanged, storePrimitive, requestedStory, skipped, out] using same
    · simp [storeChanged, storePrimitive, requestedStory, skipped, out, changed, skipStory, layStory]
  · by_cases out : st.state = .skipped
    · simp [storeChanged, storePrimitive, requestedStory, skipped, out, changed, unskipStory, layStory]
    · simpa [storeChanged, storePrimitive, requestedStory, skipped, out] using same

/-- Settles O30: a skip, an unskip, and a story that is already as asked. -/
theorem skipAndUnskipKeepTheContent : Obligations.SkipAndUnskipKeepTheContent := by
  intro seq editTag story request force s before st after ready hstory hforce hrequest still quiet found hid entry skips returns
  have there : hasStory s.store.stories story.toNat = true := hid ▸ hasStory_of_found found
  have find : findStory s.store.stories story.toNat = some st := hid ▸ findStory_of_found found
  have run : runCommand (.storySkip seq editTag story request force) s =
      if overRowLimit ⟨editTag.toNat, story.toNat, if request = 0 then .skip else .unskip⟩ s then refuse 0x16 seq .rowLimit s
      else
        presentedReply 0x16 seq false false ⟨editTag.toNat, story.toNat, if request = 0 then .skip else .unskip⟩
          (fun t => .totalRows t.rows)
          (present (decide (force = 1)) ⟨editTag.toNat, story.toNat, if request = 0 then .skip else .unskip⟩ s) := by
    simp only [runCommand, cmdStorySkip, decide_eq_true hrequest, storyFault_passed hstory hforce still there]
  have other : request = 1 ↔ request ≠ 0 := by bv_omega
  have skipped : isSkipped s.store.stories story.toNat = decide (st.state = .skipped) := by
    simp [isSkipped, find, beq_eq_decide]
  have total : totalWith ⟨editTag.toNat, story.toNat, .unskip⟩ s
      = if st.state = .skipped then s.rows + entry.rows else s.rows := by simp only [totalWith, find]; rfl
  refine ⟨fun back beyond => ?_, fun fits within atOnce => ?_⟩
  · obtain ⟨asked, out⟩ := back
    have limit : overRowLimit ⟨editTag.toNat, story.toNat, .unskip⟩ s = true := by
      rw [overRowLimit_iff (.inr (.inr rfl)), total, if_pos out]
      exact beyond
    rw [if_neg (other.mp asked), if_pos limit] at run
    exact exec_answer 0x16 ready (by simp [payloadOf, bytes16]) rfl rfl rfl run
  · have room : overRowLimit ⟨editTag.toNat, story.toNat, if request = 0 then .skip else .unskip⟩ s = false := by
      by_cases skip : request = 0
      · rw [if_pos skip]
        rfl
      · rw [if_neg skip]
        refine Bool.eq_false_iff.mpr fun beyond => ?_
        rw [overRowLimit_iff (.inr (.inr rfl)), total] at beyond
        have asked := other.mpr skip
        split at beyond
        · next out => exact absurd (fits ⟨asked, out⟩) (Nat.not_le.mpr beyond)
        · next here => exact absurd (within asked here) (Nat.not_le.mpr beyond)
    rw [room, if_neg Bool.false_ne_true] at run
    have forced : editFault ⟨editTag.toNat, story.toNat, if request = 0 then .skip else .unskip⟩ s = none := by
      have place : Edit.place ⟨editTag.toNat, story.toNat, if request = 0 then .skip else .unskip⟩ = none := by
        unfold Edit.place
        split_ifs <;> rfl
      refine (editFault_eq _ s).2.2 (fun homeless => ?_) room
      rcases homeless_iff.mp homeless with ⟨-, absent⟩ | ⟨goal, hgoal, -⟩
      · exact Bool.false_ne_true (absent.symm.trans there)
      · rw [place] at hgoal
        cases hgoal
    have free : decide (force = 1) = false →
        mustDefer s ⟨editTag.toNat, story.toNat, if request = 0 then .skip else .unskip⟩ = false := fun unforced => by
      obtain ⟨idle, clear⟩ := atOnce.resolve_left (of_decide_eq_false unforced)
      refine mustDefer_false found hid (fun held => ?_) idle
      split_ifs at held clear
      · exact clear (by simpa only [HeldByWindow, ← hid, named_iff found] using held)
      · exact clear (by simpa only [HeldByWindow, ← hid, named_iff found] using held)
    have fresh : newMarkStory s.store.stories ⟨editTag.toNat, story.toNat, if request = 0 then .skip else .unskip⟩
        = if returns then some story.toNat else none := by
      by_cases skip : request = 0
      · rw [if_pos skip, if_neg fun back : returns => other.mp back.1 skip]
        rfl
      · rw [if_neg skip]
        by_cases out : st.state = .skipped
        · rw [if_pos (show returns from ⟨other.mpr skip, out⟩)]
          simp [newMarkStory, skipped, out]
        · rw [if_neg fun back : returns => out back.2]
          simp [newMarkStory, skipped, out]
    have store := storeChanged_request (editTag := editTag.toNat) (request := request) hrequest found
    rw [hid] at store
    obtain ⟨t, next, frame, edit, stories, insertions, edition, freeCount⟩ :=
      exec_applied 0x16 ready (by simp [payloadOf, bytes16]) rfl rfl run quiet (fun _ => forced) free
        (congrArg ReplyBody.totalRows (applyEdit_rows _ _))
    rw [store] at stories insertions edition freeCount
    rw [rows_eq, store, fresh] at frame
    exact ⟨t, _, next, rfl, frame, edit, stories, edition, insertions, freeCount⟩

end Sys2Proof.Machine
end

section
/-! The completion of a reflow (R60, R61). -/

namespace Sys2Proof.Machine

/-- The state with the rundown laid out at a column count, before the position is re-anchored (R60 steps 1 to 3). -/
def laidOut (c : Nat) (s : State) : State :=
  { s with
    store := { s.store with stories := s.store.stories.map (layStory c) }
    layout := { s.layout with columns := c, generation := s.layout.generation + 1, target := none } }

/-- The state laid out and re-anchored, with its mark list rebuilt (R60 steps 4 and 5). -/
def reflowAnchored (c : Nat) (s : State) : State :=
  let u := reanchor (takeAnchor s.store.stories s.scroll.p) (s.scroll.p / 1024) (laidOut c s)
  u.setMarks (rebuildMarks s.layout.marks (s.store.stories.map (layStory c)) none u.scroll.p)

theorem installLayout_eq (c : Nat) (s : State) : installLayout c s = recomputeStates (reflowAnchored c s) := rfl

section
variable (c : Nat) (s : State)

theorem installLayout_stories :
    (installLayout c s).store.stories = restated (installLayout c s) (s.store.stories.map (layStory c)) := by
  rw [installLayout_eq, recomputeStates_stories]
  simp [reflowAnchored, laidOut, restated, rows_eq]

theorem installLayout_rows : (installLayout c s).rows = rowsOf (s.store.stories.map (layStory c)) := by
  rw [rows_eq, installLayout_stories, rowsOf_restated]

/-- What does not depend on the states is the same of the rundown as it is laid out and as it is installed. -/
theorem installLayout_unstated {α : Type} (F : List Story → α) (hF : ∀ l, F (l.map Story.unstated) = F l) :
    F (installLayout c s).store.stories = F (s.store.stories.map (layStory c)) := by
  rw [installLayout_stories]
  exact recomputeFrom_unstated F hF _ _ _

theorem installLayout_scroll :
    (installLayout c s).scroll = (reanchor (takeAnchor s.store.stories s.scroll.p) (s.scroll.p / 1024) (laidOut c s)).scroll := by
  simp [installLayout_eq, reflowAnchored]

/-- The position goes with its anchor into the new layout (R57, R58). -/
theorem installLayout_reanchored : Reanchored (takeAnchor s.store.stories s.scroll.p) s (installLayout c s) := by
  refine reanchored_of_reanchor (u := laidOut c s) rfl (fun before _ none => ?_) takeAnchor_eq_none_iff.mpr
    (fun a ha => takeAnchor_fraction ha) ?_ (congrArg Scroll.p (installLayout_scroll c s)) (installLayout_rows c s)
    (fun a => installLayout_unstated c s (anchorRow · a) (anchorRow_unstated a))
  · exact absurd (takeAnchor_eq_none_iff.mp none) before.ne'
  · simp [installLayout_eq, reflowAnchored]

theorem installLayout_marks : MarksCarried none s (installLayout c s) := by
  refine marksCarried_of_rebuild (stories := s.store.stories.map (layStory c)) ?_
    (installLayout_unstated c s _ (markRecords_unstated 0))
  simp [installLayout_eq, reflowAnchored]

/-- A reflow raises ON_AIR where the on-air id changes, and nothing else before its REFLOW_DONE (R10). -/
theorem installLayout_link :
    (installLayout c s).link = (noticesRaised (onAirNotices s (installLayout c s)) s).link := by
  have id : (reflowAnchored c s).store.onAirId = s.store.onAirId := by simp [reflowAnchored, laidOut]
  rw [installLayout_eq, recomputeStates_link_notices, onAirNotices_congr id]
  exact noticesRaised_link_congr _ _ _ (by simp [reflowAnchored, laidOut])

end

/-- Settles O31: the reflow's three outcomes. -/
theorem reflowInstallsTheNewLayout : Obligations.ReflowInstallsTheNewLayout := by
  intro s running
  have exec_eq : exec .reflowComplete s = .next (pump (reflowComplete s)) := live_running reflowComplete s running
  refine ⟨fun still => by simp [exec_eq, reflowComplete, still], fun c target => ?_⟩
  intro laid
  refine ⟨fun large => ?_, fun fits => ?_⟩
  · have target : s.layout.target = some c := target
    have large : ¬ totalRows (s.store.stories.map (layStory c)) ≤ Config.maxRows := Nat.not_le.mpr large
    rw [exec_eq]
    simp only [reflowComplete, target, if_neg large]
    rfl
  · have target : s.layout.target = some c := target
    have hlaid : laid = s.store.stories.map (layStory c) := rfl
    have small : totalRows (s.store.stories.map (layStory c)) ≤ Config.maxRows := fits
    have columns : (installLayout c s).layout.columns = c := by simp [installLayout_eq, reflowAnchored, laidOut]
    have generation : (installLayout c s).layout.generation = s.layout.generation + 1 := by
      simp [installLayout_eq, reflowAnchored, laidOut]
    clear_value laid
    subst hlaid
    refine ⟨installLayout c s, ?_, fun a ha rows => ?_, fun lost => ?_, installLayout_reanchored c s, installLayout_marks c s,
      installLayout_stories c s, ?_, ?_, columns, generation, ?_, ?_, installLayout_link c s⟩
    · rw [exec_eq]
      simp only [reflowComplete, target, if_pos small, columns, generation, installLayout_rows]
    · rw [installLayout_scroll]
      obtain ⟨b, hb, -, h⟩ | ⟨lost, -⟩ := reanchor_eq (takeAnchor s.store.stories s.scroll.p) (s.scroll.p / 1024) (laidOut c s)
      · obtain rfl : a = b := Option.some.inj (Eq.symm ha |>.trans hb)
        rw [h]
        rfl
      · rcases lost with none | empty
        · exact absurd (Eq.symm ha |>.trans none) (by simp)
        · exact absurd empty rows.ne'
    · rw [installLayout_scroll]
      obtain ⟨b, hb, rows, -⟩ | ⟨-, h⟩ := reanchor_eq (takeAnchor s.store.stories s.scroll.p) (s.scroll.p / 1024) (laidOut c s)
      · rcases lost with none | empty
        · exact absurd (none.symm.trans hb) (by simp)
        · exact absurd empty rows.ne'
      · rw [h]
        rfl
    · rw [installLayout_eq]
      exact onAirKept_recomputeStates _
    · rw [installLayout_eq]
      refine (recomputeStates_store _).trans ?_
      simp [reflowAnchored, laidOut]
    · simp [installLayout_eq, reflowAnchored, laidOut]
    · simp [installLayout_eq, reflowAnchored, laidOut]

end Sys2Proof.Machine
end

section
/-! What the settling and the release of pending edits leave, whatever the edits are (R39, R43). -/

namespace Sys2Proof.Machine

/-- What edits that are settled leave: all but the store, the edit unit, the heads, the mark list, the position with what follows the
rows (R71), and the notices, which are only added to. -/
structure SettleFrame (s t : State) : Prop where
  pending : t.pending = s.pending
  hub : t.hub = s.hub
  cues : t.cues = s.cues
  job : t.job = s.job
  resetHeld : t.resetHeld = s.resetHeld
  layout : t.layout = { s.layout with marks := t.layout.marks }
  scroll : t.scroll =
    { s.scroll with p := t.scroll.p, v := t.scroll.v, direction := t.scroll.direction, state := t.scroll.state }
  link : t.link = { s.link with notices := t.link.notices, lost := t.link.lost }
  notices : ∃ more, t.link.notices = s.link.notices ++ more

namespace SettleFrame

theorem refl (s : State) : SettleFrame s s := ⟨rfl, rfl, rfl, rfl, rfl, rfl, rfl, rfl, [], (List.append_nil _).symm⟩

theorem trans {s t u : State} (h : SettleFrame s t) (h' : SettleFrame t u) : SettleFrame s u := by
  refine ⟨h'.pending.trans h.pending, h'.hub.trans h.hub, h'.cues.trans h.cues, h'.job.trans h.job,
    h'.resetHeld.trans h.resetHeld, h'.layout.trans ?_, h'.scroll.trans ?_, h'.link.trans ?_, ?_⟩
  · rw [h.layout]
  · rw [h.scroll]
  · rw [h.link]
  · obtain ⟨a, ha⟩ := h.notices
    obtain ⟨b, hb⟩ := h'.notices
    exact ⟨a ++ b, by rw [hb, ha, List.append_assoc]⟩

theorem raise (n : Notice) (s : State) : SettleFrame s (raise n s) := by
  obtain ⟨-, h⟩ | ⟨-, h⟩ := raise_eq n s
  · rw [h]
    exact ⟨rfl, rfl, rfl, rfl, rfl, rfl, rfl, rfl, [n], rfl⟩
  · rw [h]
    exact ⟨rfl, rfl, rfl, rfl, rfl, rfl, rfl, rfl, [], (List.append_nil _).symm⟩

/-- A change of the store and the edit unit alone. -/
theorem ofStore (s : State) (x : Store) (y : EditUnit) : SettleFrame s { s with store := x, edit := y } :=
  ⟨rfl, rfl, rfl, rfl, rfl, rfl, rfl, rfl, [], (List.append_nil _).symm⟩

theorem recomputeStates (s : State) : SettleFrame s (recomputeStates s) := by
  rw [recomputeStates_eq]
  split
  · exact ofStore s _ _
  · exact (ofStore s _ _).trans (raise _ _)

/-- A change of the position and what follows the rows alone. -/
theorem ofMotion (s : State) (p : Nat) (v : Int) (d : Direction) (state : ScrollState) :
    SettleFrame s { s with scroll := { s.scroll with p := p, v := v, direction := d, state := state } } :=
  ⟨rfl, rfl, rfl, rfl, rfl, rfl, rfl, rfl, [], (List.append_nil _).symm⟩

theorem setScrollState (new : ScrollState) (c : ScrollCause) (s : State) : SettleFrame s (setScrollState new c s) := by
  obtain ⟨-, h⟩ | ⟨-, h⟩ := setScrollState_eq new c s
  · rw [h]
    exact refl s
  · rw [h]
    exact (ofMotion s s.scroll.p s.scroll.v s.scroll.direction new).trans (raise _ _)

theorem followRows (before : Nat) (s : State) : SettleFrame s (followRows before s) := by
  obtain ⟨-, -, h⟩ | ⟨-, -, h⟩ | ⟨-, h⟩ := followRows_eq before s
  · rw [h]
    exact (ofMotion s _ _ _ _).trans (setScrollState _ _ _)
  · rw [h]
    exact (ofMotion s _ _ _ _).trans (setScrollState _ _ _)
  · rw [h]
    exact refl s

theorem scriptAnchored (e : Edit) (s : State) : SettleFrame s (scriptAnchored e s) := by
  refine ⟨?_, ?_, ?_, ?_, ?_, ?_, ?_, ?_, [], ?_⟩
  case refine_7 =>
    simp only [Machine.scriptAnchored]
    rw [reanchor_scroll]
    rfl
  all_goals simp [Machine.scriptAnchored, storeChanged]

theorem applyEdit (fromPending : Bool) (e : Edit) (s : State) : SettleFrame s (applyEdit fromPending e s) := by
  have changed : SettleFrame s (changeScript e s) := (scriptAnchored e s).trans (followRows _ _)
  cases fromPending with
  | false => exact changed.trans (recomputeStates _)
  | true => exact (changed.trans (raise _ _)).trans (recomputeStates _)

theorem settlePending (r : PendingEdit) (s : State) : SettleFrame s (settlePending r s) := by
  have left : SettleFrame s (leavePending r s) := ofStore s _ _
  unfold Machine.settlePending
  dsimp only
  split
  · exact (left.trans (ofStore _ _ _)).trans (raise _ _)
  · exact left.trans (applyEdit _ _ _)

theorem foldl {α : Type} {f : State → α → State} (hf : ∀ s a, SettleFrame s (f s a)) (l : List α) (s : State) :
    SettleFrame s (l.foldl f s) := by
  induction l generalizing s with
  | nil => exact refl s
  | cons a rest ih => exact (hf s a).trans (ih _)

theorem settleAllFor (id : Nat) (s : State) : SettleFrame s (settleAllFor id s) := foldl (fun s r => settlePending r s) _ s

theorem releaseOne (acc : State × Bool) (arrival : Nat) : SettleFrame acc.1 (releaseOne acc arrival).1 := by
  rcases releaseOne_eq acc arrival with same | ⟨r, -, -, -, -, settled⟩
  · rw [same]
    exact refl _
  · rw [settled]
    exact settlePending r acc.1

theorem releasePass (s : State) : SettleFrame s (releasePass s).1 := by
  have turns : ∀ (arrivals : List Nat) (acc : State × Bool),
      SettleFrame acc.1 (arrivals.foldl Machine.releaseOne acc).1 := by
    intro arrivals
    induction arrivals with
    | nil => exact fun acc => refl acc.1
    | cons a rest ih => exact fun acc => (releaseOne acc a).trans (ih _)
  exact turns _ (s, false)

theorem releaseLoop (fuel : Nat) (s : State) : SettleFrame s (releaseLoop fuel s) := by
  induction fuel generalizing s with
  | zero => exact refl s
  | succ fuel ih =>
    unfold Machine.releaseLoop
    dsimp only
    split
    · exact (releasePass s).trans (ih _)
    · exact releasePass s

/-- The release of pending edits (R39). -/
theorem release (s : State) : SettleFrame s (release s) := by
  unfold Machine.release
  split
  · exact refl s
  · exact releaseLoop _ s

theorem restart {s t : State} (h : SettleFrame s t) : t.link.restart = s.link.restart := by rw [h.link]

end SettleFrame

end Sys2Proof.Machine
end

section
/-! The load that is complete (R26, R27): its edit is refused, waits, or is applied. -/

namespace Sys2Proof.Machine

theorem tag_loadEdit (l : Load) : (loadEdit l).tag = l.editTag := by unfold loadEdit; split <;> rfl

/-- LOAD_LAST that completes the load `l`, the first with its tag: all lines are there, and the last keeps the mark budget (R26). -/
structure Completes (tag : Byte) (text : List Byte) (s : State) (before : List Load) (l : Load) (after : List Load) : Prop where
  ready : Ready s
  short : text.length ≤ 217
  loads : s.edit.loads = before ++ l :: after
  first : ∀ x ∈ before, x.tag ≠ l.tag
  tag : l.tag = tag.toNat
  still : s.layout.target = none
  count : l.received + 1 = l.n
  budget : ¬ BreaksBudget (prepareLine text).text s

/-- The state with a load's slot closed, its chain gone with its edit (R27). -/
def loadClosed (before after : List Load) (s : State) : State := { s with edit := { s.edit with loads := before ++ after } }

namespace Completes
variable {seq tag : Byte} {text : List Byte} {s : State} {before : List Load} {l : Load} {after : List Load} {e : Edit}

theorem length_payload (h : Completes tag text s before l after) : (payloadOf (.loadLast seq tag text)).length ≤ 220 := by
  have := h.short
  simp [payloadOf]
  omega

/-- The load is resolved, with its slot closed. -/
theorem run (h : Completes tag text s before l after) (he : loadEdit (storeLine (prepareLine text).text l) = e) :
    runCommand (.loadLast seq tag text) s =
      match editFault e (loadClosed before after s) with
      | some r => answer 0x12 seq (.reason r) (prepareLine text).truncated (prepareLine text).badMark .bare
          (loadDropped before l after s)
      | none => presentedReply 0x12 seq (prepareLine text).truncated (prepareLine text).badMark e
          (fun t => .rowCount (rowCountOf t.store.stories l.story)) (present l.force e (loadClosed before after s)) := by
  obtain ⟨ready, short, loads, first, htag, still, count, budget⟩ := h
  have find : findLoad s tag.toNat = some l := htag ▸ findLoad_split first loads
  have within : overBudget (lineMarks (prepareLine text).text) s = false := by
    refine Bool.eq_false_iff.mpr fun breaks => budget ?_
    rw [overBudget, Bool.and_eq_true, decide_eq_true_eq, decide_eq_true_eq] at breaks
    exact breaks
  have closed : closeLoad l.tag s = loadClosed before after s := by
    rw [closeLoad, loads, eraseLoad_split first]
    rfl
  have room : ¬ l.n ≤ l.received := by omega
  have last : ¬ l.received + 1 < l.n := by omega
  have idle : s.reflowing = false := by simp [State.reflowing, still]
  have slot : (storeLine (prepareLine text).text l).tag = l.tag := rfl
  have slots : (storeLine (prepareLine text).text l).chain.length = l.chain.length := by simp [storeLine]
  simp only [runCommand, cmdLoadLast, find, idle, Bool.false_eq_true, if_false, room, within, last, resolveLoad, he, slot, closed,
    slots]
  rfl

/-- An edit that has lost its story, its place or its room is refused, and the chain given back (R27). -/
theorem fault (h : Completes tag text s before l after) (he : loadEdit (storeLine (prepareLine text).text l) = e) {r : Reason}
    (hr : editFault e (loadClosed before after s) = some r) :
    exec (.loadLast seq tag text) s = .next (answered
      ⟨0x52, seq, .reason r, (prepareLine text).truncated, (prepareLine text).badMark, .bare⟩ (loadDropped before l after s)) := by
  refine exec_answer 0x12 h.ready h.length_payload rfl rfl rfl ?_
  rw [h.run he, hr]

/-- An edit that the window holds, or that follows others of its story, waits, or finds the list full (R31, R36, R38). -/
theorem waits (h : Completes tag text s before l after) (he : loadEdit (storeLine (prepareLine text).text l) = e)
    (hnone : editFault e (loadClosed before after s) = none) (unforced : l.force = false)
    (held : mustDefer (loadClosed before after s) e = true) {stories : List Story}
    (hstories : mapStory s.store.stories e.story (fun st => { st with pendingCount := st.pendingCount + 1 }) = stories) :
    exec (.loadLast seq tag text) s = .next
      (if 8 ≤ s.edit.pending.length then
        answered ⟨0x52, seq, .reason .editQueueFull, (prepareLine text).truncated, (prepareLine text).badMark, .bare⟩
          (loadDropped before l after s)
      else
        answered ⟨0x52, seq, .deferred, (prepareLine text).truncated, (prepareLine text).badMark, .deferred l.editTag⟩
          { s with
            edit :=
              { s.edit with
                loads := before ++ after
                pending := s.edit.pending ++
                  [⟨e, ((l.chain.set l.received (prepareLine text).text).map lineMarks).sum, s.edit.nextArrival⟩]
                nextArrival := s.edit.nextArrival + 1 }
            store := { s.store with stories := stories } }) := by
  have slots : e.chain.length = l.chain.length := by
    rw [← he, chain_loadEdit]
    simp [storeLine]
  by_cases full : 8 ≤ s.edit.pending.length
  · rw [if_pos full]
    refine exec_answer 0x12 h.ready h.length_payload rfl rfl rfl ?_
    have full : Config.maxPending ≤ (loadClosed before after s).edit.pending.length := full
    rw [h.run he, hnone]
    simp only [present, unforced, Bool.false_eq_true, if_false, held, if_true, full, presentedReply, slots]
    rfl
  · rw [if_neg full]
    refine exec_answer 0x12 h.ready h.length_payload rfl rfl rfl ?_
    have full : ¬ Config.maxPending ≤ (loadClosed before after s).edit.pending.length := full
    have chain : e.chain = l.chain.set l.received (prepareLine text).text := he ▸ chain_loadEdit _
    have tag : e.tag = l.editTag := he ▸ tag_loadEdit _
    rw [h.run he, hnone, ← hstories]
    simp only [present, unforced, Bool.false_eq_true, if_false, held, if_true, full, presentedReply, joinPending, chain, tag]
    rfl

/-- An edit that is presented and applied is answered with its story's rows (R27). -/
theorem presented (h : Completes tag text s before l after) (he : loadEdit (storeLine (prepareLine text).text l) = e)
    (hnone : editFault e (loadClosed before after s) = none) {t : State}
    (happlied : present l.force e (loadClosed before after s) = (t, .applied)) (ht : SettleFrame (loadClosed before after s) t) :
    exec (.loadLast seq tag text) s = .next (answered
      ⟨0x52, seq, .ok, (prepareLine text).truncated, (prepareLine text).badMark, .rowCount (rowCountOf t.store.stories l.story)⟩
      t) := by
  refine exec_answer 0x12 h.ready h.length_payload rfl rfl ht.restart ?_
  rw [h.run he, hnone, happlied]
  rfl

/-- A forced edit that its story's pending edits have taken the story, the place or the room of (R42). -/
theorem forcedOut (h : Completes tag text s before l after) (he : loadEdit (storeLine (prepareLine text).text l) = e)
    (hnone : editFault e (loadClosed before after s) = none) (forced : l.force = true) {r : Reason}
    (hr : editFault e (settleAllFor e.story (loadClosed before after s)) = some r) :
    exec (.loadLast seq tag text) s = .next (answered
      ⟨0x52, seq, .reason r, (prepareLine text).truncated, (prepareLine text).badMark, .bare⟩
      (freeSlots l.chain.length (settleAllFor e.story (loadClosed before after s)))) := by
  have slots : e.chain.length = l.chain.length := by
    rw [← he, chain_loadEdit]
    simp [storeLine]
  refine exec_answer 0x12 h.ready h.length_payload rfl rfl (SettleFrame.settleAllFor _ _).restart ?_
  rw [h.run he, hnone]
  simp only [present, forced, if_true, forceEdit, hr, presentedReply, slots]

/-- A forced edit whose story's pending edits have left it a home and room (R42). -/
theorem forcedIn (h : Completes tag text s before l after) (he : loadEdit (storeLine (prepareLine text).text l) = e)
    (hnone : editFault e (loadClosed before after s) = none) (forced : l.force = true)
    (still : editFault e (settleAllFor e.story (loadClosed before after s)) = none) {t : State}
    (ht : t = release (applyEdit false e (settleAllFor e.story (loadClosed before after s)))) :
    exec (.loadLast seq tag text) s = .next (answered
      ⟨0x52, seq, .ok, (prepareLine text).truncated, (prepareLine text).badMark, .rowCount (rowCountOf t.store.stories l.story)⟩
      t) := by
  subst ht
  refine h.presented he hnone ?_ (((SettleFrame.settleAllFor _ _).trans (.applyEdit _ _ _)).trans (.release _))
  simp only [present, forced, if_true, forceEdit, still]

/-- An edit that is not forced and need not wait (R31). -/
theorem atOnce (h : Completes tag text s before l after) (he : loadEdit (storeLine (prepareLine text).text l) = e)
    (hnone : editFault e (loadClosed before after s) = none) (unforced : l.force = false)
    (free : mustDefer (loadClosed before after s) e = false) {t : State}
    (ht : t = release (applyEdit false e (loadClosed before after s))) :
    exec (.loadLast seq tag text) s = .next (answered
      ⟨0x52, seq, .ok, (prepareLine text).truncated, (prepareLine text).badMark, .rowCount (rowCountOf t.store.stories l.story)⟩
      t) := by
  subst ht
  refine h.presented he hnone ?_ (SettleFrame.trans (.applyEdit _ _ _) (.release _))
  simp [present, unforced, free]

end Completes

theorem rowCountOf_unstated (stories : List Story) (id : Nat) :
    rowCountOf (stories.map Story.unstated) id = rowCountOf stories id := by
  unfold rowCountOf
  rw [findStory_unstated]
  cases findStory stories id <;> rfl

/-- The frame of an edit does not name the edit unit: a load's slot may have closed before it. -/
theorem EditFrame.of_edit {e : Edit} {fresh : Option Nat} {r : Reply} {s t : State} {x : EditUnit}
    (h : EditFrame e fresh r { s with edit := x } t) : EditFrame e fresh r s t := by
  obtain ⟨same, layout, marks, rows, onAir, position, link⟩ := h
  exact ⟨same, layout, marks, rows, onAir, position, link.trans (answered_link_congr r (noticesRaised_link_congr _ _ _ rfl))⟩

namespace Completes
variable {seq tag : Byte} {text : List Byte} {s : State} {before : List Load} {l : Load} {after : List Load} {e : Edit}

/-- With no edit pending, the edit is applied and its frame is that of every edit (R31, R43). -/
theorem applied (h : Completes tag text s before l after) (he : loadEdit (storeLine (prepareLine text).text l) = e)
    (hnone : editFault e (loadClosed before after s) = none)
    (free : l.force = false → mustDefer (loadClosed before after s) e = false) (quiet : s.edit.pending = []) {rows : Nat}
    (hrows : rowCountOf (storeChanged e (loadClosed before after s)).store.stories l.story = rows) :
    ∃ t, exec (.loadLast seq tag text) s = .next t
      ∧ EditFrame e (newMarkStory s.store.stories e)
          ⟨0x52, seq, .ok, (prepareLine text).truncated, (prepareLine text).badMark, .rowCount rows⟩ s t
      ∧ t.edit = { s.edit with loads := before ++ after }
      ∧ t.store.stories = restated t (storeChanged e (loadClosed before after s)).store.stories
      ∧ t.store.insertions = (storeChanged e (loadClosed before after s)).store.insertions
      ∧ t.store.edition = (storeChanged e (loadClosed before after s)).store.edition
      ∧ t.store.freeCount = (storeChanged e (loadClosed before after s)).store.freeCount := by
  refine ⟨_, h.presented he hnone (present_applied quiet (fun _ => hnone) free) (.applyEdit _ _ _), ?_,
    applyEdit_edit false e _, applyEdit_stories e _, applyEdit_store e _⟩
  have count : rowCountOf (applyEdit false e (loadClosed before after s)).store.stories l.story = rows :=
    (applyEdit_unstated (rowCountOf · l.story) (fun stories => rowCountOf_unstated stories _) e _).trans hrows
  rw [count]
  exact (editFrame_applyEdit e (loadClosed before after s) _).of_edit

end Completes

/-- An edit that has a home passes its checks, or is refused for the rows (R27). -/
theorem editFault_of_limit {e : Edit} {s : State} {total : Nat} (home : ¬ Homeless e s)
    (limit : overRowLimit e s = true ↔ 32767 < total) :
    editFault e s = if 32767 < total then some .rowLimit else none := by
  obtain ⟨-, beyond, fits⟩ := editFault_eq e s
  split
  · next large => exact beyond home (limit.mpr large)
  · next small => exact fits home (Bool.eq_false_iff.mpr fun large => small (limit.mp large))

/-! ### A NEW load -/

section
variable {place : Placement} {editTag id : Nat} {slug : Line} {chain : List Line} {s : State} {row : Nat}
  (placed : PlacedAt s place row)
include placed

/-- An insertion whose place is in the rundown passes, or is refused for the rows (R27). -/
theorem editFault_insert :
    editFault ⟨editTag, id, .insert place slug chain⟩ s
      = if 32767 < s.rows + (layoutStory s.layout.columns slug chain).rows then some .rowLimit else none := by
  have home : ¬ Homeless ⟨editTag, id, .insert place slug chain⟩ s := by
    rintro (⟨needs, -⟩ | ⟨goal, hgoal, lost⟩)
    · cases needs
    · obtain rfl : place = goal := Option.some.inj hgoal
      exact lost row placed
  exact editFault_of_limit home (overRowLimit_iff (.inr (.inl rfl)))

/-- An insertion of an id that is not in the rundown waits where its row lies in the look-ahead (R36). -/
theorem mustDefer_insert (absent : ∀ st ∈ s.store.stories, st.id ≠ id) :
    mustDefer s ⟨editTag, id, .insert place slug chain⟩ = true ↔ RowProtected s row := by
  rw [mustDefer_iff, findStory_eq_none_iff.mpr absent]
  simp only [HeldByWindow, ← placeRow_eq_some_iff, placeRow_eq_some_iff.mpr placed, Option.some.injEq, exists_eq_left', reduceCtorEq,
    false_and, exists_false, or_false]

end

/-- The record that a load brings into the rundown (R3, R5). -/
def arrivedStory (c : Nat) (revision : BitVec 16) (id : Nat) (slug : Line) (chain : List Line) : Story :=
  { id := id, slug := slug, state := .ready, revision := revision, chain := chain, rowCount := (layoutStory c slug chain).rows,
    markCount := chainMarks chain, pendingCount := 0, dir := some (layoutStory c slug chain) }

/-- What an insertion makes of the store, with no edit pending (R5, R12). -/
theorem storeChanged_insert {s : State} (quiet : s.edit.pending = []) (editTag id : Nat) (place : Placement) (slug : Line)
    (chain : List Line) :
    (storeChanged ⟨editTag, id, .insert place slug chain⟩ s).store =
      { s.store with
        stories := placeStory place (arrivedStory s.layout.columns s.store.insertions id slug chain) s.store.stories
        insertions := s.store.insertions + 1
        edition := s.store.edition + 1 } := by
  simp only [storeChanged, storePrimitive, quiet]
  rfl

/-- A story that is placed goes last, or beside the story its place names (R5). -/
theorem placeStory_named {s : State} {place : Placement} {new x : Story} {before after : List Story} (found : Found s before x after) :
    (place = .before x.id → placeStory place new s.store.stories = before ++ new :: x :: after)
      ∧ (place = .after x.id → placeStory place new s.store.stories = before ++ x :: new :: after) := by
  obtain ⟨hs, first⟩ := found
  rw [hs]
  exact ⟨fun above => above ▸ insertBefore_split first after new, fun below => below ▸ insertAfter_split first after new⟩

/-- The story that joins a rundown without its id is the one found there. -/
theorem rowCountOf_placeStory {stories : List Story} {st : Story} (absent : ∀ x ∈ stories, x.id ≠ st.id) (place : Placement) :
    rowCountOf (placeStory place st stories) st.id = st.rowCount := by
  have perm := placeStory_perm place st stories
  cases found : findStory (placeStory place st stories) st.id with
  | none => exact absurd rfl (findStory_eq_none_iff.mp found st (perm.mem_iff.mpr (List.mem_cons_self ..)))
  | some x =>
    have there : x ∈ placeStory place st stories := List.mem_of_find?_eq_some found
    obtain ⟨hid, -⟩ := findStory_eq_some found
    rcases List.mem_cons.mp (perm.mem_iff.mp there) with rfl | old
    · simp [rowCountOf, found]
    · exact absurd hid (absent x old)

theorem rowCountOf_split {before after : List Story} {st : Story} {id : Nat} (hid : st.id = id) (first : ∀ x ∈ before, x.id ≠ id) :
    rowCountOf (before ++ st :: after) id = st.rowCount := by
  subst hid
  rw [rowCountOf, findStory_split first]

/-! ### A REPLACE load -/

section
variable {editTag : Nat} {slug : Line} {chain : List Line} {s : State} {pre post : List Story} {st : Story} (found : Found s pre st post)
include found

/-- A replacement whose story is in the rundown passes, or is refused for the rows (R27). -/
theorem editFault_replace :
    editFault ⟨editTag, st.id, .replace slug chain⟩ s
      = if 32767 < (if st.state = .skipped then s.rows
          else s.rows - st.rowCount + (layoutStory s.layout.columns slug chain).rows) then some .rowLimit else none := by
  have home : ¬ Homeless ⟨editTag, st.id, .replace slug chain⟩ s := by
    rintro (⟨-, absent⟩ | ⟨goal, hgoal, -⟩)
    · exact absurd (findStory_of_found found) (by simp [findStory_eq_none_iff.mpr absent])
    · cases hgoal
  have limit := overRowLimit_iff (e := ⟨editTag, st.id, .replace slug chain⟩) (s := s) (.inl rfl)
  simp only [totalWith, findStory_of_found found, trialRows] at limit
  exact editFault_of_limit home limit

/-- A replacement waits where its story is protected, or others wait for it (R36). -/
theorem mustDefer_replace :
    mustDefer s ⟨editTag, st.id, .replace slug chain⟩ = true ↔ Protected s pre st ∨ 0 < st.pendingCount := by
  rw [mustDefer_iff, findStory_of_found found]
  simp only [HeldByWindow, named_iff found, Option.some.injEq, exists_eq_left']

/-- What a replacement makes of the store (R3, R6, R12, R16). -/
theorem storeChanged_replace :
    (storeChanged ⟨editTag, st.id, .replace slug chain⟩ s).store =
      { s.store with
        stories := pre ++
          { st with
            slug := slug, chain := chain, revision := st.revision + 1
            rowCount := if st.state = .skipped then 0 else (layoutStory s.layout.columns slug chain).rows
            markCount := chainMarks chain
            dir := if st.state = .skipped then none else some (layoutStory s.layout.columns slug chain) } :: post
        edition := s.store.edition + 1
        freeCount := s.store.freeCount + st.chain.length } := by
  simp only [storeChanged, storePrimitive, chainLength, findStory_of_found found]
  rw [found.1, mapStory_split found.2]
  by_cases skipped : st.state = .skipped <;> simp [replaceContent, layStory, skipped]

end

/-! ### The last line -/

/-- Settles O25: the edit that the load makes, by its mode, its checks, and the edits that are pending. -/
theorem lastLineResolvesTheLoad : Obligations.LastLineResolvesTheLoad := by
  intro seq tag text s before l after ready short loads first htag still count line chain rows answer refusedBy edit waits closed
    applied c budget
  have load : Completes tag text s before l after := ⟨ready, short, loads, first, htag, still, count, budget⟩
  have he : loadEdit (storeLine line.text l) = edit := by
    simp only [edit, loadEdit, storeLine]
    cases l.mode <;> rfl
  have hclosed : loadClosed before after s = closed := rfl
  refine ⟨fun new lost => ?_, fun new absent row placed => ?_, fun old absent => ?_, fun old pre st post found hid => ?_,
    fun home fits => ?_⟩
  · have hedit : edit = ⟨l.editTag, l.story, .insert l.place l.slug chain⟩ := by simp only [edit, new]
    refine load.fault he ((editFault_eq edit closed).1 (.inr ⟨l.place, ?_, lost⟩))
    rw [hedit]
    rfl
  · have hedit : edit = ⟨l.editTag, l.story, .insert l.place l.slug chain⟩ := by simp only [edit, new]
    have fault : editFault edit closed = if 32767 < s.rows + rows then some .rowLimit else none := by
      rw [hedit]
      exact editFault_insert (s := closed) placed
    have hold : mustDefer closed edit = true ↔ RowProtected s row := by
      rw [hedit]
      exact mustDefer_insert (s := closed) placed absent
    refine ⟨fun beyond => load.fault he (by rw [hclosed, fault, if_pos beyond]), fun within unforced held => ?_,
      fun within free quiet => ?_⟩
    · refine load.waits he (by rw [hclosed, fault, if_neg (Nat.not_lt.mpr within)]) unforced (hold.mpr held) ?_
      rw [hedit, mapStory_absent absent]
    · intro arrived
      have changed := storeChanged_insert (s := closed) quiet l.editTag l.story l.place l.slug chain
      rw [← hedit] at changed
      have free : l.force = false → mustDefer closed edit = false := fun unforced =>
        Bool.eq_false_iff.mpr fun held => (free.resolve_left (by simp [unforced])) (hold.mp held)
      have one : rowCountOf (storeChanged edit closed).store.stories l.story = rows := by
        rw [changed]
        exact rowCountOf_placeStory (st := arrived) absent l.place
      obtain ⟨t, next, frame, hload, stories, insertions, edition, freeCount⟩ :=
        load.applied (seq := seq) he (by rw [hclosed, fault, if_neg (Nat.not_lt.mpr within)]) free quiet one
      rw [hclosed, changed] at stories insertions edition freeCount
      refine ⟨t, placeStory l.place arrived s.store.stories, next, ?_, hload, fun last => last ▸ rfl,
        fun b x a found => placeStory_named found, stories, insertions, edition, freeCount⟩
      have fresh : newMarkStory s.store.stories edit = some l.story := by
        rw [hedit]
        rfl
      rwa [fresh] at frame
  · have hedit : edit = ⟨l.editTag, l.story, .replace l.slug chain⟩ := by simp only [edit, old]
    refine load.fault he ((editFault_eq edit closed).1 (.inl ⟨?_, ?_⟩)) <;> rw [hedit]
    · rfl
    · exact absent
  · have hedit : edit = ⟨l.editTag, st.id, .replace l.slug chain⟩ := by simp only [edit, old, hid]
    intro total
    have fault : editFault edit closed = if 32767 < total then some .rowLimit else none := by
      rw [hedit]
      exact editFault_replace (s := closed) found
    have hold : mustDefer closed edit = true ↔ Protected s pre st ∨ 0 < st.pendingCount := by
      rw [hedit]
      exact mustDefer_replace (s := closed) found
    refine ⟨fun beyond => load.fault he (by rw [hclosed, fault, if_pos beyond]), fun within unforced held => ?_,
      fun within free quiet => ?_⟩
    · refine load.waits he (by rw [hclosed, fault, if_neg (Nat.not_lt.mpr within)]) unforced (hold.mpr held) ?_
      rw [hedit, found.1, mapStory_split found.2]
    · have free : l.force = false → mustDefer closed edit = false := fun unforced =>
        Bool.eq_false_iff.mpr fun held => by
          obtain ⟨clear, idle⟩ := free.resolve_left (by simp [unforced])
          rcases hold.mp held with near | behind
          · exact clear near
          · omega
      have changed := storeChanged_replace (editTag := l.editTag) (slug := l.slug) (chain := chain) (s := closed) found
      rw [← hedit] at changed
      have one : rowCountOf (storeChanged edit closed).store.stories l.story = if st.state = .skipped then 0 else rows := by
        rw [changed]
        exact rowCountOf_split hid (hid ▸ found.2)
      obtain ⟨t, next, frame, hload, stories, insertions, edition, freeCount⟩ :=
        load.applied (seq := seq) he (by rw [hclosed, fault, if_neg (Nat.not_lt.mpr within)]) free quiet one
      rw [hclosed, changed] at stories insertions edition freeCount
      refine ⟨t, next, ?_, hload, stories, insertions, edition, freeCount⟩
      have fresh : newMarkStory s.store.stories edit = some l.story := by
        rw [hedit, hid]
        rfl
      rwa [fresh] at frame
  · have passed : editFault edit closed = none := (editFault_eq edit closed).2.2 home fits
    have story : edit.story = l.story := rfl
    refine ⟨fun unforced clear idle => ?_, fun forced => ?_⟩
    · refine load.atOnce he passed unforced (Bool.eq_false_iff.mpr fun held => ?_) rfl
      rcases mustDefer_iff.mp held with held | ⟨st, hst, behind⟩
      · exact clear held
      · obtain ⟨hid, -⟩ := findStory_eq_some hst
        have := idle st (List.mem_of_find?_eq_some hst) hid
        omega
    · intro u freed
      obtain ⟨lost, beyond, kept⟩ := editFault_eq edit u
      exact ⟨fun out => load.forcedOut he passed forced (lost out),
        fun stays large => load.forcedOut he passed forced (beyond stays large),
        fun stays small => load.forcedIn he passed forced (kept stays small) rfl⟩

end Sys2Proof.Machine
end

section
/-! Jumps (R86, R87, R123): the JUMP command and the jumping keys. -/

namespace Sys2Proof.Machine

/-! ### A jump -/

/-- A mark of the first band is disarmed, one of the second stays, and one of the third is armed (R123). -/
theorem jumpArming_eq (p : Nat) (m : MarkRecord) :
    jumpArming p m = { m with armed := if m.position ≤ p then false else if m.position ≤ p + 1024 then m.armed else true } := by
  unfold jumpArming Config.fine
  split_ifs <;> rfl

/-- A recomputation of a rundown gives the states that the position asks for (R8, R9). -/
theorem recomputeStates_restated (s : State) :
    (recomputeStates s).store.stories = restated (recomputeStates s) s.store.stories := by
  rw [recomputeStates_stories, restated, recomputeStates_scroll, rows_eq]

theorem jumped_jumpTo (row : Int) (s : State) : Jumped row s (jumpTo row s) := by
  refine ⟨?_, ?_, ?_, onAirKept_recomputeStates _, ?_, ?_, ?_⟩
  · simp only [jumpTo, recomputeStates_scroll]
    rfl
  · simp only [jumpTo, recomputeStates_layout, recomputeStates_scroll, ← jumpArming_eq]
    rfl
  · exact recomputeStates_restated _
  · exact recomputeStates_store _
  · simp only [jumpTo, recomputeStates_pending, recomputeStates_edit, recomputeStates_hub, recomputeStates_cues,
      recomputeStates_heads, recomputeStates_job]
    exact ⟨rfl, rfl, rfl, rfl, rfl, rfl⟩
  · rw [jumpTo, recomputeStates_link_notices]
    exact noticesRaised_link_congr _ _ _ rfl

/-- In an empty script every jump goes to row 0. -/
theorem Jumped.of_empty {s t : State} {target : Int} (h : Jumped target s t) (empty : s.rows = 0) (other : Int) :
    Jumped other s t := by
  obtain ⟨scroll, rest⟩ := h
  have clamped : ∀ x : Int, max 0 (min (s.rows : Int) x) = 0 := fun x => by omega
  rw [clamped] at scroll
  exact ⟨by rw [scroll, clamped], rest⟩

/-! ### JUMP -/

theorem lastSpace_pos {chars : List Byte} {c d : Nat} (h : lastSpace chars c = some d) : 0 < d := by
  induction c with
  | zero => cases h
  | succ c ih =>
    unfold lastSpace at h
    split at h
    · cases h
      omega
    · exact ih h

/-- The first row of a line holds its first character, unless it is the only one (R49). -/
theorem wrapLine_head {c : Nat} (hc : 1 ≤ c) (text : Line) :
    (∃ r, wrapLine c text = [r]) ∨ ∃ d rest, 0 < d ∧ wrapLine c text = ⟨0, d⟩ :: rest := by
  unfold wrapLine wrapFrom
  dsimp only
  split
  · exact .inl ⟨_, rfl⟩
  · split
    · next d hd => exact .inr ⟨d, _, lastSpace_pos hd, rfl⟩
    · exact .inr ⟨c, _, hc, rfl⟩

/-- The first character of a line lies in its first row (R55). -/
theorem rowOfChar_wrapLine_zero {c : Nat} (hc : 1 ≤ c) (text : Line) : rowOfChar (wrapLine c text) 0 = 0 := by
  obtain ⟨r, single⟩ | ⟨d, rest, hd, first⟩ := wrapLine_head hc text
  · simp [rowOfChar, single]
  · simp [rowOfChar, first, List.findIdx_cons, hd]

theorem layoutStory_lineRow (c : Nat) (slug : Line) (chain : List Line) (i : Nat) :
    (layoutStory c slug chain).lineRow i
      = (if slug = [] then 0 else 1) + ((chain.take i).map fun text => (wrapLine c text).length).sum := by
  unfold DirEntry.lineRow DirEntry.slugRows layoutStory
  rw [← List.map_take, List.map_map]
  cases slug <;> rfl

section
variable {s : State} {before after : List Story} {st : Story} (found : Found s before st after)
include found

/-- A line of a story without rows is at its start row (R86). -/
theorem lineTarget_empty (line : Nat) (empty : st.rowCount = 0) : lineTarget s st line = rowsOf before := by
  simp [lineTarget, rowOfLine, empty, startRow_of_found found]

/-- A line of a story with rows is at the line's first row, and one past the last at the last line's (R55, R86). -/
theorem lineTarget_line (line : Nat) (rows : 0 < st.rowCount) (columns : 1 ≤ s.layout.columns) (lines : st.chain ≠ [])
    (dir : st.dir = some (layoutStory s.layout.columns st.slug st.chain)) :
    lineTarget s st line = rowsOf before + (if st.slug = [] then 0 else 1)
      + ((st.chain.take (min line (st.chain.length - 1))).map fun text => (wrapLine s.layout.columns text).length).sum := by
  have within : min line (st.chain.length - 1) < st.chain.length := by
    have := List.length_pos_iff.mpr lines
    omega
  have there : ¬ (st.rowCount = 0 ∨ st.chain.length ≤ min line (st.chain.length - 1)) := by omega
  have breaks : lineRows st (min line (st.chain.length - 1))
      = wrapLine s.layout.columns st.chain[min line (st.chain.length - 1)] := by
    simp only [lineRows, dir, layoutStory]
    rw [List.getD_eq_getElem _ _ (by simpa using within), List.getElem_map]
  rw [lineTarget, rowOfLine, if_neg there]
  simp only [rowOfLineChar, dir, breaks, rowOfChar_wrapLine_zero columns, layoutStory_lineRow, startRow_of_found found]
  omega

end

/-- A scroll command is answered with the motion as it leaves it (R80, R170). -/
theorem exec_motion {i : Instr} {s t : State} {c seq : Byte} {result : Result} (code : Byte) (h : Ready s)
    (hl : (payloadOf i).length ≤ 220) (he : exec i s = submit i (runCommand i) s) (hc : code + 0x40 = c)
    (ht : t.link.restart = s.link.restart) (hrun : runCommand i s = motionReply code seq result t) :
    exec i s = .next (answered (motionAnswer c seq result t) t) :=
  exec_answer code h hl he hc ht hrun

theorem jumpTo_link_restart (row : Int) (s : State) : (jumpTo row s).link.restart = s.link.restart := by
  simp only [jumpTo, recomputeStates_link_restart]
  rfl

/-! ### The jumping keys -/

theorem has_onlyKey {bit : Nat} (h : bit < 9) (k : Nat) : KeySet.has (onlyKey bit) k = decide (bit = k) := by
  simp [KeySet.has, onlyKey, BitVec.getLsbD_twoPow, h]

/-- One action key alone is judged alone (R101, R107). -/
theorem runKeys_only (n : Fin 6) (k : ActionKey) (s : State) :
    runKeys n (onlyKey k.bit) s = if permitted s.hub.ports[n].role s then runKey n k s else contend n s := by
  have bit : k.bit < 7 := by cases k <;> decide
  have mark : ¬ k.bit = 7 := by omega
  simp only [runKeys, markKey, has_onlyKey (by omega : k.bit < 9), mark, decide_false, Bool.false_eq_true, if_false]
  cases k <;> rfl

/-- The MARK key alone reports the position (R102). -/
theorem runKeys_mark (n : Fin 6) (s : State) :
    runKeys n (onlyKey 7) s = raise (.markKey n s.scroll.p (takeAnchor s.store.stories s.scroll.p)) s := by
  simp only [runKeys, markKey, has_onlyKey (by omega : 7 < 9)]
  rfl

theorem permitted_iff {role : Role} {s : State} : permitted role s = true ↔ Permitted role s := by
  unfold permitted Permitted
  cases s.hub.holder with
  | none => simp
  | some h => simp [or_assoc]

/-- A jumping key that is permitted jumps, but in a reflow (R87, R107). -/
theorem runKeys_jump {n : Fin 6} {s : State} (allowed : Permitted (s.hub.ports[n]).role s) (k : ActionKey) {row : Nat}
    (hk : runKey n k s = keyJump row s) :
    runKeys n (onlyKey k.bit) s = if s.layout.target = none then jumpTo row s else s := by
  rw [runKeys_only, if_pos (permitted_iff.mpr allowed), hk, keyJump, State.reflowing]
  cases s.layout.target <;> rfl

/-! ### The targets of NEXT and PREV -/

section
variable {s : State} {before after : List Story} {st : Story} (hs : s.store.stories = before ++ st :: after)
include hs

theorem onAirStory_split (on : st.state = .onAir) (off : ∀ x ∈ before, x.state ≠ .onAir) : onAirStory s = some st := by
  have none : before.find? (fun st => st.state == .onAir) = none := List.find?_eq_none.mpr (by simpa using off)
  rw [onAirStory, hs, List.find?_append, none]
  simp [on]

/-- With distinct ids, a story is found where it stands. -/
theorem found_of_nodup (distinct : (s.store.stories.map Story.id).Nodup) : Found s before st after := by
  refine ⟨hs, fun x hx same => ?_⟩
  rw [hs, List.map_append, List.map_cons, List.nodup_append] at distinct
  exact distinct.2.2 x.id (List.mem_map_of_mem hx) st.id (List.mem_cons_self ..) same

end

/-- The first story with rows. -/
theorem firstWithRows_split {mid rest : List Story} {y : Story} (bare : ∀ x ∈ mid, x.rowCount = 0) (rows : 0 < y.rowCount) :
    firstWithRows (mid ++ y :: rest) = some y := by
  have none : mid.find? (fun st => decide (0 < st.rowCount)) = none := List.find?_eq_none.mpr (by simpa using bare)
  rw [firstWithRows, List.find?_append, none]
  simp [rows]

/-- The last story with rows. -/
theorem lastWithRows_split {pre mid : List Story} {y : Story} (bare : ∀ x ∈ mid, x.rowCount = 0) (rows : 0 < y.rowCount) :
    lastWithRows (pre ++ y :: mid) = some y := by
  have reversed : (pre ++ y :: mid).reverse = mid.reverse ++ y :: pre.reverse := by simp
  rw [lastWithRows, reversed]
  exact firstWithRows_split (fun x hx => bare x (List.mem_reverse.mp hx)) rows

theorem nextTarget_found {s : State} {before after : List Story} {st : Story} (found : Found s before st after)
    (on : onAirStory s = some st) :
    nextTarget s = ((firstWithRows after).map fun y => startRow s.store.stories y.id).getD s.rows := by
  have rest : storiesAfter s.store.stories st.id = after := by
    obtain ⟨hs, hbefore⟩ := found
    rw [hs, storiesAfter_split hbefore]
  simp only [nextTarget, on, rest]
  cases firstWithRows after <;> rfl

theorem prevTarget_found {s : State} {before after : List Story} {st : Story} (found : Found s before st after)
    (on : onAirStory s = some st) :
    prevTarget s = if rowsOf before + 2 < readingRow s.scroll.p s.rows then rowsOf before
      else ((lastWithRows before).map fun y => startRow s.store.stories y.id).getD (rowsOf before) := by
  have rest : storiesBefore s.store.stories st.id = before := by
    obtain ⟨hs, hbefore⟩ := found
    rw [hs, storiesBefore_split hbefore]
  simp only [prevTarget, on, startRow_of_found found, rest]
  cases lastWithRows before <;> rfl

/-- The target that JUMP names (R86). -/
theorem jumpTarget_eq {kind : Byte} {story line : Word16} {delta target : Int} {s : State}
    (h : (kind = 0 ∧ target = 0)
      ∨ (kind = 3 ∧ target = (s.scroll.p / 1024 : Nat) + delta)
      ∨ (∃ before st after, Found s before st after ∧ st.id = story.toNat
        ∧ ((kind = 1 ∧ target = rowsOf before)
          ∨ (kind = 2 ∧ target = lineTarget s st line.toNat)))) :
    jumpTarget kind.toNat story.toNat line.toNat s.scroll.p delta s = some target := by
  rcases h with ⟨rfl, rfl⟩ | ⟨rfl, rfl⟩ | ⟨before, st, after, found, hid, ⟨rfl, rfl⟩ | ⟨rfl, rfl⟩⟩
  · rfl
  · rfl
  · simp [jumpTarget, ← hid, findStory_of_found found, startRow_of_found found]
  · simp [jumpTarget, ← hid, findStory_of_found found]

/-- A JUMP whose fields lie in range, outside a reflow, goes where its target is (R86). -/
theorem runCommand_jump {seq kind : Byte} {story line rows : Word16} {s : State} (low : kind.toNat ≤ 3)
    (named : (kind = 1 ∨ kind = 2) → story ≠ 0) :
    (s.layout.target ≠ none →
        runCommand (.jump seq kind story line rows) s = motionReply 0x23 seq (.reason .busy) s)
      ∧ (s.layout.target = none →
        (jumpTarget kind.toNat story.toNat line.toNat s.scroll.p rows.signed s = none →
          runCommand (.jump seq kind story line rows) s = motionReply 0x23 seq (.reason .noStory) s)
        ∧ ∀ row, jumpTarget kind.toNat story.toNat line.toNat s.scroll.p rows.signed s = some row →
          runCommand (.jump seq kind story line rows) s = motionReply 0x23 seq .ok (jumpTo row s)) := by
  have good : ¬ (3 < kind.toNat ∨ ((kind = 1 ∨ kind = 2) ∧ story = 0)) := by
    rintro (high | ⟨asks, zero⟩)
    · omega
    · exact named asks zero
  refine ⟨fun running => ?_, fun still => ⟨fun lost => ?_, fun row goes => ?_⟩⟩
  · have busy : s.reflowing = true := by simpa [State.reflowing, Option.isSome_iff_ne_none] using running
    simp only [runCommand, cmdJump, if_neg good, busy, if_true]
  · simp only [runCommand, cmdJump, if_neg good, State.reflowing, still, Option.isSome_none, Bool.false_eq_true, if_false, lost]
  · simp only [runCommand, cmdJump, if_neg good, State.reflowing, still, Option.isSome_none, Bool.false_eq_true, if_false, goes]

/-- Settles O38: the command's checks and targets, and the four keys, each through the jump it makes. -/
theorem jumpMovesThePositionAndArmsTheMarks : Obligations.JumpMovesThePositionAndArmsTheMarks := by
  refine ⟨fun seq kind story line rows s ready => ⟨fun bad => ?_, fun low named => ⟨fun running => ?_, fun still asks absent => ?_,
    fun still target h => ?_⟩⟩, fun n s => ⟨runKeys_mark n s, fun allowed running => ?_, fun allowed still distinct => ?_⟩⟩
  · exact exec_motion 0x23 ready (by simp [payloadOf, bytes16]) rfl rfl rfl (if_pos bad)
  · exact exec_motion 0x23 ready (by simp [payloadOf, bytes16]) rfl rfl rfl ((runCommand_jump low named).1 running)
  · refine exec_motion 0x23 ready (by simp [payloadOf, bytes16]) rfl rfl rfl (((runCommand_jump low named).2 still).1 ?_)
    rcases asks with rfl | rfl <;> simp [jumpTarget, findStory_eq_none_iff.mpr absent]
  · refine ⟨jumpTo target s, exec_motion 0x23 ready (by simp [payloadOf, bytes16]) rfl rfl (jumpTo_link_restart target s)
      (((runCommand_jump low named).2 still).2 target (jumpTarget_eq ?_)), jumped_jumpTo target s⟩
    rcases h with top | relative |
      ⟨before, st, after, found, hid, start | ⟨kind2, empty, row⟩ | ⟨kind2, filled, columns, lines, dir, row⟩⟩
    · exact .inl top
    · exact .inr (.inl relative)
    · exact .inr (.inr ⟨before, st, after, found, hid, .inl start⟩)
    · exact .inr (.inr ⟨before, st, after, found, hid, .inr ⟨kind2, row.trans (congrArg _ (lineTarget_empty found _ empty).symm)⟩⟩)
    · exact .inr (.inr ⟨before, st, after, found, hid, .inr
        ⟨kind2, row.trans (congrArg _ (lineTarget_line found _ filled columns lines dir).symm)⟩⟩)
  · have stays : ∀ (k : ActionKey) (row : Nat), runKey n k s = keyJump row s → runKeys n (onlyKey k.bit) s = s := fun k row hk => by
      rw [runKeys_jump allowed k hk, if_neg running]
    simp only [List.forall_mem_cons, List.not_mem_nil, false_imp_iff, implies_true, and_true]
    exact ⟨stays .next _ rfl, stays .prev _ rfl, stays .top _ rfl⟩
  · have jumps : ∀ (k : ActionKey) (row : Nat), runKey n k s = keyJump row s → Jumped row s (runKeys n (onlyKey k.bit) s) :=
      fun k row hk => by
        rw [runKeys_jump allowed k hk, if_pos still]
        exact jumped_jumpTo row s
    have toNext := jumps .next _ rfl
    have toPrev := jumps .prev _ rfl
    refine ⟨jumps .top 0 rfl, fun empty => ⟨toNext.of_empty empty 0, toPrev.of_empty empty 0⟩, fun before st after hs on off => ?_⟩
    have found : Found s before st after := found_of_nodup hs distinct
    have startRow_here : ∀ {b a y}, s.store.stories = b ++ y :: a → startRow s.store.stories y.id = rowsOf b := fun h =>
      startRow_of_found (found_of_nodup h distinct)
    rw [nextTarget_found found (onAirStory_split hs on off)] at toNext
    rw [prevTarget_found found (onAirStory_split hs on off)] at toPrev
    intro reading
    have hreading : reading = readingRow s.scroll.p s.rows := reading_eq _ _
    rw [← hreading] at toPrev
    clear_value reading
    refine ⟨fun last => ?_, fun mid y rest hafter bare filled => ?_, fun far => ?_, fun near bare => ?_,
      fun pre y mid near hbefore filled bare => ?_⟩
    · rw [firstWithRows_eq_none_iff.mpr (rowsOf_eq_zero_iff.mpr last)] at toNext
      exact toNext
    · rw [hafter, firstWithRows_split bare filled] at toNext
      rwa [Option.map_some, Option.getD_some, startRow_here (b := before ++ st :: mid) (a := rest) (by simp [hs, hafter])] at toNext
    · rwa [if_pos far] at toPrev
    · rwa [if_neg (Nat.not_lt.mpr near), lastWithRows_eq_none_iff.mpr (rowsOf_eq_zero_iff.mpr bare)] at toPrev
    · rw [if_neg (Nat.not_lt.mpr near), hbefore, lastWithRows_split bare filled] at toPrev
      rwa [Option.map_some, Option.getD_some, startRow_here (b := pre) (a := mid ++ st :: after) (by simp [hs, hbefore])] at toPrev

end Sys2Proof.Machine
end

section
/-! What a scroll frame does before its release: the motion (R76 to R78), and the marks that the advance passes (R118 to R122). -/

namespace Sys2Proof.Machine

/-! ### The cue actions -/

/-- What carrying out a list of cue actions makes of a state: its lines and its cruise speed, and nothing else (R119). -/
structure ActionsRun (actions : List CueAction) (s t : State) : Prop where
  frame : t = { s with
    cues := { s.cues with lines := t.cues.lines }
    scroll := { s.scroll with cruise := t.scroll.cruise } }
  lines : ∀ l : Fin 8, t.cues.lines[l] = actions.foldl (lineAfter l) s.cues.lines[l]
  cruise : t.scroll.cruise = actions.foldl (cruiseAfter s.scroll.vmax) s.scroll.cruise

theorem actionsRun_one (s : State) (a : CueAction) : ActionsRun [a] s (runAction s a) := by
  have line : ∀ (k l : Fin 8) (f : CueLine → CueLine),
      (s.modLine k f).cues.lines[l] = if k = l then f s.cues.lines[l] else s.cues.lines[l] := fun k l f => by
    rw [modLine_cues_lines, upd_get]
    by_cases same : k = l
    · subst same
      rw [if_pos rfl]
    · rw [if_neg (Ne.symm same), if_neg same]
  cases a with
  | pause => exact ⟨rfl, fun _ => rfl, rfl⟩
  | cruise x => exact ⟨rfl, fun _ => rfl, rfl⟩
  | pulse k steps => exact ⟨rfl, fun l => line k l _, rfl⟩
  | set k => exact ⟨rfl, fun l => line k l _, rfl⟩
  | clear k => exact ⟨rfl, fun l => line k l _, rfl⟩

theorem ActionsRun.trans {a b : List CueAction} {s t u : State} (h : ActionsRun a s t) (h' : ActionsRun b t u) :
    ActionsRun (a ++ b) s u := by
  have vmax : t.scroll.vmax = s.scroll.vmax := by rw [h.frame]
  refine ⟨h'.frame.trans (by rw [h.frame]), fun l => ?_, ?_⟩
  · rw [h'.lines, h.lines, List.foldl_append]
  · rw [h'.cruise, h.cruise, vmax, List.foldl_append]

theorem actionsRun (actions : List CueAction) (s : State) : ActionsRun actions s (actions.foldl runAction s) := by
  induction actions generalizing s with
  | nil => exact ⟨rfl, fun _ => rfl, rfl⟩
  | cons a rest ih => exact (actionsRun_one s a).trans (ih _)

/-! ### The marks that fire -/

theorem raise_frame (n : Notice) (s : State) : raise n s = { s with link := (raise n s).link } := by
  obtain ⟨-, h⟩ | ⟨-, h⟩ := raise_eq n s <;> rw [h]

/-- The notice of a mark that fires (R121). -/
def passedNotice (s : State) (m : MarkRecord) : Notice :=
  .cuePassed m.cue m.story m.line m.char m.position (decide (cueActions s m.cue = []))

/-- What the firing of marks makes of a state: they are disarmed one after another, their cues' actions run, and CUE_PASSED is raised
for each (R118, R119, R121). -/
structure MarksFired (fired : List MarkRecord) (s t : State) : Prop where
  frame : t = { s with
    link := t.link
    layout := { s.layout with marks := t.layout.marks }
    cues := { s.cues with lines := t.cues.lines }
    scroll := { s.scroll with cruise := t.scroll.cruise } }
  lines : ∀ l : Fin 8, t.cues.lines[l] = (fired.flatMap fun m => cueActions s m.cue).foldl (lineAfter l) s.cues.lines[l]
  cruise : t.scroll.cruise = (fired.flatMap fun m => cueActions s m.cue).foldl (cruiseAfter s.scroll.vmax) s.scroll.cruise
  link : t.link = (noticesRaised (fired.map (passedNotice s)) s).link
  marks : t.layout.marks = fired.foldl (fun marks m => armWhere (sameMark m) false marks) s.layout.marks

/-- The action lists stay: a cue's actions do not change the definitions. -/
theorem cueActions_congr {s t : State} (h : t.cues.defs = s.cues.defs) : cueActions t = cueActions s := by
  funext cue
  simp only [cueActions, h]

theorem marksFired_one (s : State) (m : MarkRecord) : MarksFired [m] s (fireMark s m) := by
  have run := actionsRun (cueActions s m.cue) (s.setMarks (armWhere (sameMark m) false s.layout.marks))
  have none : (cueActions s m.cue).isEmpty = decide (cueActions s m.cue = []) := by
    rw [Bool.eq_iff_iff, List.isEmpty_iff, decide_eq_true_eq]
  have fire : fireMark s m = raise (passedNotice s m)
      ((cueActions s m.cue).foldl runAction (s.setMarks (armWhere (sameMark m) false s.layout.marks))) := by
    rw [passedNotice, ← none]
    rfl
  generalize (cueActions s m.cue).foldl runAction (s.setMarks (armWhere (sameMark m) false s.layout.marks)) = t at *
  have link : (raise (passedNotice s m) t).link = (raise (passedNotice s m) s).link :=
    raise_link_congr _ _ _ (by rw [run.frame]; rfl)
  rw [fire]
  refine ⟨?_, fun l => ?_, ?_, link, ?_⟩
  · rw [raise_cues, raise_scroll, raise_layout, raise_frame]
    conv_lhs => rw [run.frame]
    rw [run.frame]
    rfl
  · rw [raise_cues, run.lines l]
    simp [State.setMarks]
  · rw [raise_scroll, run.cruise]
    simp [State.setMarks]
  · rw [raise_layout, run.frame]
    rfl

theorem MarksFired.trans {a b : List MarkRecord} {s t u : State} (h : MarksFired a s t) (h' : MarksFired b t u) :
    MarksFired (a ++ b) s u := by
  have vmax : t.scroll.vmax = s.scroll.vmax := by rw [h.frame]
  have cues : cueActions t = cueActions s := cueActions_congr (by rw [h.frame])
  have passed : passedNotice t = passedNotice s := by
    funext m
    simp only [passedNotice, cues]
  refine ⟨h'.frame.trans (by rw [h.frame]), fun l => ?_, ?_, ?_, ?_⟩
  · rw [h'.lines, h.lines, List.flatMap_append, List.foldl_append, cues]
  · rw [h'.cruise, h.cruise, vmax, List.flatMap_append, List.foldl_append, cues]
  · rw [h'.link, List.map_append, noticesRaised_append, passed]
    exact noticesRaised_link_congr _ _ _ h.link
  · rw [h'.marks, h.marks, List.foldl_append]

theorem marksFired (fired : List MarkRecord) (s : State) : MarksFired fired s (fired.foldl fireMark s) := by
  induction fired generalizing s with
  | nil => exact ⟨rfl, fun _ => rfl, rfl, rfl, rfl⟩
  | cons m rest ih => exact (marksFired_one s m).trans (ih _)

/-- The marks that an advance fires: the armed ones that it passes (R118). -/
def firedMarks (s : State) (p p' : Nat) : List MarkRecord :=
  s.layout.marks.filter fun m => m.armed && decide (p < m.position) && decide (m.position ≤ p')

/-- An advance report: the marks passed fire, and then the marks ahead are armed (R118, R122). -/
theorem takeAdvance_eq (p p' : Nat) (s : State) :
    ∃ t, MarksFired (firedMarks s p p') s t
      ∧ takeAdvance p p' s = t.setMarks (armWhere (fun m => decide (p' + 1024 < m.position)) true t.layout.marks) := by
  by_cases advance : p < p'
  · refine ⟨_, marksFired _ s, ?_⟩
    have passed : (marksPassed s.layout.marks p p').filter MarkRecord.armed = firedMarks s p p' := by
      simp only [marksPassed, firedMarks, List.filter_filter, Bool.and_assoc]
    rw [← passed, takeAdvance, if_pos advance]
    rfl
  · refine ⟨s, ?_, by rw [takeAdvance, if_neg advance]; rfl⟩
    have none : firedMarks s p p' = [] := by
      refine List.filter_eq_nil_iff.mpr fun m _ fires => ?_
      simp only [Bool.and_eq_true, decide_eq_true_eq] at fires
      omega
    rw [none]
    exact marksFired [] s

/-! ### The armed states -/

/-- Records disarmed one after another, told by their keys. -/
theorem foldl_disarm (fired marks : List MarkRecord) :
    fired.foldl (fun marks m => armWhere (sameMark m) false marks) marks
      = marks.map fun x => if x.key ∈ fired.map MarkRecord.key then { x with armed := false } else x := by
  induction fired generalizing marks with
  | nil => simp
  | cons m rest ih =>
    rw [List.foldl_cons, ih, armWhere, List.map_map]
    refine List.map_congr_left fun x _ => ?_
    have same : sameMark m x = true ↔ x.key = m.key := sameMark_iff
    by_cases hx : x.key = m.key
    · have disarmed : ∀ y : MarkRecord, y.armed = false → { y with armed := false } = y := by
        rintro ⟨⟩ rfl
        rfl
      rw [if_pos (List.mem_map.mpr ⟨m, List.mem_cons_self .., hx.symm⟩)]
      simp only [Function.comp, same.mpr hx, if_true, ite_self]
    · have other : sameMark m x = false := Bool.eq_false_iff.mpr fun e => hx (same.mp e)
      simp [other, hx]

/-- The armed states after an advance (R118, R122): a mark that was armed is so while it has not been passed, and one that was not is
armed where it lies more than a row ahead. -/
theorem takeAdvance_marks {p p' : Nat} {s : State} (distinct : (s.layout.marks.map MarkRecord.key).Nodup) :
    (takeAdvance p p' s).layout.marks = s.layout.marks.map fun m =>
      { m with armed :=
          if m.armed = true then !(decide (p < m.position ∧ m.position ≤ p')) else decide (p' + 1024 < m.position) } := by
  obtain ⟨t, fired, h⟩ := takeAdvance_eq p p' s
  rw [h]
  show armWhere _ _ _ = _
  rw [fired.marks, foldl_disarm, armWhere, List.map_map]
  refine List.map_congr_left fun m hm => ?_
  have passed : m.key ∈ (firedMarks s p p').map MarkRecord.key ↔ m.armed = true ∧ p < m.position ∧ m.position ≤ p' := by
    have fires : m ∈ firedMarks s p p' ↔ m.armed = true ∧ p < m.position ∧ m.position ≤ p' := by
      rw [firedMarks, List.mem_filter, Bool.and_eq_true, Bool.and_eq_true, decide_eq_true_eq, decide_eq_true_eq, and_assoc]
      exact and_iff_right hm
    rw [← fires, List.mem_map]
    constructor
    · rintro ⟨x, hx, same⟩
      rwa [← List.inj_on_of_nodup_map distinct (List.mem_filter.mp hx).1 hm same]
    · exact fun hm => ⟨m, hm, rfl⟩
  obtain ⟨position, cue, story, line, char, ordinal, armed⟩ := m
  simp only [Function.comp, passed]
  cases armed with
  | false => by_cases ahead : p' + 1024 < position <;> simp [ahead]
  | true =>
    by_cases reached : p < position ∧ position ≤ p'
    · have near : ¬ p' + 1024 < position := by omega
      simp [reached, near]
    · simp [reached]

/-! ### The motion of a frame -/

/-- The demand of a frame is the one that R73 tables. -/
theorem demand_eq (s : State) : demand s = demandGiven s := by
  unfold demand demandGiven
  cases s.scroll.state with
  | manual => cases s.hub.holder <;> rfl
  | _ => rfl

/-- The velocity that a frame steps to (R76). -/
def steppedVelocity (s : State) : Int := velocityStep s.scroll.accel s.scroll.brake s.scroll.v (demandGiven s)

/-- The position that a frame would step to (R77). -/
def trialPosition (s : State) : Int := s.scroll.p + steppedVelocity s

/-- The position held within the script (R77). -/
def heldPosition (s : State) : Nat := (max 0 (min ((s.rows : Int) * 1024) (trialPosition s))).toNat

/-- A frame stepped past an end of the script (R77). -/
abbrev PastEnd (s : State) : Prop := (s.rows : Int) * 1024 < trialPosition s ∨ trialPosition s < 0

/-- The motion of a frame that no pause mark stops (R68, R73, R76, R77). -/
def unpausedMotion (s : State) : Scroll :=
  { s.scroll with
    p := heldPosition s
    v := if PastEnd s then 0 else steppedVelocity s
    state := if s.scroll.state = .cruise ∧ PastEnd s then .stopped else s.scroll.state
    direction := nextDirection s.scroll.direction (steppedVelocity s)
    lastDemand := demandGiven s }

/-- The motion of a frame that the pause mark `m` stops (R78). -/
def pausedMotion (s : State) (m : MarkRecord) : Scroll :=
  { s.scroll with
    p := m.position
    v := 0
    state := .held
    direction := nextDirection s.scroll.direction (steppedVelocity s)
    lastDemand := demandGiven s }

/-- A change of the motion that keeps the state raises no notice (R72). -/
theorem motion_quiet (cause : ScrollCause) (s : State) (scroll : Scroll) (same : scroll.state = s.scroll.state) :
    ({ s with scroll := scroll } : State) =
      { s with scroll := scroll, link := (noticesRaised (stateNotices cause s { s with scroll := scroll }) s).link } := by
  simp [stateNotices, same]

/-- A change of scroll state after a change of the motion, with the notice it raises (R72). -/
theorem setScrollState_motion (new : ScrollState) (cause : ScrollCause) (s : State) (scroll : Scroll)
    (same : scroll.state = s.scroll.state) :
    setScrollState new cause { s with scroll := scroll } =
      { s with
        scroll := { scroll with state := new }
        link := (noticesRaised (stateNotices cause s { s with scroll := { scroll with state := new } }) s).link } := by
  obtain ⟨kept, h⟩ | ⟨other, h⟩ := setScrollState_eq new cause { s with scroll := scroll }
  · have kept : scroll.state = new := kept
    have whole : ({ scroll with state := new } : Scroll) = scroll := by rw [← kept]
    rw [h, whole]
    exact motion_quiet cause s scroll same
  · have raised : ¬ new = s.scroll.state := fun e => other (same.trans e.symm)
    have link := raise_link_congr (.scrollState new s.scroll.state scroll.p scroll.v cause)
      { s with scroll := { scroll with state := new } } s rfl
    simp only [same] at h
    rw [h, raise_frame, link]
    simp only [stateNotices, raised, if_false, noticesRaised_cons, noticesRaised_nil]

/-- A frame that is clamped at an end stops a CRUISE (R77). -/
theorem clampStop_motion (cause : ScrollCause) (s : State) (scroll : Scroll) (same : scroll.state = s.scroll.state) :
    clampStop cause { s with scroll := scroll } =
      (fun new : Scroll => { s with
        scroll := new
        link := (noticesRaised (stateNotices cause s { s with scroll := new }) s).link })
      { scroll with state := if s.scroll.state = .cruise then .stopped else s.scroll.state } := by
  unfold clampStop
  by_cases cruise : s.scroll.state = .cruise
  · rw [if_pos (same.trans cruise), if_pos cruise]
    exact setScrollState_motion .stopped cause s scroll same
  · rw [if_neg (by rwa [same]), if_neg cruise, ← same]
    exact motion_quiet cause s scroll same

/-- All that the motion does (R76 to R78): where no pause mark stops it, the ends do; its notice gives the cause. -/
theorem moveFrame_eq (s : State) :
    ∃ scroll cause, moveFrame s =
        { s with scroll := scroll, link := (noticesRaised (stateNotices cause s { s with scroll := scroll }) s).link }
      ∧ ((pauseAt s (steppedVelocity s) s.scroll.p (heldPosition s) = none
          ∧ scroll = unpausedMotion s ∧ cause = if trialPosition s < 0 then .atTop else .atEnd)
        ∨ ∃ m, pauseAt s (steppedVelocity s) s.scroll.p (heldPosition s) = some m
          ∧ scroll = pausedMotion s m ∧ cause = .pause m.cue) := by
  have stepped : velocityStep s.scroll.accel s.scroll.brake s.scroll.v (demandGiven s) = steppedVelocity s := rfl
  have top : ((s.rows * Config.fine : Nat) : Int) = (s.rows : Int) * 1024 := Nat.cast_mul _ _
  have held : (clampInt 0 ((s.rows : Int) * 1024) (trialPosition s)).toNat = heldPosition s := rfl
  have trial : (s.scroll.p : Int) + steppedVelocity s = trialPosition s := rfl
  unfold moveFrame
  simp only [demand_eq, stepped, top, trial, held]
  cases pause : pauseAt s (steppedVelocity s) s.scroll.p (heldPosition s) with
  | some m =>
    exact ⟨pausedMotion s m, .pause m.cue,
      setScrollState_motion .held (.pause m.cue) s { pausedMotion s m with state := s.scroll.state } rfl, .inr ⟨m, rfl, rfl, rfl⟩⟩
  | none =>
    refine ⟨unpausedMotion s, _, ?_, .inl ⟨rfl, rfl, rfl⟩⟩
    dsimp only
    have clamped : ∀ cause : ScrollCause, PastEnd s →
        clampStop cause { s with scroll := { unpausedMotion s with v := 0, state := s.scroll.state } } =
          { s with
            scroll := unpausedMotion s
            link := (noticesRaised (stateNotices cause s { s with scroll := unpausedMotion s }) s).link } := by
      intro cause past
      have motion : ({ unpausedMotion s with
          v := 0, state := if s.scroll.state = .cruise then .stopped else s.scroll.state } : Scroll) = unpausedMotion s := by
        simp only [unpausedMotion, past, and_true, if_true]
      have := clampStop_motion cause s { unpausedMotion s with v := 0, state := s.scroll.state } rfl
      rwa [motion] at this
    by_cases beyond : (s.rows : Int) * 1024 < trialPosition s
    · rw [if_pos beyond, if_neg (by omega)]
      exact clamped .atEnd (.inl beyond)
    · rw [if_neg beyond]
      by_cases above : trialPosition s < 0
      · rw [if_pos above, if_pos above]
        exact clamped .atTop (.inr above)
      · rw [if_neg above, if_neg above]
        have inside : ¬ PastEnd s := not_or.mpr ⟨beyond, above⟩
        have motion : unpausedMotion s = { s.scroll with
            p := heldPosition s, v := steppedVelocity s
            direction := nextDirection s.scroll.direction (steppedVelocity s), lastDemand := demandGiven s } := by
          simp only [unpausedMotion, inside, and_false, if_false]
        rw [motion]
        exact motion_quiet .atEnd s _ rfl

/-! ### The frame before its release -/

/-- The state in which a frame is taken: the frame owed is counted off. -/
def frameCounted (s : State) : State := { s with scroll := { s.scroll with framesOwed := s.scroll.framesOwed - 1 } }

/-- The state that a frame makes, before the release of pending edits and the count of frames (R79). -/
def frameMoved (s : State) : State :=
  recomputeStates (takeAdvance s.scroll.p (moveFrame (frameCounted s)).scroll.p (moveFrame (frameCounted s)))

theorem exec_scrollFrame {s : State} (running : s.resetHeld = false) :
    exec .scrollFrame s = .next (pump (countFrame (release (frameMoved s)))) := live_running takeFrame s running

/-- What a frame does before its release, with the motion and the cause of its SCROLL_STATE, and the marks that fire (R77, R79, R119). -/
structure FrameDone (motion : Scroll) (cause : ScrollCause) (fired : List MarkRecord) (s u : State) : Prop where
  scroll : u.scroll = { motion with cruise := u.scroll.cruise }
  cruise : u.scroll.cruise = (fired.flatMap fun m => cueActions s m.cue).foldl (cruiseAfter s.scroll.vmax) s.scroll.cruise
  lines : ∀ l : Fin 8, u.cues.lines[l] = (fired.flatMap fun m => cueActions s m.cue).foldl (lineAfter l) s.cues.lines[l]
  defs : u.cues.defs = s.cues.defs
  layout : ∃ marks, u.layout = { s.layout with marks := marks }
  marks : (s.layout.marks.map MarkRecord.key).Nodup → u.layout.marks = s.layout.marks.map fun m =>
    { m with armed :=
        if m.armed = true then !(decide (s.scroll.p < m.position ∧ m.position ≤ motion.p))
        else decide (motion.p + 1024 < m.position) }
  stories : u.store.stories = restated u s.store.stories
  onAir : OnAirKept u
  store : u.store = { s.store with stories := u.store.stories, onAirId := u.store.onAirId }
  link : u.link = (noticesRaised (stateNotices cause s u ++ fired.map (passedNotice s) ++ onAirNotices s u) s).link
  same : u.pending = s.pending ∧ u.edit = s.edit ∧ u.hub = s.hub ∧ u.heads = s.heads ∧ u.job = s.job
  resetHeld : u.resetHeld = s.resetHeld

/-- A motion, the firing of the marks it passes, and the states taken afresh. -/
theorem frameDone_of_moved {s moved : State} {scroll : Scroll} {cause : ScrollCause}
    (hmoved : moved = { s with scroll := scroll, link := (noticesRaised (stateNotices cause s { s with scroll := scroll }) s).link })
    (vmax : scroll.vmax = s.scroll.vmax) (cruise : scroll.cruise = s.scroll.cruise) :
    FrameDone scroll cause (firedMarks s s.scroll.p scroll.p) s
      (recomputeStates (takeAdvance s.scroll.p scroll.p moved)) := by
  obtain ⟨t, fired, ht⟩ := takeAdvance_eq s.scroll.p scroll.p moved
  have hfired : firedMarks moved s.scroll.p scroll.p = firedMarks s s.scroll.p scroll.p := by rw [hmoved]; rfl
  have hactions : cueActions moved = cueActions s := cueActions_congr (by rw [hmoved])
  have hpassed : passedNotice moved = passedNotice s := by
    funext m
    simp only [passedNotice, hactions]
  have marks : (s.layout.marks.map MarkRecord.key).Nodup → (takeAdvance s.scroll.p scroll.p moved).layout.marks = _ :=
    fun distinct => (takeAdvance_marks (by rwa [hmoved])).trans (congrArg (fun u : State => u.layout.marks.map _) hmoved)
  obtain ⟨frame, lines, newCruise, link, -⟩ := hfired ▸ fired
  rw [hactions] at lines newCruise
  rw [hpassed] at link
  rw [ht]
  have movedScroll : moved.scroll = scroll := by rw [hmoved]
  have store : t.store = s.store := by rw [frame, hmoved]
  have kept : t.scroll.state = scroll.state ∧ t.scroll.p = scroll.p ∧ t.scroll.v = scroll.v := by
    rw [frame, movedScroll]
    exact ⟨rfl, rfl, rfl⟩
  have notices : stateNotices cause s { s with scroll := scroll }
      = stateNotices cause s (recomputeStates (t.setMarks (armWhere (fun m => decide (scroll.p + 1024 < m.position)) true
          t.layout.marks))) := by
    simp only [stateNotices, recomputeStates_scroll, State.setMarks, kept]
  have onAir : ∀ marks v, onAirNotices (t.setMarks marks) v = onAirNotices s v := fun _ v =>
    onAirNotices_congr (congrArg Store.onAirId store) v
  refine ⟨?_, ?_, fun l => ?_, ?_, ?_, ?_, ?_, onAirKept_recomputeStates _, ?_, ?_, ?_, ?_⟩
  · rw [recomputeStates_scroll, ← movedScroll]
    exact congrArg State.scroll frame
  · rw [movedScroll, vmax, cruise] at newCruise
    rw [recomputeStates_scroll]
    exact newCruise
  · rw [recomputeStates_cues]
    exact (lines l).trans (by rw [hmoved])
  · rw [recomputeStates_cues]
    exact (congrArg (fun u => u.cues.defs) frame).trans (by rw [hmoved])
  · refine ⟨armWhere (fun m => decide (scroll.p + 1024 < m.position)) true t.layout.marks, ?_⟩
    rw [recomputeStates_layout, frame, hmoved]
    rfl
  · rw [ht] at marks
    rw [recomputeStates_layout]
    exact marks
  · rw [recomputeStates_restated, ← store]
    rfl
  · rw [recomputeStates_store, ← store]
    rfl
  · rw [noticesRaised_append, noticesRaised_append, recomputeStates_link_notices, onAir]
    refine noticesRaised_link_congr _ _ _ (link.trans (noticesRaised_link_congr _ _ _ ?_))
    rw [← notices, hmoved]
  · rw [recomputeStates_pending, recomputeStates_edit, recomputeStates_hub, recomputeStates_heads, recomputeStates_job, frame,
      hmoved]
    exact ⟨rfl, rfl, rfl, rfl, rfl⟩
  · rw [recomputeStates_resetHeld, frame, hmoved]
    rfl

/-- The frame owed that is counted off changes nothing else of what a frame does. -/
theorem FrameDone.of_counted {scroll : Scroll} {cause : ScrollCause} {fired : List MarkRecord} {s u : State}
    (h : FrameDone scroll cause fired (frameCounted s) u) : FrameDone scroll cause fired s u :=
  { h with link := h.link.trans (noticesRaised_link_congr _ _ _ rfl) }

/-- All that a frame does before its release (R76 to R79, R118 to R122). -/
theorem frameMoved_eq (s : State) :
    ∃ scroll cause, FrameDone { scroll with framesOwed := s.scroll.framesOwed - 1 } cause (firedMarks s s.scroll.p scroll.p) s
        (frameMoved s)
      ∧ ((pauseAt s (steppedVelocity s) s.scroll.p (heldPosition s) = none
          ∧ scroll = unpausedMotion s ∧ cause = if trialPosition s < 0 then .atTop else .atEnd)
        ∨ ∃ m, pauseAt s (steppedVelocity s) s.scroll.p (heldPosition s) = some m
          ∧ scroll = pausedMotion s m ∧ cause = .pause m.cue) := by
  obtain ⟨scroll, cause, moved, motion⟩ := moveFrame_eq (frameCounted s)
  have done : frameMoved s = recomputeStates (takeAdvance s.scroll.p scroll.p (moveFrame (frameCounted s))) := by
    rw [frameMoved, moved]
  rw [done]
  rcases motion with ⟨none, rfl, hcause⟩ | ⟨m, hm, rfl, hcause⟩
  · exact ⟨unpausedMotion s, cause, (frameDone_of_moved moved rfl rfl).of_counted, .inl ⟨none, rfl, hcause⟩⟩
  · exact ⟨pausedMotion s m, cause, (frameDone_of_moved moved rfl rfl).of_counted, .inr ⟨m, hm, rfl, hcause⟩⟩

end Sys2Proof.Machine
end

section
/-! The scroll frame (R76 to R79, R118 to R122, R164): its motion, its marks, its release and its report. -/

namespace Sys2Proof.Machine

/-! ### The count of frames -/

/-- The count touches the link's frame count, its report number and its slot (R164). -/
theorem countFrame_frame (s : State) :
    countFrame s = { s with link := { s.link with
      frameCount := (countFrame s).link.frameCount
      reportNumber := (countFrame s).link.reportNumber
      slot := (countFrame s).link.slot } } := by
  unfold countFrame
  split_ifs <;> rfl

/-- A report is written where the count reaches the interval (R164). -/
abbrev WritesReport (s : State) : Prop := 0 < s.link.interval ∧ s.link.interval ≤ s.link.frameCount + 1

/-- What the count makes of the link (R164). -/
theorem countFrame_link (s : State) :
    (countFrame s).link.frameCount =
        (if s.link.interval = 0 then s.link.frameCount else if WritesReport s then 0 else s.link.frameCount + 1)
      ∧ (countFrame s).link.reportNumber = (if WritesReport s then s.link.reportNumber + 1 else s.link.reportNumber)
      ∧ (countFrame s).link.slot = if WritesReport s then
            some ⟨s.link.reportNumber + 1, s.scroll.p, s.scroll.v, s.scroll.state, s.store.onAirId,
              takeAnchor s.store.stories s.scroll.p⟩
          else s.link.slot := by
  unfold countFrame
  by_cases off : s.link.interval = 0
  · have quiet : ¬ WritesReport s := fun h => absurd off h.1.ne'
    simp only [off, if_true, if_neg quiet, and_self]
  · by_cases early : s.link.frameCount + 1 < s.link.interval
    · have quiet : ¬ WritesReport s := fun h => Nat.not_le.mpr early h.2
      simp only [if_neg off, if_pos early, if_neg quiet, and_self]
    · have due : WritesReport s := ⟨Nat.pos_of_ne_zero off, Nat.not_lt.mp early⟩
      simp only [if_neg off, if_neg early, if_pos due, and_self]

/-- A busy transmitter goes on (R165). -/
theorem pump_busy {s : State} (busy : s.link.sending ≠ none) : pump s = s := by
  obtain ⟨x, hx⟩ := Option.ne_none_iff_exists'.mp busy
  simp only [pump, hx]

/-- What a frame leaves after its release, its count and the transmitter's choice: all of the release but for the link, which keeps its
queues (R164, R165). -/
theorem pump_countFrame (s : State) :
    pump (countFrame s) = { s with link := (pump (countFrame s)).link }
      ∧ (pump (countFrame s)).link.replies = s.link.replies ∧ (pump (countFrame s)).link.received = s.link.received
      ∧ (pump (countFrame s)).link.notices = s.link.notices
      ∧ (pump (countFrame s)).link.frameCount = (countFrame s).link.frameCount
      ∧ (pump (countFrame s)).link.reportNumber = (countFrame s).link.reportNumber
      ∧ (s.link.sending ≠ none → (pump (countFrame s)).link.slot = (countFrame s).link.slot) := by
  have frame := countFrame_frame s
  have replies : (countFrame s).link.replies = s.link.replies := by rw [frame]
  have received : (countFrame s).link.received = s.link.received := by rw [frame]
  have notices : (countFrame s).link.notices = s.link.notices := by rw [frame]
  have sending : (countFrame s).link.sending = s.link.sending := by rw [frame]
  refine ⟨?_, by simp [replies], by simp [received], by simp [notices], by simp, by simp, fun busy => ?_⟩
  · have pumped : pump (countFrame s) = { countFrame s with link := (pump (countFrame s)).link } := by
      unfold pump
      (repeat' split) <;> rfl
    rw [pumped, frame]
  · rw [pump_busy (by rwa [sending])]

/-- Notices raised join the queue or are counted as lost, and nothing else of the link changes (R163). -/
theorem noticesRaised_link_frame (ns : List Notice) (s : State) :
    ∃ queue lost, (noticesRaised ns s).link = { s.link with notices := queue, lost := lost } := by
  induction ns generalizing s with
  | nil => exact ⟨_, _, rfl⟩
  | cons n rest ih =>
    obtain ⟨queue, lost, h⟩ := ih (raise n s)
    refine ⟨queue, lost, h.trans ?_⟩
    obtain ⟨-, raised⟩ | ⟨-, raised⟩ := raise_eq n s <;> rw [raised]

/-! ### The marks in the way -/

theorem mem_firedMarks {s : State} {p p' : Nat} {m : MarkRecord} :
    m ∈ firedMarks s p p' ↔ m ∈ s.layout.marks ∧ m.armed = true ∧ p < m.position ∧ m.position ≤ p' := by
  rw [firedMarks, List.mem_filter, Bool.and_eq_true, Bool.and_eq_true, decide_eq_true_eq, decide_eq_true_eq, and_assoc]

/-- A mark that stops the scroll is armed, has a PAUSE action, and lies in the advance (R65, R78). -/
theorem mem_passed_pause_iff {s : State} {p p' : Nat} {m : MarkRecord} :
    (m ∈ marksPassed s.layout.marks p p' ∧ isPauseMark s m = true) ↔ m ∈ s.layout.marks ∧ PausesIn s p p' m := by
  simp only [marksPassed, List.mem_filter, isPauseMark, Bool.and_eq_true, decide_eq_true_eq, List.contains_iff_mem]
  tauto

theorem pauseAt_eq_none {s : State} {v : Int} {p p' : Nat}
    (clear : s.scroll.state = .cruise → 0 < v → ∀ m ∈ s.layout.marks, ¬ PausesIn s p p' m) : pauseAt s v p p' = none := by
  unfold pauseAt
  split
  · next goes =>
    refine List.find?_eq_none.mpr fun m hm pauses => ?_
    obtain ⟨there, stops⟩ := mem_passed_pause_iff.mp ⟨hm, pauses⟩
    exact clear goes.1 goes.2 m there stops
  · rfl

/-- The mark that stops the scroll is one of those that fire. -/
theorem pauseAt_fires {s : State} {v : Int} {p p' : Nat} {m : MarkRecord} (h : pauseAt s v p p' = some m) :
    m ∈ firedMarks s p m.position := by
  unfold pauseAt at h
  split at h
  · obtain ⟨there, above, -, armed, -⟩ := mem_passed_pause_iff.mp ⟨List.mem_of_find?_eq_some h, List.find?_some h⟩
    exact mem_firedMarks.mpr ⟨there, armed, above, le_rfl⟩
  · cases h

/-! ### The obligations -/

/-- Settles O39: no pause mark is in the way, so that the frame's motion is that of R76 and R77; the release leaves what R43 names. -/
theorem scrollFrameMovesThePosition : Obligations.ScrollFrameMovesThePosition := by
  intro s running d v trial top clear
  have bounded : heldPosition s = (min top trial).toNat := by
    have : ∀ x : Int, (max 0 x).toNat = x.toNat := fun x => by omega
    exact this _
  have free : pauseAt s (steppedVelocity s) s.scroll.p (heldPosition s) = none :=
    pauseAt_eq_none (by rw [bounded]; exact clear)
  obtain ⟨motion, cause, done, ⟨-, rfl, rfl⟩ | ⟨m, hm, -⟩⟩ := frameMoved_eq s
  swap
  · exact absurd (free.symm.trans hm) (by simp)
  have settled := SettleFrame.release (frameMoved s)
  obtain ⟨rest, replies, received, -, frameCount, reportNumber, slot⟩ := pump_countFrame (release (frameMoved s))
  obtain ⟨count, number, report⟩ := countFrame_link (release (frameMoved s))
  have p : (frameMoved s).scroll.p = heldPosition s := by rw [done.scroll]; rfl
  obtain ⟨pending, edit, hub, heads, job⟩ := done.same
  obtain ⟨queue, lost, link⟩ : ∃ queue lost, (release (frameMoved s)).link = { s.link with notices := queue, lost := lost } := by
    obtain ⟨queue, lost, raised⟩ := noticesRaised_link_frame _ s
    exact ⟨_, _, settled.link.trans (by rw [done.link, raised])⟩
  refine ⟨frameMoved s, _, (frameMoved s).scroll.cruise, exec_scrollFrame running, rfl, done.scroll, fun changed => ?_, done.stories,
    done.onAir, done.store, ⟨_, done.link⟩, done.layout, ⟨pending, edit, hub, heads, job, done.defs⟩, fun quiet => ?_, ?_, ?_⟩
  · cases fired : firedMarks s s.scroll.p (unpausedMotion s).p with
    | nil => exact absurd (by rw [done.cruise, fired]; rfl) changed
    | cons m others =>
      obtain ⟨there, armed, above, reached⟩ := mem_firedMarks.mp (fired ▸ List.mem_cons_self ..)
      exact ⟨m, there, armed, above, p ▸ reached⟩
  · rw [release_nil _ (by rw [edit, quiet])] at rest ⊢
    rw [rest]
    exact ⟨rfl, rfl, rfl, rfl, rfl, rfl⟩
  · rw [replies, received, link, rest]
    exact ⟨settled.pending.trans pending, settled.hub.trans hub, settled.job.trans job, rfl, rfl⟩
  · intro writes
    unfold WritesReport at count number report
    rw [link] at count number report
    refine ⟨frameCount.trans count, reportNumber.trans number, fun busy => ?_⟩
    rw [slot (by rwa [link]), report, rest]

/-- Settles O41: the frame's marks by their keys, its cues and its notices in their order. -/
theorem framesFireAndRearmMarks : Obligations.FramesFireAndRearmMarks := by
  intro s running distinct
  obtain ⟨motion, cause, done, kind⟩ := frameMoved_eq s
  have settled := SettleFrame.release (frameMoved s)
  obtain ⟨rest, -, -, notices, -⟩ := pump_countFrame (release (frameMoved s))
  obtain ⟨-, edit, -⟩ := done.same
  obtain ⟨more, added⟩ := settled.notices
  have p : (frameMoved s).scroll.p = motion.p := by rw [done.scroll]
  have state : (frameMoved s).scroll.state = motion.state := by rw [done.scroll]
  have cues : (pump (countFrame (release (frameMoved s)))).cues = (frameMoved s).cues := by rw [rest]; exact settled.cues
  have cruise : (pump (countFrame (release (frameMoved s)))).scroll.cruise = (frameMoved s).scroll.cruise := by
    rw [rest]
    exact (congrArg Scroll.cruise settled.scroll :)
  refine ⟨frameMoved s, _, exec_scrollFrame running, rfl, edit, fun quiet => ?_, ?_, fun l => ?_, ?_, ?_, cause, more,
    fun stopped => ?_, fun held changed => ?_, ?_, notices.trans added⟩
  · rw [release_nil _ (by rw [edit, quiet])] at rest ⊢
    rw [rest]
    exact ⟨rfl, rfl⟩
  · rw [p]
    exact done.marks distinct
  · rw [p, cues]
    exact done.lines l
  · rw [p, cruise]
    exact done.cruise
  · rw [cues]
    exact done.defs
  · rcases kind with ⟨-, rfl, rfl⟩ | ⟨m, -, rfl, -⟩
    · refine ⟨fun above => if_pos above, fun beyond => if_neg ?_⟩
      have beyond : (s.rows : Int) * 1024 < trialPosition s := beyond
      omega
    · exact absurd (state.symm.trans stopped) (by simp [pausedMotion])
  · rcases kind with ⟨-, rfl, -⟩ | ⟨m, hm, rfl, rfl⟩
    · rw [state] at held changed
      simp only [unpausedMotion] at held changed
      split at held
      · cases held
      · next goes => exact absurd (if_neg goes) changed
    · rw [p]
      exact ⟨m, pauseAt_fires hm, rfl, rfl⟩
  · rw [p]
    exact done.link

end Sys2Proof.Machine
end

section
/-! The wrap of a line (R49): it is greedy, row after row. -/

namespace Sys2Proof.Machine

/-- The space that ends a row is the largest in reach (R49). -/
theorem lastSpace_eq_some {chars : List Byte} {c d : Nat} (h : lastSpace chars c = some d) :
    1 ≤ d ∧ d ≤ c ∧ chars[d]? = some spaceByte ∧ ∀ j, d < j → j ≤ c → chars[j]? ≠ some spaceByte := by
  induction c with
  | zero => cases h
  | succ c ih =>
    unfold lastSpace at h
    split at h
    · next space =>
      cases h
      exact ⟨by omega, le_rfl, space, by omega⟩
    · next other =>
      obtain ⟨pos, le, space, largest⟩ := ih h
      refine ⟨pos, by omega, space, fun j hj hc => ?_⟩
      rcases Nat.lt_or_eq_of_le hc with lt | rfl
      · exact largest j hj (by omega)
      · exact other

theorem lastSpace_eq_none {chars : List Byte} {c : Nat} (h : lastSpace chars c = none) :
    ∀ j, 1 ≤ j → j ≤ c → chars[j]? ≠ some spaceByte := by
  induction c with
  | zero => omega
  | succ c ih =>
    unfold lastSpace at h
    split at h
    · cases h
    · next other =>
      intro j pos hc
      rcases Nat.lt_or_eq_of_le hc with lt | rfl
      · exact ih h j pos (by omega)
      · exact other

/-- A row that is the last of a line takes what is left of it (R49). -/
abbrev EndsLine (c : Nat) (chars : List Byte) (r : RowSpan) : Prop := r.first + r.count = chars.length ∧ r.count ≤ c

/-- A row that another follows: it ends at the largest space in reach, or, where there is none, takes `c` characters (R49). -/
abbrev BreaksLine (c : Nat) (chars : List Byte) (r next : RowSpan) : Prop :=
  r.first + c < chars.length
    ∧ ((1 ≤ r.count ∧ r.count ≤ c ∧ chars[r.first + r.count]? = some 0x20 ∧ next.first = r.first + r.count + 1
        ∧ ∀ j, r.first + r.count < j → j ≤ r.first + c → chars[j]? ≠ some 0x20)
      ∨ (r.count = c ∧ next.first = r.first + c ∧ ∀ j, r.first < j → j ≤ r.first + c → chars[j]? ≠ some 0x20))

/-- The rows of a line from character `s` on, as R49 makes them. -/
structure WrapsFrom (c : Nat) (chars : List Byte) (s : Nat) (rows : List RowSpan) : Prop where
  head : ∃ r rest, rows = r :: rest ∧ r.first = s
  last : ∀ i r, rows[i]? = some r → rows[i + 1]? = none → EndsLine c chars r
  breaks : ∀ i r next, rows[i]? = some r → rows[i + 1]? = some next → BreaksLine c chars r next

theorem WrapsFrom.single {c : Nat} {chars : List Byte} {r : RowSpan} (h : EndsLine c chars r) : WrapsFrom c chars r.first [r] := by
  refine ⟨⟨r, [], rfl, rfl⟩, fun i x hi _ => ?_, fun i x next _ hn => by simp at hn⟩
  cases i with
  | zero =>
    cases hi
    exact h
  | succ i => simp at hi

/-- A row before the rows of the rest. -/
theorem WrapsFrom.cons {c s : Nat} {chars : List Byte} {rows : List RowSpan} (w : WrapsFrom c chars s rows) {r : RowSpan}
    (h : ∀ next : RowSpan, next.first = s → BreaksLine c chars r next) : WrapsFrom c chars r.first (r :: rows) := by
  obtain ⟨⟨first, rest, rfl, start⟩, last, breaks⟩ := w
  refine ⟨⟨r, _, rfl, rfl⟩, fun i x hi hn => ?_, fun i x next hi hn => ?_⟩
  · cases i with
    | zero => simp at hn
    | succ i => exact last i x hi hn
  · cases i with
    | zero =>
      cases hi
      cases hn
      exact h first start
    | succ i => exact breaks i x next hi hn

/-- The wrap from character `s` on, by induction on the rows it has yet to make. -/
theorem wrapsFrom_wrapFrom {c : Nat} (hc : 1 ≤ c) (chars : List Byte) {fuel s : Nat} (enough : chars.length - s < fuel)
    (hs : s ≤ chars.length) : WrapsFrom c chars s (wrapFrom c fuel (chars.drop s) s) := by
  induction fuel generalizing s with
  | zero => omega
  | succ fuel ih =>
    unfold wrapFrom
    rw [List.length_drop]
    split
    · next fits => exact .single (r := ⟨s, chars.length - s⟩) ⟨Nat.add_sub_cancel' hs, fits⟩
    · next long =>
      have char : ∀ j, s ≤ j → chars[j]? = (chars.drop s)[j - s]? := fun j hj => by
        rw [List.getElem?_drop, Nat.add_sub_cancel' hj]
      split
      · next d hd =>
        obtain ⟨pos, le, space, largest⟩ := lastSpace_eq_some hd
        rw [List.drop_drop]
        refine (ih (s := s + d + 1) (by omega) (by omega)).cons (r := ⟨s, d⟩) fun next hnext => ⟨by dsimp only; omega, .inl ?_⟩
        refine ⟨pos, le, ?_, hnext, fun j above reach => ?_⟩
        · exact List.getElem?_drop ▸ space
        · dsimp only at above reach
          rw [char j (by omega)]
          exact largest _ (by omega) (by omega)
      · next none =>
        rw [List.drop_drop]
        refine (ih (s := s + c) (by omega) (by omega)).cons (r := ⟨s, c⟩) fun next hnext => ⟨by dsimp only; omega, .inr ?_⟩
        refine ⟨rfl, hnext, fun j above reach => ?_⟩
        dsimp only at above reach
        rw [char j (by omega)]
        exact lastSpace_eq_none none _ (by omega) (by omega)

/-- Settles O35: the wrap from the first character on. -/
theorem linesWrapGreedily : Obligations.LinesWrapGreedily := by
  intro c text hc
  obtain ⟨head, last, breaks⟩ := wrapsFrom_wrapFrom hc (visibleChars text) (s := 0) (Nat.lt_succ_self _) (Nat.zero_le _)
  exact ⟨head, last, breaks⟩

end Sys2Proof.Machine
end

section
/-! SET_COLUMNS (R47, R48). -/

namespace Sys2Proof.Machine

theorem inRange_iff {lo hi x : Nat} : inRange lo hi x = true ↔ lo ≤ x ∧ x ≤ hi := by simp [inRange]

/-- A notice and a reply come in either order (R162, R163). -/
theorem raise_reply (n : Notice) (c q : Byte) (r : Result) (y : ReplyBody) (s : State) :
    raise n (reply c q r y s) = reply c q r y (raise n s) := by
  obtain ⟨room, h⟩ | ⟨full, h⟩ := raise_eq n s
  · rw [h]
    exact if_pos (c := (reply c q r y s).link.notices.length < Config.noticeQueueSize) room
  · rw [h]
    exact if_neg (c := (reply c q r y s).link.notices.length < Config.noticeQueueSize) (Nat.not_lt.mpr full)

/-- A head that is not DISABLED and whose rows would not hold `c` characters (R47). -/
theorem anyTooNarrow_iff {c : Nat} {s : State} :
    (s.heads.toList.any fun h => !(h.state == .disabled) && !h.geometry.holds c) = true
      ↔ ∃ h : Fin 4, (s.heads[h]).state ≠ .disabled
        ∧ (s.heads[h]).geometry.width < c * 16 * (s.heads[h]).geometry.scale + (s.heads[h]).geometry.margin := by
  simp only [List.any_eq_true, Vector.mem_toList_iff, Vector.mem_iff_getElem, Bool.and_eq_true, Bool.not_eq_true', beq_eq_false_iff_ne,
    Geometry.holds, decide_eq_false_iff_not, Nat.not_le]
  constructor
  · rintro ⟨x, ⟨i, hi, rfl⟩, h⟩
    exact ⟨⟨i, hi⟩, h⟩
  · rintro ⟨i, h⟩
    exact ⟨_, ⟨i.val, i.isLt, rfl⟩, h⟩

/-- The checks of SET_COLUMNS, in order (R47). -/
theorem setColumnsFault_eq (c : Nat) (s : State) :
    setColumnsFault c s =
      if c < 8 ∨ 40 < c then some .badValue
      else if s.layout.target ≠ none then some .busy
      else if ∃ h : Fin 4, (s.heads[h]).state ≠ .disabled
          ∧ (s.heads[h]).geometry.width < c * 16 * (s.heads[h]).geometry.scale + (s.heads[h]).geometry.margin then
        some .headTooNarrow
      else none := by
  have range : (!inRange 8 40 c) = true ↔ c < 8 ∨ 40 < c := by
    rw [Bool.not_eq_true', Bool.eq_false_iff, Ne, inRange_iff]
    omega
  have busy : s.reflowing = true ↔ s.layout.target ≠ none := by rw [State.reflowing, Option.isSome_iff_ne_none]
  simp only [setColumnsFault, range, busy, anyTooNarrow_iff]

/-- Settles O17: each check that fails refuses; the count in force is answered by REFLOW_DONE, and another becomes the target. -/
theorem setColumnsStartsAReflow : Obligations.SetColumnsStartsAReflow := by
  intro seq c s ready
  have taken := exec_taken (i := .setColumns seq c) ready (by simp [payloadOf]) rfl
  have idle : s.link.restart ≠ .due := by simp [ready.2.2.2]
  have run : runCommand (.setColumns seq c) s = cmdSetColumns seq c s := rfl
  rw [taken, run, cmdSetColumns, setColumnsFault_eq]
  refine congrArg Host.Outcome.next ?_
  by_cases range : c.toNat < 8 ∨ 40 < c.toNat
  · rw [if_pos range, if_pos range]
    exact pump_refuse 0x08 seq .badValue s idle
  rw [if_neg range, if_neg range]
  by_cases busy : s.layout.target ≠ none
  · rw [if_pos busy, if_pos busy]
    exact pump_refuse 0x08 seq .busy s idle
  rw [if_neg busy, if_neg busy]
  by_cases narrow : ∃ h : Fin 4, (s.heads[h]).state ≠ .disabled
      ∧ (s.heads[h]).geometry.width < c.toNat * 16 * (s.heads[h]).geometry.scale + (s.heads[h]).geometry.margin
  · rw [if_pos narrow, if_pos narrow]
    exact pump_refuse 0x08 seq .headTooNarrow s idle
  rw [if_neg narrow, if_neg narrow]
  dsimp only
  by_cases same : c.toNat = s.layout.columns
  · rw [if_pos same, if_pos same, raise_reply]
    exact pump_reply 0x08 seq .ok .bare _ (by simpa using idle)
  · rw [if_neg same, if_neg same]
    exact pump_reply 0x08 seq .ok .bare { s with layout := { s.layout with target := some c.toNat } } idle

end Sys2Proof.Machine
end

section
/-! The ranges of the settings, block by block (R47, R68, R69, R75, R91, R93, R115, R125, R129 to R131, R138), and what keeps a block in
them. -/

namespace Sys2Proof.Machine

/-! ### Scroll controller -/

/-- The motion settings in their ranges, and no speed above 16,384 (R68, R69, R75, R91). -/
def ScrollOk (x : Scroll) : Prop :=
  (1 ≤ x.vmax ∧ x.vmax ≤ 16384) ∧ (1 ≤ x.accel ∧ x.accel ≤ 4096) ∧ (1 ≤ x.brake ∧ x.brake ≤ 4096)
    ∧ (1 ≤ x.keyStep ∧ x.keyStep ≤ 1024) ∧ (curveOrdered x.curve = true ∧ x.curve[8] ≤ 16384)
    ∧ x.v.natAbs ≤ 16384 ∧ x.cruise.natAbs ≤ 16384

theorem ScrollOk.vmax {x : Scroll} (ok : ScrollOk x) : x.vmax ≤ 16384 := ok.1.2

theorem ScrollOk.withCruise {x : Scroll} (ok : ScrollOk x) {y : Int} (h : y.natAbs ≤ 16384) : ScrollOk { x with cruise := y } := by
  obtain ⟨vmax, accel, brake, keyStep, curve, v, -⟩ := ok
  exact ⟨vmax, accel, brake, keyStep, curve, v, h⟩

theorem ScrollOk.withVelocity {x : Scroll} (ok : ScrollOk x) {y : Int} (h : y.natAbs ≤ 16384) : ScrollOk { x with v := y } := by
  obtain ⟨vmax, accel, brake, keyStep, curve, -, cruise⟩ := ok
  exact ⟨vmax, accel, brake, keyStep, curve, h, cruise⟩

/-- A speed clamped to what the port allows is at most Vmax (R69). -/
theorem natAbs_clampInt_le {lo x : Int} {vmax : Nat} (hlo : -(vmax : Int) ≤ lo) (hhi : lo ≤ vmax) :
    (clampInt lo vmax x).natAbs ≤ vmax := by
  unfold clampInt
  omega

/-- The velocity steps toward the demand and not past it (R76). -/
theorem natAbs_velocityStep_le (a b : Nat) (v d : Int) : (velocityStep a b v d).natAbs ≤ max v.natAbs d.natAbs := by
  unfold velocityStep withSign
  split_ifs <;> omega

/-- The demand is at most Vmax (R73, R74). -/
theorem natAbs_demandGiven_le (s : State) : (demandGiven s).natAbs ≤ s.scroll.vmax := by
  unfold demandGiven
  split
  · omega
  · unfold leverDemand
    split
    · dsimp only
      split_ifs <;> omega
    · simp
    · simp
  · simp

theorem ScrollOk.steppedVelocity {s : State} (ok : ScrollOk s.scroll) : (steppedVelocity s).natAbs ≤ 16384 := by
  have step := natAbs_velocityStep_le s.scroll.accel s.scroll.brake s.scroll.v (demandGiven s)
  have demand := natAbs_demandGiven_le s
  have vmax := ok.vmax
  obtain ⟨-, -, -, -, -, v, -⟩ := ok
  unfold Machine.steppedVelocity
  omega

/-- The cruise speed that cue actions leave (R69, R119). -/
theorem natAbs_foldl_cruiseAfter_le {vmax : Nat} (h : vmax ≤ 16384) (actions : List CueAction) {x : Int} (hx : x.natAbs ≤ 16384) :
    (actions.foldl (cruiseAfter vmax) x).natAbs ≤ 16384 := by
  refine List.foldlRecOn (motive := fun y : Int => y.natAbs ≤ 16384) actions _ hx fun y hy a _ => ?_
  cases a with
  | cruise speed => dsimp only [cruiseAfter]; omega
  | _ => exact hy

/-! ### Control hub -/

/-- The settings of a port in their ranges (R93). -/
def PortOk (x : Port) : Prop :=
  50 ≤ x.timeout ∧ x.timeout ≤ 1000 ∧ x.gain ≤ 128 ∧ x.dead ≤ 32 ∧ 1 ≤ x.step ∧ x.step ≤ 256

def HubOk (x : Hub) : Prop := x.releaseDelay ≤ 5000 ∧ ∀ n : Fin 6, PortOk x.ports[n]

theorem HubOk.modPort {x : Hub} (ok : HubOk x) (n : Fin 6) {f : Port → Port} (hf : ∀ y, PortOk y → PortOk (f y)) :
    HubOk { x with ports := upd x.ports n f } := by
  obtain ⟨delay, ports⟩ := ok
  refine ⟨delay, fun m => ?_⟩
  dsimp only
  rw [upd_get]
  split
  · exact hf _ (ports n)
  · exact ports m

/-! ### Cue unit -/

/-- An action list that CUE_DEFINE accepts: at most four actions, and no pulse of 0 steps or above 255 (R115, R116). -/
def ActionsOk (actions : List CueAction) : Prop :=
  actions.length ≤ 4 ∧ ∀ a ∈ actions, a.steps ≤ 255 ∧ ∀ l : Fin 8, a ≠ .pulse l 0

def CuesOk (x : CueUnit) : Prop := (∀ c : Fin 64, ActionsOk x.defs[c]) ∧ ∀ l : Fin 8, x.lines[l].pulse ≤ 2550

/-- A pulse that a cue action or its end leaves (R125, R126). -/
theorem pulse_lineAfter_le (l : Fin 8) {x : CueLine} (hx : x.pulse ≤ 2550) {a : CueAction} (ha : a.steps ≤ 255) :
    (lineAfter l x a).pulse ≤ 2550 := by
  cases a with
  | pulse k steps =>
    have steps : steps ≤ 255 := ha
    dsimp only [lineAfter]
    split
    · dsimp only
      omega
    · exact hx
  | set k => dsimp only [lineAfter]; split <;> exact hx
  | clear k =>
    dsimp only [lineAfter]
    split
    · exact Nat.zero_le _
    · exact hx
  | _ => exact hx

/-- The actions of a cue are among those that are defined (R115). -/
theorem CuesOk.cueActions {s : State} (ok : CuesOk s.cues) (cue : Nat) : ∀ a ∈ cueActions s cue, a.steps ≤ 255 := by
  intro a ha
  unfold Machine.cueActions at ha
  split at ha
  · next h => exact ((ok.1 ⟨cue - 1, by omega⟩).2 a ha).1
  · simp at ha

/-! ### Display heads -/

/-- A head's settings in their ranges, and, while it is not DISABLED, the columns in it (R47, R129 to R131, R138). -/
def HeadOk (l : Layout) (h : Head) : Prop :=
  h.geometry.inRange ∧ (-8388608 ≤ h.bias ∧ h.bias ≤ 8388607) ∧ (h.state ≠ .disabled → h.geometry.holdsRows l = true)

/-- What the ranges of a head are judged by. -/
def Head.settings (h : Head) : Geometry × Int × HeadState := (h.geometry, h.bias, h.state)

theorem HeadOk.of_settings {l : Layout} {a b : Head} (ok : HeadOk l a) (h : b.settings = a.settings) : HeadOk l b := by
  simp only [Head.settings, Prod.mk.injEq] at h
  obtain ⟨geometry, bias, state⟩ := h
  rwa [HeadOk, geometry, bias, state]

theorem HeadOk.withState {l : Layout} {a : Head} (ok : HeadOk l a) {new : HeadState}
    (h : new ≠ .disabled → a.state ≠ .disabled ∨ a.geometry.holdsRows l = true) : HeadOk l { a with state := new } := by
  obtain ⟨geometry, bias, holds⟩ := ok
  exact ⟨geometry, bias, fun on => (h on).elim holds id⟩

theorem HeadOk.withBias {l : Layout} {a : Head} (ok : HeadOk l a) {x : Int} (h : -8388608 ≤ x ∧ x ≤ 8388607) :
    HeadOk l { a with bias := x } := by
  obtain ⟨geometry, -, holds⟩ := ok
  exact ⟨geometry, h, holds⟩

/-- A bias that would leave its range becomes 0 (R138). -/
theorem HeadOk.addBias {l : Layout} {a : Head} (ok : HeadOk l a) (delta : Int) : HeadOk l (a.addBias delta) := by
  unfold Head.addBias Config.biasMin Config.biasMax
  split
  · exact HeadOk.withBias (a := a.clearBand) (ok.of_settings rfl) (by omega)
  · exact ok.withBias (by omega)

@[simp] theorem settings_takeAppearance (h : Head) : h.takeAppearance.settings = h.settings := by
  unfold Head.takeAppearance; split <;> rfl

theorem settings_disable (h : Head) : h.disable.settings = h.settings := settings_takeAppearance h.clearBand

theorem settings_offerAppearance (a : Appearance) (h : Head) : (h.offerAppearance a).settings = h.settings := by
  unfold Head.offerAppearance
  dsimp only
  split
  · exact settings_takeAppearance { h with pendingAppearance := some a }
  · rfl

theorem settings_takeBlock (blocks : Int × Int) (h : Head) (half : Fin 2) : (takeBlock blocks h half).settings = h.settings := by
  unfold takeBlock; split <;> rfl

theorem settings_sampleFrame (s : State) (h : Head) : (sampleFrame s h).settings = h.settings := by
  have rebuilt : ∀ x, (rebuildSets s x).settings = x.settings := fun x => by
    dsimp only [Head.settings, rebuildSets, emptyMismatched]
  rw [sampleFrame, rebuilt, settings_takeBlock, settings_takeBlock]
  rfl

end Sys2Proof.Machine
end

section
/-! The statements about every step are each of a predicate that holds on: `Closed` says once what such a predicate has to withstand, in
terms of the state's blocks and of the script's own operations; every operation of the engine is then made of these. -/

namespace Sys2Proof.Machine

/-- A mark's record without its armed state. -/
def MarkRecord.disarmed (m : MarkRecord) : MarkRecord := { m with armed := false }

/-- A predicate that holds on: under any change of the blocks that hold no script while the settings stay in their ranges and the
position in the script, under the armed states of the marks and the recomputation of the story states, and under the operations on the
script, the loads, the pending edits and the layout that the engine makes use of. -/
structure Closed (P : State → Prop) : Prop where
  outside : ∀ {s q l j r n}, P s → P { s with pending := q, link := l, job := j, resetHeld := r, fresh := n }
  scroll : ∀ {s} {x : Scroll}, P s → (s.scroll.p ≤ s.rows * 1024 → x.p ≤ s.rows * 1024) → (ScrollOk s.scroll → ScrollOk x) →
    P { s with scroll := x }
  hub : ∀ {s} {x : Hub}, P s → (HubOk s.hub → HubOk x) → P { s with hub := x }
  cues : ∀ {s} {x : CueUnit}, P s → (CuesOk s.cues → CuesOk x) → P { s with cues := x }
  heads : ∀ {s} {x : Vector Head 4}, P s → (∀ h : Fin 4, HeadOk s.layout s.heads[h] → HeadOk s.layout x[h]) →
    P { s with heads := x }
  lookahead : ∀ {s n}, P s → n ≤ 64 → P { s with edit := { s.edit with lookahead := n } }
  arming : ∀ {s} {f : MarkRecord → MarkRecord}, P s → (∀ m, (f m).disarmed = m.disarmed) →
    P (s.setMarks (s.layout.marks.map f))
  states : ∀ {s}, P s → P (recomputeStates s)
  openLoad : ∀ {s tag editTag mode story n placeKind place force slug}, P s →
    loadOpenRanges tag mode story n placeKind force = true → loadOpenFault tag mode story n place s = none →
      P (openLoad tag editTag mode story n place force slug s)
  idleLoad : ∀ {s tag}, P s → ∀ f : Nat → Nat, P (s.setLoads (mapLoad s.edit.loads tag fun l => { l with idle := f l.idle }))
  storeLine : ∀ {s tag text}, P s → P (s.setLoads (mapLoad s.edit.loads tag (storeLine text)))
  closeLoad : ∀ {s tag}, P s → P (closeLoad tag s)
  presentLoad : ∀ {s tag l force text}, P s → findLoad s tag = some l →
    P (present force (loadEdit (Machine.storeLine text l)) (Machine.closeLoad l.tag s)).1
  presentBare : ∀ {s force e}, P s → e.body.carriesChain = false → P (present force e s).1
  freeSlots : ∀ {s n}, P s → P (freeSlots n s)
  leavePending : ∀ {s r}, P s → r ∈ s.edit.pending → P (leavePending r s)
  settlePending : ∀ {s r}, P s → r ∈ s.edit.pending → P (settlePending r s)
  target : ∀ {s c}, P s → setColumnsFault c s = none → P { s with layout := { s.layout with target := some c } }
  install : ∀ {s c}, P s → s.layout.target = some c → P (installLayout c s)
  abandon : ∀ {s}, P s → P { s with layout := { s.layout with target := none } }
  clearShow : ∀ {s}, P s → P (clearShow s)
  fullReset : ∀ {cause rate s}, P (fullReset cause rate s)
  heldInReset : ∀ {s}, P (heldInReset s)

variable {P : State → Prop} (c : Closed P) {s : State} (h : P s)

namespace Closed
include c h

/-! ### Records, notices, replies and the frame source -/

theorem link {x : Link} : P { s with link := x } := c.outside h
theorem job {x : Option Job} : P { s with job := x } := c.outside h
theorem queue {x : List Instr} : P { s with pending := x } := c.outside h

/-- A change of the scroll controller outside its settings, its speeds and its position. -/
theorem quietScroll {x : Scroll} (hp : s.scroll.p ≤ s.rows * 1024 → x.p ≤ s.rows * 1024 := by exact id)
    (ok : ScrollOk s.scroll → ScrollOk x := by exact id) : P { s with scroll := x } := c.scroll h hp ok

/-- A change of the hub outside its settings. -/
theorem quietHub {x : Hub} (ok : HubOk s.hub → HubOk x := by exact id) : P { s with hub := x } := c.hub h ok

theorem modPort {n : Fin 6} {f : Port → Port} (hf : ∀ x, PortOk x → PortOk (f x) := by exact fun _ ok => ok) :
    P (s.modPort n f) :=
  c.hub h fun ok => ok.modPort n hf

theorem modHead {n : Fin 4} {f : Head → Head}
    (hf : HeadOk s.layout s.heads[n] → HeadOk s.layout (f s.heads[n]) := by exact fun ok => ok.of_settings rfl) :
    P (s.modHead n f) := by
  refine c.heads h fun m ok => ?_
  rw [upd_get]
  split
  · next same =>
    subst same
    exact hf ok
  · exact ok

theorem modLine {l : Fin 8} {f : CueLine → CueLine} (hf : ∀ x : CueLine, x.pulse ≤ 2550 → (f x).pulse ≤ 2550) :
    P (s.modLine l f) := by
  refine c.cues h fun ⟨defs, lines⟩ => ⟨defs, fun m => ?_⟩
  dsimp only
  rw [upd_get]
  split
  · exact hf _ (lines l)
  · exact lines m

theorem raise {n : Notice} : P (raise n s) := by
  rw [raise_frame]
  exact c.link h

theorem answer {code seq : Byte} {result : Result} {truncated badMark : Bool} {body : ReplyBody} :
    P (answer code seq result truncated badMark body s) := c.link h

theorem reply {code seq : Byte} {result : Result} {body : ReplyBody} : P (reply code seq result body s) := c.link h

theorem refuse {code seq : Byte} {r : Reason} : P (refuse code seq r s) := c.link h

theorem motionReply {code seq : Byte} {result : Result} : P (motionReply code seq result s) := c.link h

theorem pump : P (pump s) := by
  have frame : Machine.pump s = { s with link := (Machine.pump s).link } := by
    unfold Machine.pump
    (repeat' split) <;> rfl
  rw [frame]
  exact c.link h

theorem refreshSource : P (refreshSource s) := by
  unfold Machine.refreshSource
  split
  · exact h
  · exact c.quietScroll h

/-! ### Heads and render unit -/

/-- A head that leaves DISABLED holds the columns (R131). -/
theorem setHeadState {n : Fin 4} {new : HeadState}
    (holds : new ≠ .disabled → (s.heads[n]).state ≠ .disabled ∨ (s.heads[n]).geometry.holdsRows s.layout = true) :
    P (setHeadState n new s) :=
  c.refreshSource (c.raise (c.modHead h fun ok => ok.withState holds))

theorem clearDegraded {n : Fin 4} : P (clearDegraded n s) := by
  unfold Machine.clearDegraded
  split
  · exact c.raise (c.modHead h)
  · exact h

theorem enterDisabled {n : Fin 4} : P (enterDisabled n s) :=
  c.clearDegraded (c.setHeadState (c.modHead h fun ok => ok.of_settings (settings_disable _))
    fun on => absurd rfl on)

theorem beginJob {n : Fin 4} {slot : Fin 32} {r : Nat} : P (beginJob n slot r s) := by
  unfold Machine.beginJob
  split
  · exact c.job h
  · exact c.job (c.modHead h)

theorem arbiter {fuel : Nat} : P (arbiter fuel s) := by
  induction fuel generalizing s with
  | zero => exact c.job h
  | succ fuel ih =>
    have taken : ∀ {n half slot}, P (s.modHead n fun x => x.takeSlot half slot) :=
      c.modHead h
    unfold Machine.arbiter
    split
    · exact c.job h
    · split
      · exact c.job h
      · dsimp only
        split
        · exact ih taken
        · split
          · exact c.beginJob taken
          · exact ih taken

theorem chooseNext : P (chooseNext s) := c.arbiter h

/-- The rows that a head scans out (R143). -/
theorem noteFrame {n : Fin 4} {x : Option ScanFrame} : P (s.modHead n fun y => { y with frame := x }) :=
  c.modHead h

theorem judgeFrame {n : Fin 4} : P (judgeFrame n s) := by
  unfold Machine.judgeFrame
  dsimp only
  split
  · next starting =>
    split
    · refine c.setHeadState (c.noteFrame h) fun _ => .inl ?_
      rw [modHead_heads, upd_get_self, starting]
      simp
    · exact h
  · split
    · exact c.clearDegraded (c.noteFrame h)
    · split
      · exact c.noteFrame h
      · exact c.raise (c.modHead (c.noteFrame h))
  all_goals exact h

theorem syncFrame {n : Fin 4} : P (syncFrame n s) := by
  have synced : P (s.modHead n fun x => { x with syncLost := false, syncTimer := some 0 }) :=
    c.modHead h
  unfold Machine.syncFrame
  dsimp only
  split
  · exact c.refreshSource (c.raise synced)
  · exact synced

theorem giveFrame {n : Fin 4} : P (giveFrame n s) := by
  unfold Machine.giveFrame
  split
  · exact c.quietScroll h
  · exact h

theorem headFrame {n : Fin 4} : P (headFrame n s) := by
  have judged : P (Machine.judgeFrame n (s.modHead n (sampleFrame s))) :=
    c.judgeFrame (c.modHead h fun ok => ok.of_settings (settings_sampleFrame s _))
  unfold Machine.headFrame
  dsimp only
  (repeat' split)
  · exact h
  · exact c.chooseNext judged
  · exact judged

theorem frameStart {n : Fin 4} : P (frameStart n s) := by
  unfold Machine.frameStart
  split
  · exact h
  · refine c.headFrame (c.modHead (c.giveFrame (c.syncFrame h)) fun ok => ?_)
    exact ok.of_settings (settings_takeAppearance _)

theorem syncLoss {n : Fin 4} : P (syncLoss n s) := by
  have lost : P (s.modHead n fun x => { x with syncLost := true, syncTimer := none }) :=
    c.modHead h
  unfold Machine.syncLoss
  dsimp only
  (repeat' split)
  · exact h
  · exact lost
  · exact c.refreshSource (c.raise lost)

/-- A head that is on and gives up its requests goes into another state (R134, R135). -/
theorem changeHead {n : Fin 4} {new : HeadState} (on : (s.heads[n]).state ≠ .disabled) :
    P (Machine.clearDegraded n (Machine.setHeadState n new (s.modHead n Head.clearRequests))) := by
  refine c.clearDegraded (c.setHeadState (c.modHead h) fun _ => .inl ?_)
  rw [modHead_heads, upd_get_self]
  exact on

theorem stopHead {n : Fin 4} : P (stopHead n s) := by
  unfold Machine.stopHead
  split
  any_goals exact h
  all_goals
    next state =>
      split
      · exact c.changeHead h (by rw [state]; simp)
      · exact c.enterDisabled h

theorem renderComplete : P (renderComplete s) := by
  unfold Machine.renderComplete
  split
  · exact h
  · refine c.chooseNext ?_
    split
    · exact c.enterDisabled (c.job h)
    · exact c.job h
    all_goals
      split
      · exact c.modHead (c.job h)
      · exact c.job h

end Closed

end Sys2Proof.Machine
end

section
/-! A predicate that holds on, under the motion, the cues, the control hub and the passing of time. -/

namespace Sys2Proof.Machine

/-- The armed states are all that an advance changes of the mark list (R118, R122). -/
theorem disarmed_ite (p : Prop) [Decidable p] (armed : Bool) (m : MarkRecord) :
    (if p then { m with armed := armed } else m).disarmed = m.disarmed := by
  split <;> rfl

/-- A pause mark stops a frame no later than it would have gone (R78). -/
theorem pauseAt_le {s : State} {v : Int} {p p' : Nat} {m : MarkRecord} (h : pauseAt s v p p' = some m) : m.position ≤ p' := by
  unfold pauseAt at h
  split at h
  · obtain ⟨-, -, reached, -⟩ := mem_passed_pause_iff.mp ⟨List.mem_of_find?_eq_some h, List.find?_some h⟩
    exact reached
  · cases h

section
variable {P : State → Prop} (settle : ∀ {s r}, P s → r ∈ s.edit.pending → P (settlePending r s))
include settle

theorem releaseOne_keeps {acc : State × Bool} (h : P acc.1) (arrival : Nat) : P (releaseOne acc arrival).1 := by
  rcases releaseOne_eq acc arrival with same | ⟨r, hr, -, -, -, settled⟩
  · rwa [same]
  · rw [settled]
    exact settle h hr

theorem releasePass_keeps {s : State} (h : P s) : P (releasePass s).1 :=
  List.foldlRecOn (motive := fun acc : State × Bool => P acc.1) _ _ h fun _ hacc a _ => releaseOne_keeps settle hacc a

theorem releaseLoop_keeps (fuel : Nat) {s : State} (h : P s) : P (releaseLoop fuel s) := by
  induction fuel generalizing s with
  | zero => exact h
  | succ fuel ih =>
    unfold releaseLoop
    dsimp only
    split
    · exact ih (releasePass_keeps settle h)
    · exact releasePass_keeps settle h

/-- What settling one pending edit keeps, a release keeps (R39). -/
theorem release_keeps {s : State} (h : P s) : P (release s) := by
  unfold release
  split
  · exact h
  · exact releaseLoop_keeps settle _ h

end

variable {P : State → Prop} (c : Closed P) {s : State} (h : P s)

namespace Closed
include c h

omit c h in
/-- Steps that each keep the predicate keep it together. -/
theorem foldl {α : Type} {f : State → α → State} (hf : ∀ {s a}, P s → P (f s a)) (l : List α) {s : State} (h : P s) :
    P (l.foldl f s) :=
  List.foldlRecOn (motive := P) l f h fun _ hs _ _ => hf hs

/-! ### Scroll controller and cue unit -/

theorem setScrollState {new : ScrollState} {cause : ScrollCause} : P (setScrollState new cause s) := by
  unfold Machine.setScrollState
  split
  · exact h
  · exact c.raise (c.quietScroll h)

theorem setCruise {x : Int} : P (setCruise x s) :=
  c.scroll h id fun ok => ok.withCruise ((natAbs_clampInt_le (by omega) (by omega)).trans ok.vmax)

/-- A frame's motion: its position is held in the script, its velocity at most 16,384 (R76 to R78). -/
theorem moveFrame : P (moveFrame s) := by
  have held : heldPosition s ≤ s.rows * 1024 := by
    unfold heldPosition
    omega
  obtain ⟨scroll, cause, moved, ⟨-, rfl, -⟩ | ⟨m, hm, rfl, -⟩⟩ := moveFrame_eq s
  · have motion := c.scroll (x := unpausedMotion s) h (fun _ => held) fun ok => by
      have step := ok.steppedVelocity
      refine ok.withVelocity (y := if PastEnd s then 0 else steppedVelocity s) ?_
      split
      · exact Nat.zero_le _
      · exact step
    rw [moved]
    exact c.link motion
  · have motion := c.scroll (x := pausedMotion s m) h (fun _ => (pauseAt_le hm).trans held) fun ok =>
      ok.withVelocity (y := 0) (Nat.zero_le _)
    rw [moved]
    exact c.link motion

theorem takeAdvance {p p' : Nat} : P (takeAdvance p p' s) := by
  obtain ⟨t, fired, advanced⟩ := takeAdvance_eq p p' s
  have marks := fired.marks
  rw [foldl_disarm] at marks
  have disarmed := c.arming h fun m => disarmed_ite (m.key ∈ (firedMarks s p p').map MarkRecord.key) false m
  have cued := c.cues (x := { s.cues with lines := t.cues.lines }) disarmed fun ok => ⟨ok.1, fun l => by
    rw [fired.lines]
    refine List.foldlRecOn (motive := fun x : CueLine => x.pulse ≤ 2550) _ _ (ok.2 l) fun x hx a ha => ?_
    obtain ⟨m, -, ha⟩ := List.mem_flatMap.mp ha
    exact pulse_lineAfter_le l hx (ok.cueActions m.cue a ha)⟩
  have cruised := c.scroll (x := { s.scroll with cruise := t.scroll.cruise }) cued id fun ok => by
    rw [fired.cruise]
    exact ok.withCruise (natAbs_foldl_cruiseAfter_le ok.vmax _ ok.2.2.2.2.2.2)
  have linked := c.link (x := t.link) cruised
  have t_eq : P t := by
    rw [fired.frame, marks]
    exact linked
  rw [advanced]
  exact c.arming t_eq fun m => disarmed_ite _ true m

theorem countFrame : P (countFrame s) := by
  rw [countFrame_frame]
  exact c.link h

theorem internalExpiry {n : Nat} : P (internalExpiry n s) := by
  unfold Machine.internalExpiry
  split
  · exact c.quietScroll h
  · exact h

theorem jumpTo {row : Int} : P (jumpTo row s) := by
  have moved : P { s with scroll := { s.scroll with p := (clampInt 0 s.rows row).toNat * Config.fine } } := by
    refine c.scroll h (fun _ => ?_) id
    dsimp only [clampInt, Config.fine]
    exact Nat.mul_le_mul_right _ (by omega)
  refine c.states (c.arming moved fun m => ?_)
  rw [jumpArming_eq]
  rfl

theorem keyJump {row : Nat} : P (keyJump row s) := by
  unfold Machine.keyJump
  split
  · exact h
  · exact c.jumpTo h

theorem release : P (release s) := release_keeps c.settlePending h

theorem takeFrame : P (takeFrame s) := by
  have counted : P { s with scroll := { s.scroll with framesOwed := s.scroll.framesOwed - 1 } } := c.quietScroll h
  exact c.countFrame (c.release (c.states (c.takeAdvance (c.moveFrame counted))))

theorem reflowComplete : P (reflowComplete s) := by
  unfold Machine.reflowComplete
  split
  · exact h
  · next target =>
    dsimp only
    split
    · exact c.release (c.raise (c.install h target))
    · exact c.release (c.raise (c.abandon h))

/-! ### Control hub -/

theorem setHolder {new : Option Holder} {timer : Option Nat} {cause : AuthorityCause} : P (setHolder new timer cause s) :=
  c.raise (c.quietHub h)

theorem setReleaseTimer {t : Option Nat} : P (s.setReleaseTimer t) := c.quietHub h

theorem restHolder : P (restHolder s) := by
  unfold Machine.restHolder
  split
  · exact c.modPort h
  · exact h

theorem endHold {cause : AuthorityCause} : P (endHold cause s) := by
  unfold Machine.endHold
  split
  · exact c.setHolder (c.restHolder h)
  · exact h

theorem endLeverHold : P (endLeverHold s) := by
  unfold Machine.endLeverHold
  split
  · exact c.endHold h
  · exact h

theorem stopLost : P (stopLost s) := by
  unfold Machine.stopLost
  split
  · exact c.setScrollState h
  · exact h

theorem loseControl {n : Fin 6} : P (loseControl n s) := by
  unfold Machine.loseControl
  split
  · exact c.stopLost (c.setHolder h)
  · exact h

theorem contend {n : Fin 6} : P (contend n s) := by
  unfold Machine.contend
  (repeat' split)
  · exact h
  · exact h
  · exact c.raise (c.modPort h)

theorem goStale {n : Fin 6} : P (goStale n s) := c.loseControl (c.raise (c.modPort h))
theorem goLive {n : Fin 6} {kind : ControllerKind} : P (goLive n kind s) := c.raise (c.modPort h)
theorem portOff {n : Fin 6} : P (portOff n s) := c.loseControl (c.raise (c.modPort h))
theorem portOn {n : Fin 6} : P (portOn n s) := c.raise (c.modPort h)

theorem portCruise {n : Fin 6} {x : Int} : P (portCruise n x s) := by
  refine c.scroll h id fun ok => ok.withCruise ((natAbs_clampInt_le ?_ ?_).trans ok.vmax)
  all_goals
    unfold cruiseFloor
    split <;> omega

theorem trimCruise {n : Fin 6} {delta : Int} : P (trimCruise n delta s) := by
  unfold Machine.trimCruise
  dsimp only
  split
  · exact c.portCruise (c.portCruise h)
  · exact c.portCruise h

theorem stopScroll {cause : ScrollCause} : P (stopScroll cause s) := by
  unfold Machine.stopScroll
  dsimp only
  split
  · exact c.endHold h
  · exact c.setScrollState (c.endHold h)

theorem resumeKey {n : Fin 6} : P (resumeKey n s) := by
  unfold Machine.resumeKey
  split
  · exact c.setScrollState h
  · exact c.setScrollState h
  · exact c.setScrollState (c.endLeverHold h)
  · exact h
  · exact h

theorem speedKey {n : Fin 6} {delta : Int} : P (speedKey n delta s) := by
  have trimmed : P (Machine.trimCruise n delta s) := c.trimCruise h
  unfold Machine.speedKey
  dsimp only
  split
  · exact trimmed
  · exact c.setScrollState (c.endLeverHold trimmed)
  all_goals exact c.setScrollState trimmed

theorem wheelDetents {n : Fin 6} {count : Int} : P (wheelDetents n count s) := by
  unfold Machine.wheelDetents
  dsimp only
  split
  · exact c.trimCruise h
  · exact c.setScrollState (c.trimCruise h)

theorem runKey {n : Fin 6} {k : ActionKey} : P (runKey n k s) := by
  cases k with
  | stop => exact c.stopScroll h
  | resume => exact c.resumeKey h
  | faster => exact c.speedKey h
  | slower => exact c.speedKey h
  | next => exact c.keyJump h
  | prev => exact c.keyJump h
  | top => exact c.keyJump h

theorem judgeKey {n : Fin 6} {pressed : KeySet} {k : ActionKey} : P (judgeKey n pressed s k) := by
  unfold Machine.judgeKey
  (repeat' split)
  · exact c.runKey h
  · exact c.contend h
  · exact h

theorem runKeys {n : Fin 6} {pressed : KeySet} : P (runKeys n pressed s) := by
  have judged : P (actionKeys.foldl (Machine.judgeKey n pressed) s) :=
    foldl (P := P) (fun hs => c.judgeKey hs) _ h
  unfold Machine.runKeys markKey
  split
  · exact c.raise judged
  · exact judged

theorem releaseHold : P (releaseHold s) := by
  unfold Machine.releaseHold
  split
  · exact h
  · dsimp only
    split
    · exact c.setScrollState (c.setHolder h)
    · exact c.setHolder h

theorem holderTiming {n : Fin 6} {rest : Bool} : P (holderTiming n rest s) := by
  unfold Machine.holderTiming
  (repeat' split)
  · exact h
  · exact h
  · exact c.releaseHold h
  · exact c.setReleaseTimer h
  · exact h
  · exact c.setReleaseTimer h

theorem leverRequest {n : Fin 6} {kind : ControllerKind} {m : Nat} : P (leverRequest n kind m s) := by
  unfold Machine.leverRequest leverTakes
  dsimp only
  (repeat' split)
  · exact c.setHolder (c.restHolder h)
  · exact c.setScrollState (c.setHolder (c.restHolder h))
  · exact c.contend h
  · exact h

theorem wheelRequest {n : Fin 6} {count : Int} : P (wheelRequest n count s) := by
  unfold Machine.wheelRequest
  dsimp only
  split
  · exact h
  · split
    · refine c.wheelDetents ?_
      split
      · exact c.setReleaseTimer h
      · exact c.setHolder (c.restHolder h)
    · exact c.contend h

theorem makeRequest {n : Fin 6} {kind : ControllerKind} {value : PortValue} : P (makeRequest n kind value s) := by
  cases value with
  | none => exact h
  | deflection negative m => exact c.leverRequest h
  | detents count => exact c.wheelRequest h

theorem enterReport {n : Fin 6} {kind : ControllerKind} : P (enterReport n kind s).1 := by
  have found : P (if (s.hub.ports[n]).state = .live ∧ (s.hub.ports[n]).kind ≠ some kind then Machine.goStale n s else s) := by
    split
    · exact c.goStale h
    · exact h
  unfold Machine.enterReport
  dsimp only
  generalize (if (s.hub.ports[n]).state = .live ∧ (s.hub.ports[n]).kind ≠ some kind then Machine.goStale n s else s) = t at found ⊢
  split
  · exact c.modPort found
  · exact c.modPort (c.goLive found)

theorem takeReport {n : Fin 6} {r : ControlReport} {first : Bool} : P (takeReport n r first s) := by
  unfold Machine.takeReport
  dsimp only
  generalize atRest r.kind _ _ _ = rest
  refine c.modPort ?_
  have noted : P (s.modPort n fun x =>
      { x with value := decodeValue r (s.hub.ports[n]).reverse, kind := some r.kind }) := c.modPort h
  have rested : ∀ {t}, P t → P (if rest = true then t.modPort n fun x => { x with mustRest := false, refused := false } else t) := by
    intro t ht
    split
    · exact c.modPort ht
    · exact ht
  cases first with
  | true => exact c.holderTiming (rested noted)
  | false => exact c.makeRequest (c.holderTiming (c.runKeys (rested noted)))

theorem validReport {n : Fin 6} {r : ControlReport} : P (validReport n r s) := by
  unfold Machine.validReport
  split
  · exact h
  · exact c.takeReport (c.enterReport h)

theorem receivePortByte {n : Fin 6} {b : Byte} : P (receivePortByte n s b) := by
  have noted : P (s.modPort n fun x => { x with receiver := (portByte (s.hub.ports[n]).receiver b).1 }) :=
    c.modPort h
  unfold Machine.receivePortByte
  dsimp only
  split
  · exact c.validReport noted
  · exact noted

theorem reportTimeout {n : Fin 6} : P (reportTimeout n s) := by
  unfold Machine.reportTimeout
  split
  · exact c.goStale h
  · exact h

theorem releaseExpiry : P (releaseExpiry s) := by
  unfold Machine.releaseExpiry
  split
  · exact c.releaseHold h
  · exact h

theorem setEnabled {n : Fin 6} {enabled : Bool} : P (setEnabled n enabled s) := by
  unfold Machine.setEnabled
  (repeat' split)
  · exact c.portOn h
  · exact h
  · exact h
  · exact c.portOff h

/-! ### Loads and time -/

theorem abortLoad {l : Load} : P (abortLoad l s) := c.freeSlots (c.closeLoad h)

theorem loadIdleExpiry {tag : Nat} : P (loadIdleExpiry tag s) := by
  unfold Machine.loadIdleExpiry
  split
  · exact h
  · exact c.raise (c.abortLoad h)

theorem tickLoad {tag : Nat} : P (tickLoad s tag) := by
  unfold Machine.tickLoad
  (repeat' split)
  · exact h
  · exact c.loadIdleExpiry h
  · exact c.idleLoad h (· + 1)

theorem tickPort {n : Fin 6} : P (tickPort s n) := by
  have ticked : P (s.modPort n fun x => { x with receiver := tickReceiver x.receiver }) := c.modPort h
  unfold Machine.tickPort
  dsimp only
  split
  · exact c.reportTimeout ticked
  · exact c.modPort ticked

theorem tickRelease : P (tickRelease s) := by
  unfold Machine.tickRelease
  split
  · exact c.releaseExpiry h
  · exact c.setReleaseTimer h

theorem tickHead {n : Fin 4} : P (tickHead s n) := by
  unfold Machine.tickHead
  split
  · exact c.syncLoss h
  · exact c.modHead h

theorem tickFrameTimer : P (tickFrameTimer s) := by
  unfold Machine.tickFrameTimer
  (repeat' split)
  · exact c.internalExpiry h
  · exact c.quietScroll h
  · exact h

theorem tickLine : P { s with cues := { s.cues with lines := updAll s.cues.lines CueLine.tick } } := by
  refine c.cues h fun ok => ⟨ok.1, fun l => ?_⟩
  dsimp only
  rw [updAll_get]
  exact (Nat.sub_le _ 1).trans (ok.2 l)

theorem tickMs : P (tickMs s) := by
  unfold Machine.tickMs
  extract_lets _ s1 s2 s3 s4 s5 s6
  have h1 : P s1 := c.link h
  have h2 : P s2 := foldl (P := P) (fun hs => c.tickPort hs) _ h1
  have h3 : P s3 := c.tickRelease h2
  have h4 : P s4 := foldl (P := P) (fun hs => c.tickLoad hs) _ h3
  have h5 : P s5 := c.tickFrameTimer h4
  have h6 : P s6 := foldl (P := P) (fun hs => c.tickHead hs) _ h5
  exact c.tickLine h6

/-- The idle step (log 2). -/
theorem tick : P (tick s) := by
  unfold Machine.tick
  (repeat' split)
  · exact h
  · exact c.pump (c.takeFrame h)
  · exact c.pump (c.tickMs h)

end Closed

end Sys2Proof.Machine
end

section
/-! A predicate that holds on, under every command, the link and every step. -/

namespace Sys2Proof.Machine

theorem pulse_lineOperation_le {operation ms : Nat} (hms : ms ≤ 2550) {x : CueLine} (hx : x.pulse ≤ 2550) :
    (lineOperation operation ms x).pulse ≤ 2550 := by
  unfold lineOperation
  split
  · exact hx
  · exact Nat.zero_le _
  · exact hms

/-- OUTPUT_SET pulses a line for at most 2,550 ms (R127). -/
theorem pulse_operateLines_le (mask : Byte) (operation : Nat) {ms : Nat} (hms : ms ≤ 2550) {lines : Vector CueLine 8}
    (h : ∀ l : Fin 8, (lines[l]).pulse ≤ 2550) (l : Fin 8) : ((operateLines mask operation ms lines)[l]).pulse ≤ 2550 := by
  unfold operateLines
  refine List.foldlRecOn (motive := fun v : Vector CueLine 8 => ∀ l : Fin 8, (v[l]).pulse ≤ 2550) _ _ h (fun v hv i _ m => ?_) l
  split
  · rw [upd_get]
    split
    · exact pulse_lineOperation_le hms (hv i)
    · exact hv m
  · exact hv m

/-- The actions that CUE_DEFINE accepts are well formed (R115, R116). -/
theorem steps_of_actionOf {f : ActionField} {a : CueAction} (h : actionOf f = some a) :
    a.steps ≤ 255 ∧ ∀ l : Fin 8, a ≠ .pulse l 0 := by
  unfold actionOf at h
  dsimp only at h
  split at h
  case h_1 | h_2 =>
    cases h
    exact ⟨Nat.zero_le _, nofun⟩
  case h_3 =>
    split_ifs at h with ok
    cases h
    rw [Bool.and_eq_true, inRange_iff] at ok
    obtain ⟨-, low, high⟩ := ok
    refine ⟨high, fun l pulse => ?_⟩
    have none : f.value.toNat = 0 := congrArg CueAction.steps pulse
    omega
  case h_4 | h_5 =>
    split_ifs at h
    cases h
    exact ⟨Nat.zero_le _, nofun⟩
  case h_6 => cases h

theorem actionsOk_of_actionsOf {fields : List ActionField} (few : fields.length ≤ 4) {actions : List CueAction}
    (h : actionsOf fields = some actions) : ActionsOk actions := by
  suffices all : actions.length = fields.length ∧ ∀ a ∈ actions, a.steps ≤ 255 ∧ ∀ l : Fin 8, a ≠ .pulse l 0 from
    ⟨all.1.trans_le few, all.2⟩
  clear few
  induction fields generalizing actions with
  | nil =>
    cases h
    simp
  | cons f rest ih =>
    unfold actionsOf at h
    split at h
    · next x xs hx hxs =>
      cases h
      obtain ⟨length, ok⟩ := ih hxs
      exact ⟨congrArg (· + 1) length, List.forall_mem_cons.mpr ⟨steps_of_actionOf hx, ok⟩⟩
    · cases h

/-- A geometry that HEAD_CONFIG accepts is in its ranges and holds the columns (R129, R130). -/
theorem headOk_of_headConfig {width height : Word16} {scale leading : Byte} {margin : Word16} {readingRow rate : Byte} {g : Geometry}
    (hg : geometryOf width height scale leading margin readingRow rate = some g) {n : Fin 4} {s : State}
    (hf : headConfigFault n g s = none) (ok : HeadOk s.layout s.heads[n]) : HeadOk s.layout { s.heads[n] with geometry := g } := by
  unfold headConfigFault at hf
  split_ifs at hf with _ rows reading holds
  rw [Bool.not_eq_true, Bool.not_eq_false', inRange_iff] at rows
  rw [Bool.not_eq_true, Bool.not_eq_false'] at holds
  obtain ⟨-, bias, -⟩ := ok
  refine ⟨?_, bias, fun _ => holds⟩
  unfold geometryOf at hg
  split at hg
  · cases hg
  · split_ifs at hg with ranges
    cases hg
    simp only [Bool.and_eq_true, inRange_iff, decide_eq_true_eq] at ranges
    obtain ⟨⟨⟨⟨⟨⟨w, wide⟩, tall⟩, scaled⟩, lead⟩, edge⟩, even⟩ := ranges
    exact ⟨⟨w.1, w.2, wide⟩, tall, scaled, lead.2, ⟨edge.2, even⟩, rows, Nat.not_le.mp reading⟩

variable {P : State → Prop} (c : Closed P) {s : State} (h : P s)

namespace Closed
include c h

/-! ### Settings -/

theorem cmdSetColumns {seq columns : Byte} : P (cmdSetColumns seq columns s) := by
  unfold Machine.cmdSetColumns
  split
  · exact c.refuse h
  · next fault =>
    dsimp only
    split
    · exact c.raise (c.reply h)
    · exact c.link (c.target h fault)

theorem cmdSetMotion {seq : Byte} {vmax a b delay : Word16} {priority : Byte} {k : Word16} {p : Byte} :
    P (cmdSetMotion seq vmax a b delay priority k p s) := by
  unfold Machine.cmdSetMotion
  split
  · next ranges =>
    simp only [Bool.and_eq_true, inRange_iff] at ranges
    obtain ⟨⟨⟨⟨⟨⟨hv, ha⟩, hb⟩, hd⟩, -⟩, hk⟩, hp⟩ := ranges
    have scroll := c.scroll
      (x := { s.scroll with vmax := vmax.toNat, accel := a.toNat, brake := b.toNat, keyStep := k.toNat }) h id
      fun ⟨_, _, _, _, rest⟩ => ⟨hv, ha, hb, hk, rest⟩
    have hub := c.hub
      (x := { s.hub with
        releaseDelay := delay.toNat, priority := if priority = 0 then .operatorFirst else .presenterFirst }) scroll
      fun ok => ⟨hd.2, ok.2⟩
    exact c.reply (c.lookahead hub hp.2)
  · exact c.refuse h

theorem cmdSetCurve {seq : Byte} {points : Vector Word16 9} : P (cmdSetCurve seq points s) := by
  unfold Machine.cmdSetCurve
  dsimp only
  split
  · exact c.refuse h
  · next low =>
    split
    · next ordered =>
      have top : (updAll points BitVec.toNat)[8] ≤ 16384 := by
        by_contra high
        refine low (List.any_eq_true.mpr ⟨_, ?_, decide_eq_true (Nat.not_le.mp high)⟩)
        exact Vector.mem_toList_iff.mpr (Vector.getElem_mem _)
      exact c.reply (c.scroll (x := { s.scroll with curve := updAll points BitVec.toNat }) h id
        fun ⟨vmax, accel, brake, keyStep, _, speeds⟩ => ⟨vmax, accel, brake, keyStep, ⟨ordered, top⟩, speeds⟩)
    · exact c.refuse h

theorem cmdSetPort {seq port enabled role : Byte} {timeout : Word16} {gain dead reverse : Byte} {step : Word16} :
    P (cmdSetPort seq port enabled role timeout gain dead reverse step s) := by
  unfold Machine.cmdSetPort
  split
  · next ranges =>
    simp only [portRanges, Bool.and_eq_true, inRange_iff] at ranges
    obtain ⟨⟨⟨⟨⟨-, time⟩, hgain⟩, hdead⟩, -⟩, hstep⟩ := ranges
    refine c.reply (c.setEnabled (c.quietHub (c.modPort h ?_)))
    exact fun _ _ => ⟨time.1, time.2, hgain.2, hdead.2, hstep⟩
  · exact c.refuse h

theorem cmdSetFrameSource {seq source rate : Byte} : P (cmdSetFrameSource seq source rate s) := by
  unfold Machine.cmdSetFrameSource
  split
  · exact c.refuse h
  · exact c.reply (c.refreshSource (c.quietScroll h))

theorem cmdCueDefine {seq cue : Byte} {fields : List ActionField} : P (cmdCueDefine seq cue fields s) := by
  unfold Machine.cmdCueDefine
  split
  · next ranges =>
    split
    · next actions defined =>
      rw [Bool.and_eq_true, decide_eq_true_eq] at ranges
      refine c.reply (c.cues (x := { s.cues with
        defs := upd s.cues.defs (Fin.ofNat 64 (cue.toNat - 1)) fun _ => actions }) h fun ok => ⟨fun i => ?_, ok.2⟩)
      dsimp only
      rw [upd_get]
      split
      · exact actionsOk_of_actionsOf ranges.2 defined
      · exact ok.1 i
    · exact c.refuse h
  · exact c.refuse h

theorem cmdOutputSet {seq mask operation duration : Byte} : P (cmdOutputSet seq mask operation duration s) := by
  unfold Machine.cmdOutputSet
  split
  · exact c.refuse h
  · have ms : duration.toNat * 10 ≤ 2550 := by
      have := duration.isLt
      omega
    exact c.reply (c.cues (x := { s.cues with lines := operateLines mask operation.toNat (duration.toNat * 10) s.cues.lines }) h
      fun ok => ⟨ok.1, pulse_operateLines_le mask _ ms ok.2⟩)

theorem cmdCueRead {seq cue : Byte} : P (cmdCueRead seq cue s) := by
  unfold Machine.cmdCueRead
  split
  · exact c.outside (c.reply h)
  · exact c.refuse h

/-! ### Scroll commands and reading commands -/

theorem cmdScrollResume {seq : Byte} : P (cmdScrollResume seq s) := by
  unfold Machine.cmdScrollResume resumeScroll
  (repeat' split)
  · exact c.motionReply h
  · exact c.motionReply (c.setScrollState h)
  · exact c.motionReply h

theorem cmdScrollSpeed {seq : Byte} {speed : Word16} : P (cmdScrollSpeed seq speed s) := by
  unfold Machine.cmdScrollSpeed cruiseAt
  (repeat' split)
  · exact c.motionReply h
  · exact c.motionReply (c.setCruise h)
  · exact c.motionReply (c.setScrollState (c.setCruise h))

theorem cmdJump {seq kind : Byte} {story line rows : Word16} : P (cmdJump seq kind story line rows s) := by
  unfold Machine.cmdJump
  (repeat' split)
  · exact c.motionReply h
  · exact c.motionReply h
  · exact c.motionReply h
  · exact c.motionReply (c.jumpTo h)

theorem cmdReadStory {seq : Byte} {story : Word16} : P (cmdReadStory seq story s) := by
  unfold Machine.cmdReadStory
  split
  · exact c.refuse h
  · exact c.reply h

/-! ### Head commands -/

theorem cmdHeadConfig {seq head : Byte} {width height : Word16} {scale leading : Byte} {margin : Word16} {readingRow rate : Byte} :
    P (cmdHeadConfig seq head width height scale leading margin readingRow rate s) := by
  unfold Machine.cmdHeadConfig
  split
  · next hg =>
    split
    · exact c.refuse h
    · next fault => exact c.reply (c.refreshSource (c.modHead h fun ok => headOk_of_headConfig hg fault ok))
  · exact c.refuse h

theorem cmdHeadStart {seq head : Byte} : P (cmdHeadStart seq head s) := by
  unfold Machine.cmdHeadStart
  split
  · exact c.refuse h
  · next n _ =>
    split
    · exact c.refuse h
    · split
      · exact c.refuse h
      · next holds =>
        have prepared : P (s.modHead n Head.prepare) :=
          c.modHead h fun ok => HeadOk.withBias (a := { s.heads[n].prepare with bias := (s.heads[n]).bias }) (ok.of_settings rfl)
            (by omega)
        refine c.reply (c.setHeadState prepared fun _ => .inr ?_)
        rw [modHead_heads, upd_get_self]
        rw [Bool.not_eq_true, Bool.not_eq_false'] at holds
        exact holds

theorem cmdHeadStop {seq head : Byte} : P (cmdHeadStop seq head s) := by
  unfold Machine.cmdHeadStop
  split
  · exact c.refuse h
  · exact c.reply (c.stopHead h)

theorem cmdHeadBlank {seq head : Byte} : P (cmdHeadBlank seq head s) := by
  unfold Machine.cmdHeadBlank
  split
  · exact c.refuse h
  · next n _ =>
    split
    · next on =>
      refine c.reply (c.changeHead h fun off => ?_)
      rcases on with on | on <;> cases on.symm.trans off
    · exact c.refuse h

theorem cmdHeadUnblank {seq head : Byte} : P (cmdHeadUnblank seq head s) := by
  unfold Machine.cmdHeadUnblank
  split
  · exact c.refuse h
  · split
    · next blanked => exact c.reply (c.setHeadState h fun _ => .inl (by rw [blanked]; simp))
    · exact c.reply h
    · exact c.reply h
    · exact c.refuse h
    · exact c.refuse h

theorem cmdHeadAppearance {seq head : Byte} {f : AppearanceFields} : P (cmdHeadAppearance seq head f s) := by
  unfold Machine.cmdHeadAppearance
  split
  · exact c.reply (c.modHead h fun ok => ok.of_settings (settings_offerAppearance _ _))
  · exact c.refuse h

theorem cmdHeadRead {seq head : Byte} : P (cmdHeadRead seq head s) := by
  unfold Machine.cmdHeadRead
  split
  · exact c.refuse h
  · exact c.reply h

/-! ### Loads and edits -/

theorem cmdLoadOpen {seq tag : Byte} {editTag : Word16} {mode : Byte} {story n : Word16} {placeKind : Byte} {placeId : Word16}
    {force : Byte} {slug : List Byte} : P (cmdLoadOpen seq tag editTag mode story n placeKind placeId force slug s) := by
  unfold Machine.cmdLoadOpen
  split
  · next ranges =>
    dsimp only
    split
    · exact c.refuse h
    · next fault => exact c.answer (c.openLoad h ranges fault)
  · exact c.refuse h

theorem cmdLoadLine {seq tag : Byte} {text : List Byte} : P (cmdLoadLine seq tag text s) := by
  unfold Machine.cmdLoadLine
  dsimp only
  (repeat' split)
  · exact c.refuse h
  · exact c.refuse (c.abortLoad h)
  · exact c.answer (c.abortLoad h)
  · exact c.answer (c.storeLine h)

omit h in
theorem presentedReply {r : State × Presented} (h : P r.1) {code seq : Byte} {truncated badMark : Bool} {e : Edit}
    {okBody : State → ReplyBody} : P (presentedReply code seq truncated badMark e okBody r) := by
  unfold Machine.presentedReply
  split <;> exact c.answer h

theorem cmdLoadLast {seq tag : Byte} {text : List Byte} : P (cmdLoadLast seq tag text s) := by
  unfold Machine.cmdLoadLast
  split
  · exact c.refuse h
  · next l found =>
    dsimp only
    (repeat' split)
    · exact c.refuse (c.idleLoad h fun _ => 0)
    · exact c.refuse (c.abortLoad h)
    · exact c.answer (c.abortLoad h)
    · exact c.answer (c.abortLoad h)
    · unfold resolveLoad
      dsimp only
      split
      · exact c.answer (c.freeSlots (c.closeLoad h))
      · exact c.presentedReply (c.presentLoad h found)

theorem cmdLoadCancel {seq tag : Byte} : P (cmdLoadCancel seq tag s) := by
  unfold Machine.cmdLoadCancel
  split
  · exact c.refuse h
  · exact c.reply (c.abortLoad h)

theorem cmdStoryDelete {seq : Byte} {editTag story : Word16} {force : Byte} : P (cmdStoryDelete seq editTag story force s) := by
  unfold Machine.cmdStoryDelete
  split
  · exact c.refuse h
  · exact c.presentedReply (c.presentBare h rfl)

theorem cmdStoryMove {seq : Byte} {editTag story : Word16} {placeKind : Byte} {placeId : Word16} {force : Byte} :
    P (cmdStoryMove seq editTag story placeKind placeId force s) := by
  unfold Machine.cmdStoryMove
  dsimp only
  (repeat' split)
  · exact c.refuse h
  · exact c.presentedReply (c.presentBare h rfl)
  · exact c.refuse h

theorem cmdStorySkip {seq : Byte} {editTag story : Word16} {request force : Byte} :
    P (cmdStorySkip seq editTag story request force s) := by
  unfold Machine.cmdStorySkip
  split
  · exact c.refuse h
  · have bare : (if request = 0 then EditBody.skip else .unskip).carriesChain = false := by split <;> rfl
    generalize (if request = 0 then EditBody.skip else .unskip) = body at bare ⊢
    dsimp only
    split
    · exact c.refuse h
    · exact c.presentedReply (c.presentBare h bare)

theorem cmdEditCancel {seq : Byte} {editTag : Word16} : P (cmdEditCancel seq editTag s) := by
  unfold Machine.cmdEditCancel
  split
  · exact c.refuse h
  · next found => exact c.reply (c.freeSlots (c.leavePending h (List.mem_of_find?_eq_some found)))

/-! ### The interpreter and the command link -/

/-- A command that is carried out (R161). -/
theorem runCommand {i : Instr} : P (runCommand i s) := by
  cases i
  case identify => exact c.reply h
  case status => exact c.link h
  case restart => exact c.link h
  case clearShow => exact c.reply (c.clearShow h)
  case unknownCommand => exact c.refuse h
  case setColumns => exact c.cmdSetColumns h
  case setMotion => exact c.cmdSetMotion h
  case setCurve => exact c.cmdSetCurve h
  case setPort => exact c.cmdSetPort h
  case setFrameSource => exact c.cmdSetFrameSource h
  case setReporting => exact c.link h
  case loadOpen => exact c.cmdLoadOpen h
  case loadLine => exact c.cmdLoadLine h
  case loadLast => exact c.cmdLoadLast h
  case loadCancel => exact c.cmdLoadCancel h
  case storyDelete => exact c.cmdStoryDelete h
  case storyMove => exact c.cmdStoryMove h
  case storySkip => exact c.cmdStorySkip h
  case editCancel => exact c.cmdEditCancel h
  case readStory => exact c.cmdReadStory h
  case readRundown => exact c.reply h
  case scrollStop => exact c.motionReply (c.stopScroll h)
  case scrollResume => exact c.cmdScrollResume h
  case scrollSpeed => exact c.cmdScrollSpeed h
  case jump => exact c.cmdJump h
  case readPosition => exact c.reply h
  case cueDefine => exact c.cmdCueDefine h
  case cueRead => exact c.cmdCueRead h
  case outputSet => exact c.cmdOutputSet h
  case headConfig => exact c.cmdHeadConfig h
  case headStart => exact c.cmdHeadStart h
  case headStop => exact c.cmdHeadStop h
  case headBlank => exact c.cmdHeadBlank h
  case headUnblank => exact c.cmdHeadUnblank h
  case headAppearance => exact c.cmdHeadAppearance h
  case headRead => exact c.cmdHeadRead h
  all_goals exact h

theorem interpret {payload : List Byte} : P (interpret payload s) := by
  unfold Machine.interpret badLengthReply
  split
  · exact c.runCommand h
  · split
    · exact c.motionReply h
    · exact c.refuse h

theorem takeNext : P (takeNext s) := by
  unfold Machine.takeNext
  (repeat' split)
  · exact h
  · exact c.interpret (c.link h)
  · exact h

theorem frameArrives {payload : List Byte} : P (frameArrives payload s) := by
  have joined : P (joinReceived payload s) := by
    unfold joinReceived
    split
    · exact c.link h
    · exact h
  exact c.pump (c.takeNext joined)

theorem receiveByte {b : Byte} : P (receiveByte s b) := by
  unfold Machine.receiveByte
  dsimp only
  split
  · exact c.frameArrives (c.link h)
  · exact c.link h

theorem transmitDone : P (transmitDone s) := by
  unfold Machine.transmitDone replySent
  split
  · exact h
  · exact c.takeNext (c.link h)
  · exact c.link h
  · exact c.link h

theorem restartReset {rate : LinkRate} : P (restartReset rate s) := by
  unfold Machine.restartReset
  (repeat' split)
  · exact c.fullReset
  · exact c.fullReset
  · exact h
  · exact h

/-! ### Steps -/

/-- An event of the engine. -/
theorem live {f : State → State} {t : State} (hf : P (f s)) (e : live f s = .next t) : P t := by
  unfold Machine.live at e
  split at e <;> cases e
  · exact h
  · exact c.pump hf

/-- A host command, taken at once or put into the receive queue (log 5). -/
theorem submit {i : Instr} {run : State → State} {t : State} (hrun : P (run s)) (e : submit i run s = .next t) : P t := by
  unfold Machine.submit at e
  split_ifs at e <;> cases e
  · exact h
  · exact c.pump hrun
  · exact c.frameArrives h

theorem submitCommand {i : Instr} {t : State} (e : Machine.submit i (Machine.runCommand i) s = .next t) : P t :=
  c.submit h (c.runCommand h) e

/-- Every row of the table. -/
theorem exec {i : Instr} {t : State} (e : exec i s = .next t) : P t := by
  cases i
  case unknownCommand => exact c.submit h (c.interpret h) e
  case linkFrame bytes =>
    simp only [Machine.exec, execLinkFrame] at e
    split_ifs at e <;> cases e
    · exact h
    · exact foldl (P := P) (fun hs => c.receiveByte hs) bytes h
  case byteGapTimeout => exact c.live h (c.link h) e
  case lineBreak => exact c.live h (c.link h) e
  case transmitDone => exact c.live h (c.transmitDone h) e
  case controllerReport port bytes =>
    exact c.live (f := fun s => bytes.foldl (Machine.receivePortByte port) s) h (foldl (P := P) (fun hs => c.receivePortByte hs) bytes h) e
  case portByteGapTimeout => exact c.live h (c.modPort h) e
  case reportTimeout => exact c.live h (c.reportTimeout h) e
  case releaseTimerExpiry => exact c.live h (c.releaseExpiry h) e
  case loadIdleTimeout => exact c.live h (c.loadIdleExpiry h) e
  case internalTimerExpiry => exact c.live h (c.internalExpiry h) e
  case scrollFrame => exact c.live h (c.takeFrame h) e
  case frameStart => exact c.live h (c.frameStart h) e
  case syncLossExpiry => exact c.live h (c.syncLoss h) e
  case renderComplete => exact c.live h (c.renderComplete h) e
  case pulseEnd line => exact c.live (f := fun s => s.modLine line CueLine.pulseEnd) h (c.modLine h fun _ _ => Nat.zero_le _) e
  case reflowComplete => exact c.live h (c.reflowComplete h) e
  case powerUp =>
    simp only [Machine.exec, execPowerUp] at e
    split_ifs at e <;> cases e
    · exact h
    · exact c.fullReset
  case resetPinAssert =>
    cases e
    exact c.heldInReset
  case resetPinRelease =>
    cases e
    exact c.fullReset
  case restartReset => exact c.live h (c.restartReset h) e
  all_goals exact c.submitCommand h e

theorem step {t : State} (e : step s = .next t) : P t := by
  unfold Machine.step at e
  split at e
  · cases e
    exact c.tick h
  · exact c.exec (c.queue h) e

end Closed

end Sys2Proof.Machine
end

section
/-! Every step keeps the settings in their ranges (R47, R68, R69, R75, R91, R93, R115, R125, R129 to R131, R138). -/

namespace Sys2Proof.Machine

/-- The column count in force and a reflow's target in their range (R47). -/
def LayoutOk (l : Layout) : Prop := (8 ≤ l.columns ∧ l.columns ≤ 40) ∧ ∀ c ∈ l.target, 8 ≤ c ∧ c ≤ 40

/-- Every block's settings are in their ranges. -/
def InRange (s : State) : Prop :=
  ScrollOk s.scroll ∧ s.edit.lookahead ≤ 64 ∧ HubOk s.hub ∧ CuesOk s.cues ∧ LayoutOk s.layout
    ∧ ∀ h : Fin 4, HeadOk s.layout s.heads[h]

theorem inRange_iff_inv (s : State) : InRange s ↔ MotionInv s ∧ OutputInv s := by
  constructor
  · rintro ⟨⟨vmax, accel, brake, keyStep, ⟨ordered, top⟩, v, cruise⟩, lookahead, ⟨delay, ports⟩, ⟨defs, lines⟩,
      ⟨columns, target⟩, heads⟩
    exact ⟨⟨vmax, accel, brake, keyStep, lookahead, delay, ordered, top, v, cruise⟩, columns, target, ports, defs, lines, heads⟩
  · rintro ⟨⟨vmax, accel, brake, keyStep, lookahead, delay, ordered, top, v, cruise⟩, columns, target, ports, defs, lines, heads⟩
    exact ⟨⟨vmax, accel, brake, keyStep, ⟨ordered, top⟩, v, cruise⟩, lookahead, ⟨delay, ports⟩, ⟨defs, lines⟩,
      ⟨columns, target⟩, heads⟩

namespace InRange

/-- The settings are the blocks' own. -/
theorem congr {s t : State} (ok : InRange s) (scroll : t.scroll = s.scroll) (lookahead : t.edit.lookahead = s.edit.lookahead)
    (hub : t.hub = s.hub) (cues : t.cues = s.cues) (layout : t.layout = s.layout) (heads : t.heads = s.heads) : InRange t := by
  rwa [InRange, scroll, lookahead, hub, cues, layout, heads]

/-- The store and the link hold no settings. -/
theorem withStore {s : State} (ok : InRange s) (x : Store) : InRange { s with store := x } := ok

theorem withMarks {s : State} (ok : InRange s) (marks : List MarkRecord) :
    InRange { s with layout := { s.layout with marks := marks } } := ok

theorem withScroll {s : State} (ok : InRange s) {x : Scroll} (h : ScrollOk s.scroll → ScrollOk x) :
    InRange { s with scroll := x } := by
  obtain ⟨scroll, rest⟩ := ok
  exact ⟨h scroll, rest⟩

theorem withHeads {s : State} (ok : InRange s) {x : Vector Head 4}
    (h : ∀ n : Fin 4, HeadOk s.layout s.heads[n] → HeadOk s.layout x[n]) : InRange { s with heads := x } := by
  obtain ⟨scroll, lookahead, hub, cues, layout, heads⟩ := ok
  exact ⟨scroll, lookahead, hub, cues, layout, fun n => h n (heads n)⟩

/-- A change of the column counts that every head which is not DISABLED still holds (R47, R130). -/
theorem withLayout {s : State} (ok : InRange s) {x : Layout} (hx : LayoutOk s.layout → LayoutOk x)
    (h : ∀ n : Fin 4, (s.heads[n]).state ≠ .disabled → (s.heads[n]).geometry.holdsRows s.layout = true →
      (s.heads[n]).geometry.holdsRows x = true) : InRange { s with layout := x } := by
  obtain ⟨scroll, lookahead, hub, cues, layout, heads⟩ := ok
  refine ⟨scroll, lookahead, hub, cues, hx layout, fun n => ?_⟩
  obtain ⟨geometry, bias, holds⟩ := heads n
  exact ⟨geometry, bias, fun on => h n on (holds on)⟩

/-! ### Edits -/

theorem raise {s : State} (ok : InRange s) (n : Notice) : InRange (raise n s) := by
  rw [raise_frame]
  exact ok

theorem recomputeStates {s : State} (ok : InRange s) : InRange (recomputeStates s) :=
  ok.congr (by simp) (by simp) (by simp) (by simp) (by simp) (by simp)

/-- The Δ of a re-anchor keeps every bias in its range (R58, R138). -/
theorem reanchor {s : State} (ok : InRange s) (anchor : Option Anchor) (row : Nat) : InRange (reanchor anchor row s) := by
  obtain ⟨a, -, -, moved⟩ | ⟨-, moved⟩ := reanchor_eq anchor row s <;> rw [moved]
  · have scroll := ok.withScroll (x := { s.scroll with p := anchorRow s.store.stories a * 1024 + a.fraction }) id
    refine scroll.withHeads (x := updAll s.heads (Head.addBias _)) fun n => ?_
    rw [updAll_get]
    exact fun ok => ok.addBias _
  · exact ok.withScroll (x := { s.scroll with p := 0 }) id

theorem setScrollState {s : State} (ok : InRange s) (new : ScrollState) (cause : ScrollCause) :
    InRange (setScrollState new cause s) := by
  unfold Machine.setScrollState
  split
  · exact ok
  · exact (ok.withScroll (x := { s.scroll with state := new }) id).raise _

theorem followRows {s : State} (ok : InRange s) (before : Nat) : InRange (followRows before s) := by
  obtain ⟨-, -, followed⟩ | ⟨-, -, followed⟩ | ⟨-, followed⟩ := followRows_eq before s <;> rw [followed]
  · exact (ok.withScroll (x := { s.scroll with v := 0 }) fun ok => ok.withVelocity (y := 0) (Nat.zero_le _)).setScrollState ..
  · exact (ok.withScroll (x := { s.scroll with p := 0, v := 0, direction := .forward })
      fun ok => ok.withVelocity (y := 0) (Nat.zero_le _)).setScrollState ..
  · exact ok

theorem applyEdit {s : State} (ok : InRange s) (fromPending : Bool) (e : Edit) : InRange (applyEdit fromPending e s) := by
  have changed : InRange (changeScript e s) := by
    rw [changeScript_eq]
    exact (((ok.withStore _).reanchor _ _).withMarks _).followRows _
  cases fromPending with
  | false => exact changed.recomputeStates
  | true => exact (changed.raise _).recomputeStates

theorem leavePending {s : State} (ok : InRange s) (r : PendingEdit) : InRange (leavePending r s) :=
  ok.congr rfl rfl rfl rfl rfl rfl

theorem closeLoad {s : State} (ok : InRange s) (tag : Nat) : InRange (closeLoad tag s) := ok.congr rfl rfl rfl rfl rfl rfl

theorem settlePending {s : State} (ok : InRange s) (r : PendingEdit) : InRange (settlePending r s) := by
  unfold Machine.settlePending
  dsimp only
  split
  · exact ((ok.leavePending r).withStore _).raise _
  · exact (ok.leavePending r).applyEdit ..

theorem release {s : State} (ok : InRange s) : InRange (release s) := release_keeps (fun ok _ => ok.settlePending _) ok

theorem present {s : State} (ok : InRange s) (force : Bool) (e : Edit) : InRange (present force e s).1 := by
  have settled : InRange (settleAllFor e.story s) := List.foldlRecOn (motive := InRange) _ _ ok fun _ ok r _ => ok.settlePending r
  unfold Machine.present forceEdit
  dsimp only
  (repeat' split)
  · exact settled.withStore _
  · exact (settled.applyEdit ..).release
  · exact ok.withStore _
  · exact ok.congr rfl rfl rfl rfl rfl rfl
  · exact (ok.applyEdit ..).release

/-! ### Layout and resets -/

/-- The count that SET_COLUMNS accepts is in its range and fits the heads (R47). -/
theorem target {s : State} (ok : InRange s) {c : Nat} (h : setColumnsFault c s = none) :
    InRange { s with layout := { s.layout with target := some c } } := by
  rw [setColumnsFault_eq] at h
  split_ifs at h with range busy narrow
  refine ok.withLayout (fun ⟨columns, _⟩ => ⟨columns, fun x hx => ?_⟩) fun n on holds => ?_
  · obtain rfl : c = x := Option.some.inj hx
    omega
  · have fits : c * 16 * (s.heads[n]).geometry.scale + (s.heads[n]).geometry.margin ≤ (s.heads[n]).geometry.width :=
      Nat.not_lt.mp fun wide => narrow ⟨n, on, wide⟩
    simp only [Geometry.holdsRows, Bool.and_eq_true] at holds ⊢
    exact ⟨holds.1, decide_eq_true fits⟩

theorem abandon {s : State} (ok : InRange s) : InRange { s with layout := { s.layout with target := none } } := by
  refine ok.withLayout (fun ⟨columns, _⟩ => ⟨columns, nofun⟩) fun n _ holds => ?_
  simp only [Geometry.holdsRows, Bool.and_eq_true] at holds ⊢
  exact ⟨holds.1, trivial⟩

theorem install {s : State} (ok : InRange s) {c : Nat} (h : s.layout.target = some c) : InRange (installLayout c s) := by
  have laid : InRange { s with layout := { s.layout with columns := c, generation := s.layout.generation + 1, target := none } } := by
    refine ok.withLayout (fun ⟨_, range⟩ => ⟨range c h, nofun⟩) fun n _ holds => ?_
    simp only [Geometry.holdsRows, h, Bool.and_eq_true] at holds ⊢
    exact ⟨holds.2, trivial⟩
  rw [installLayout_eq]
  exact (((laid.withStore _).reanchor _ _).withMarks _).recomputeStates

theorem clearShow {s : State} (ok : InRange s) : InRange (clearShow s) := by
  obtain ⟨scroll, lookahead, ⟨delay, ports⟩, cues, layout, heads⟩ := ok.abandon
  refine ⟨(scroll.withVelocity (y := 0) (Nat.zero_le _)).withCruise (y := 0) (Nat.zero_le _), lookahead, ⟨delay, fun n => ?_⟩, cues,
    layout, fun n => ?_⟩
  · dsimp only [Machine.clearShow, clearHub]
    rw [updAll_get]
    split <;> exact ports n
  · dsimp only [Machine.clearShow]
    rw [updAll_get]
    exact HeadOk.withBias (a := (s.heads[n]).clearBand) ((heads n).of_settings rfl) (by omega)

theorem reset : InRange State.reset := by
  obtain ⟨-, -, -, -, -, -, motion, output⟩ := resetMeetsTheInvariants
  exact (inRange_iff_inv _).mpr ⟨motion, output⟩

end InRange

theorem closed_inRange : Closed InRange where
  outside ok := ok
  scroll ok _ h := ok.withScroll h
  hub ok h := by
    obtain ⟨scroll, lookahead, hub, rest⟩ := ok
    exact ⟨scroll, lookahead, h hub, rest⟩
  cues ok h := by
    obtain ⟨scroll, lookahead, hub, cues, rest⟩ := ok
    exact ⟨scroll, lookahead, hub, h cues, rest⟩
  heads ok h := ok.withHeads h
  lookahead ok h := by
    obtain ⟨scroll, -, rest⟩ := ok
    exact ⟨scroll, h, rest⟩
  arming ok _ := ok.withMarks _
  states ok := ok.recomputeStates
  openLoad ok _ _ := ok.congr rfl rfl rfl rfl rfl rfl
  idleLoad ok _ := ok.congr rfl rfl rfl rfl rfl rfl
  storeLine ok := ok.congr rfl rfl rfl rfl rfl rfl
  closeLoad ok := ok.closeLoad _
  presentLoad ok _ := (ok.closeLoad _).present _ _
  presentBare ok _ := ok.present _ _
  freeSlots ok := ok.withStore _
  leavePending ok _ := ok.leavePending _
  settlePending ok _ := ok.settlePending _
  target ok h := ok.target h
  install ok h := ok.install h
  abandon ok := ok.abandon
  clearShow ok := ok.clearShow
  fullReset := InRange.reset.congr rfl rfl rfl rfl rfl rfl
  heldInReset := InRange.reset.congr rfl rfl rfl rfl rfl rfl

/-- Settles O21: the settings in their ranges hold on. -/
theorem everyStepKeepsTheSettingsInRange : Obligations.EveryStepKeepsTheSettingsInRange := by
  intro s t motion output h
  exact (inRange_iff_inv t).mp (closed_inRange.step ((inRange_iff_inv s).mpr ⟨motion, output⟩) h)

end Sys2Proof.Machine
end

section
/-! A rundown that is laid out (R2, R51, R52): its stories' rows, and the anchors that lie in it (R56, R57). -/

namespace Sys2Proof.Machine

/-! ### Stories -/

/-- A story with lines, laid out at the column count `c` (R2, R51, R52). -/
def StoryLaid (c : Nat) (st : Story) : Prop := st.chain ≠ [] ∧ layStory c st = st

theorem layStory_layStory (c : Nat) (st : Story) : layStory c (layStory c st) = layStory c st := by
  unfold layStory
  by_cases skipped : st.state = .skipped <;> simp [skipped]

theorem chain_layStory (c : Nat) (st : Story) : (layStory c st).chain = st.chain := by
  unfold layStory
  split <;> rfl

theorem id_layStory (c : Nat) (st : Story) : (layStory c st).id = st.id := by
  unfold layStory
  split <;> rfl

theorem state_layStory (c : Nat) (st : Story) : (layStory c st).state = st.state := by
  unfold layStory
  split <;> rfl

theorem storyLaid_layStory (c : Nat) {st : Story} (lines : st.chain ≠ []) : StoryLaid c (layStory c st) :=
  ⟨by rwa [chain_layStory], layStory_layStory c st⟩

theorem wrapLine_pos (c : Nat) (text : Line) : 0 < (wrapLine c text).length := by
  unfold wrapLine wrapFrom
  dsimp only
  (repeat' split) <;> simp

/-- A SKIPPED story has neither rows nor a directory entry, and any other those that its slug and chain make (R7, R51, R52). -/
theorem storyLaid_iff {c : Nat} {st : Story} :
    StoryLaid c st ↔ st.chain ≠ [] ∧ (st.state = .skipped → st.rowCount = 0 ∧ st.dir = none)
      ∧ (st.state ≠ .skipped →
        st.rowCount = (layoutStory c st.slug st.chain).rows ∧ st.dir = some (layoutStory c st.slug st.chain)) := by
  unfold StoryLaid layStory
  obtain ⟨id, slug, state, revision, chain, rowCount, markCount, pendingCount, dir⟩ := st
  by_cases skipped : state = .skipped <;> simp [skipped, eq_comm]

namespace StoryLaid

variable {c : Nat} {st : Story} (laid : StoryLaid c st)
include laid

/-- The rows of a story that is not SKIPPED are those of its directory entry (R51, R52). -/
theorem entry (shown : st.state ≠ .skipped) :
    st.rowCount = (layoutStory c st.slug st.chain).rows ∧ st.dir = some (layoutStory c st.slug st.chain) :=
  (storyLaid_iff.mp laid).2.2 shown

/-- The stories without rows are the SKIPPED ones (R7, R51). -/
theorem rowCount_pos_iff : 0 < st.rowCount ↔ st.state ≠ .skipped := by
  obtain ⟨lines, hidden, shown⟩ := storyLaid_iff.mp laid
  constructor
  · intro rows skipped
    exact rows.ne' (hidden skipped).1
  · intro on
    obtain ⟨first, rest, chain⟩ := List.exists_cons_of_ne_nil lines
    have head := wrapLine_pos c first
    rw [(shown on).1, DirEntry.rows, layoutStory, chain]
    simp only [List.map_cons, List.sum_cons]
    omega

/-- A character of a line lies in the story's rows (R57). -/
theorem rowOfLineChar_lt (rows : 0 < st.rowCount) {l : Nat} (hl : l < st.chain.length) (i : Nat) : rowOfLineChar st l i < st.rowCount := by
  obtain ⟨count, dir⟩ := laid.entry (laid.rowCount_pos_iff.mp rows)
  have breaks : lineRows st l = wrapLine c st.chain[l] := by
    simp only [lineRows, dir, layoutStory]
    rw [List.getD_eq_getElem _ _ (by simpa using hl), List.getElem_map]
  have inside := wrapLine_pos c st.chain[l]
  have parts : st.chain = st.chain.take l ++ st.chain[l] :: st.chain.drop (l + 1) := by
    rw [← List.drop_eq_getElem_cons hl, List.take_append_drop]
  have total : (layoutStory c st.slug st.chain).rows = (layoutStory c st.slug st.chain).lineRow l + (wrapLine c st.chain[l]).length
      + ((st.chain.drop (l + 1)).map fun text => (wrapLine c text).length).sum := by
    unfold DirEntry.rows DirEntry.lineRow layoutStory
    conv_lhs => rw [parts]
    simp only [← List.map_take, List.map_append, List.map_cons, List.map_map, List.sum_append, List.sum_cons]
    simp only [Function.comp_def, DirEntry.slugRows]
    omega
  rw [count, total, rowOfLineChar, dir]
  simp only [breaks, rowOfChar]
  omega

/-- A new state that skips no other story leaves the layout (R9, R51). -/
theorem withState {new : StoryState} (h : new = .skipped ↔ st.state = .skipped) : StoryLaid c { st with state := new } := by
  obtain ⟨lines, hidden, shown⟩ := storyLaid_iff.mp laid
  exact storyLaid_iff.mpr ⟨lines, fun skipped => hidden (h.mp skipped), fun on => shown (mt h.mpr on)⟩

theorem withPendingCount (n : Nat) : StoryLaid c { st with pendingCount := n } := by
  obtain ⟨lines, rest⟩ := storyLaid_iff.mp laid
  exact storyLaid_iff.mpr ⟨lines, rest⟩

end StoryLaid

theorem storyStateAt_eq_skipped_iff {reading start : Nat} {st : Story} :
    storyStateAt reading start st = .skipped ↔ st.state = .skipped := by
  unfold storyStateAt
  split_ifs <;> simp_all

/-- The states leave the layout of the rundown (R9). -/
theorem laid_recomputeFrom {c : Nat} {stories : List Story} (laid : ∀ st ∈ stories, StoryLaid c st) (reading start : Nat) :
    ∀ st ∈ recomputeFrom reading start stories, StoryLaid c st := by
  induction stories generalizing start with
  | nil => simp [recomputeFrom]
  | cons st rest ih =>
    obtain ⟨first, others⟩ := List.forall_mem_cons.mp laid
    exact List.forall_mem_cons.mpr ⟨first.withState storyStateAt_eq_skipped_iff, ih others _⟩

/-! ### Anchors -/

/-- An anchor that lies in the rundown: in a story with rows, at one of its lines, and at a fraction of 0 at its end (R56). -/
def AnchorIn (stories : List Story) (a : Anchor) : Prop :=
  ∃ st ∈ stories, st.id = a.story ∧ 0 < st.rowCount ∧ a.fraction < 1024 ∧ (∀ l i, a.place = .line l i → l < st.chain.length)
    ∧ (a.place = .storyEnd → a.fraction = 0)

/-- The first story with an id is the one that has it. -/
theorem findStory_of_mem {stories : List Story} (distinct : (stories.map Story.id).Nodup) {st : Story} (h : st ∈ stories) :
    findStory stories st.id = some st := by
  obtain ⟨before, after, rfl⟩ := List.append_of_mem h
  refine findStory_split (fun x hx e => ?_) after
  rw [List.map_append, List.map_cons, List.nodup_append] at distinct
  exact distinct.2.2 _ (List.mem_map_of_mem hx) _ List.mem_cons_self e

/-- The rows of a story end within the rundown (R52). -/
theorem startRow_add_le {stories : List Story} {st : Story} (found : findStory stories st.id = some st) :
    startRow stories st.id + st.rowCount ≤ rowsOf stories := by
  obtain ⟨-, before, after, rfl, first⟩ := findStory_eq_some found
  rw [startRow_split first, rowsOf_append, rowsOf_cons]
  omega

/-- An anchor in the rundown gives a position in it (R57, R67). -/
theorem AnchorIn.position_le {c : Nat} {stories : List Story} {a : Anchor} (h : AnchorIn stories a)
    (laid : ∀ st ∈ stories, StoryLaid c st) (distinct : (stories.map Story.id).Nodup) :
    anchorRow stories a * 1024 + a.fraction ≤ rowsOf stories * 1024 := by
  obtain ⟨st, hst, hid, rows, fraction, line, atEnd⟩ := h
  have found := findStory_of_mem distinct hst
  have inside := startRow_add_le found
  rw [anchorRow, ← hid, found]
  cases place : a.place with
  | slug => dsimp only; omega
  | line l i =>
    have row := (laid st hst).rowOfLineChar_lt rows (line l i place) i
    dsimp only
    omega
  | storyEnd =>
    rw [atEnd place]
    dsimp only [endRow]
    omega

theorem mem_of_storyAtRow {stories : List Story} {r k : Nat} {st : Story} (h : storyAtRow stories r = some (st, k)) :
    st ∈ stories ∧ k < st.rowCount := by
  induction stories generalizing r with
  | nil => cases h
  | cons x rest ih =>
    unfold storyAtRow at h
    split at h
    · next inside =>
      cases h
      exact ⟨List.mem_cons_self, inside⟩
    · obtain ⟨hst, hk⟩ := ih h
      exact ⟨List.mem_cons_of_mem x hst, hk⟩

theorem mem_of_lastWithRows {stories : List Story} {st : Story} (h : lastWithRows stories = some st) : st ∈ stories ∧ 0 < st.rowCount :=
  ⟨List.mem_reverse.mp (List.mem_of_find?_eq_some h), by simpa using List.find?_some h⟩

theorem mem_of_firstWithRows {stories : List Story} {st : Story} (h : firstWithRows stories = some st) :
    st ∈ stories ∧ 0 < st.rowCount :=
  ⟨List.mem_of_find?_eq_some h, by simpa using List.find?_some h⟩

theorem line_of_placeInLines {lines : List (List RowSpan)} {n k l i : Nat} {span : RowSpan}
    (h : placeInLines lines n k = some (.line l i span)) : l < n + lines.length := by
  induction lines generalizing n k with
  | nil => cases h
  | cons rows rest ih =>
    rw [List.length_cons]
    unfold placeInLines at h
    split at h
    · cases h
      omega
    · have := ih h
      omega

/-- A row of a story that is laid out lies in one of its lines (R53). -/
theorem StoryLaid.line_of_rowPlace {c : Nat} {st : Story} (laid : StoryLaid c st) (rows : 0 < st.rowCount) {k l i : Nat} {span : RowSpan}
    (h : rowPlace st k = some (.line l i span)) : l < st.chain.length := by
  rw [rowPlace, (laid.entry (laid.rowCount_pos_iff.mp rows)).2, Option.bind_some, DirEntry.place] at h
  split at h
  · cases h
  · simpa [layoutStory] using line_of_placeInLines h

/-- The anchor of a position lies in the rundown (R56). -/
theorem anchorIn_of_takeAnchor {c : Nat} {stories : List Story} (laid : ∀ st ∈ stories, StoryLaid c st) {p : Nat} {a : Anchor}
    (h : takeAnchor stories p = some a) : AnchorIn stories a := by
  have fraction := takeAnchor_fraction h
  unfold takeAnchor at h
  split_ifs at h
  · obtain ⟨⟨st, k⟩, row, rfl⟩ := Option.map_eq_some_iff.mp h
    obtain ⟨hst, hk⟩ := mem_of_storyAtRow row
    have rows : 0 < st.rowCount := Nat.zero_lt_of_lt hk
    refine ⟨st, hst, rfl, rows, fraction, fun l i place => ?_, fun place => ?_⟩
    all_goals
      dsimp only at place
      unfold anchorPlaceOf at place
      split at place
    any_goals cases place
    next at_line => exact (laid st hst).line_of_rowPlace rows at_line
  · obtain ⟨st, last, rfl⟩ := Option.map_eq_some_iff.mp h
    obtain ⟨hst, rows⟩ := mem_of_lastWithRows last
    exact ⟨st, hst, rfl, rows, fraction, nofun, fun _ => rfl⟩

/-- An anchor whose story an edit has taken away goes to a story that is there (R45). -/
theorem anchorIn_of_anchorAfterLoss {c : Nat} {old new : List Story} (laid : ∀ st ∈ new, StoryLaid c st) {a b : Anchor}
    (h : anchorAfterLoss old new a = some b) : AnchorIn new b := by
  unfold anchorAfterLoss at h
  dsimp only at h
  split at h
  · next st first =>
    cases h
    obtain ⟨hst, rows⟩ := mem_of_firstWithRows first
    obtain ⟨x, -, found⟩ := List.mem_filterMap.mp hst
    have there : st ∈ new := List.mem_of_find?_eq_some found
    refine ⟨st, there, rfl, rows, Nat.zero_lt_succ _, fun l i place => ?_, fun _ => rfl⟩
    dsimp only [firstRowAnchor] at place
    split at place
    · cases place
      exact List.length_pos_iff.mpr (laid st there).1
    · cases place
  · obtain ⟨st, last, rfl⟩ := Option.map_eq_some_iff.mp h
    obtain ⟨hst, rows⟩ := mem_of_lastWithRows last
    exact ⟨st, hst, rfl, rows, Nat.zero_lt_succ _, nofun, fun _ => rfl⟩

end Sys2Proof.Machine
end

section
/-! The script under an edit and under a reflow (R43, R60): the layout of its stories, the position at its anchor and the mark list. -/

namespace Sys2Proof.Machine

/-! ### The store primitives -/

/-- An edit whose kind carries a chain carries one with lines (R2, R21). -/
def Chained (e : Edit) : Prop := e.body.carriesChain = true → e.chain ≠ []

theorem mem_mapStory {stories : List Story} (distinct : (stories.map Story.id).Nodup) {id : Nat} {f : Story → Story} {x : Story} :
    x ∈ mapStory stories id f ↔ ∃ st ∈ stories, (if st.id = id then f st else st) = x := by
  rw [mapStory_eq_map distinct, List.mem_map]

/-- The stories that an edit's store primitive leaves are laid out (R43 step 3). -/
theorem laid_storePrimitive {c : Nat} {pending : List PendingEdit} {e : Edit} {s : Store} (distinct : (s.stories.map Story.id).Nodup)
    (laid : ∀ st ∈ s.stories, StoryLaid c st) (chained : Chained e) :
    ∀ st ∈ (storePrimitive c pending e s).stories, StoryLaid c st := by
  have mapped : ∀ f : Story → Story, (∀ st, StoryLaid c st → StoryLaid c (f st)) →
      ∀ st ∈ mapStory s.stories e.story f, StoryLaid c st := by
    intro f keeps x hx
    obtain ⟨st, hst, rfl⟩ := (mem_mapStory distinct).mp hx
    split
    · exact keeps st (laid st hst)
    · exact laid st hst
  obtain ⟨tag, story, body⟩ := e
  cases body with
  | replace slug chain => exact mapped _ fun st _ => storyLaid_layStory c (chained rfl)
  | insert place slug chain =>
    intro st hst
    rcases List.mem_cons.mp ((placeStory_perm _ _ _).mem_iff.mp hst) with rfl | hst
    · exact storyLaid_layStory c (chained rfl)
    · exact laid st hst
  | delete => exact fun st hst => laid st (List.mem_of_mem_eraseP hst)
  | move place => exact fun st hst => laid st ((relocateStory_perm _ _ _).mem_iff.mp hst)
  | skip =>
    unfold storePrimitive
    dsimp only
    split
    · exact laid
    · exact mapped _ fun st ⟨lines, _⟩ => storyLaid_layStory c lines
  | unskip =>
    unfold storePrimitive
    dsimp only
    split
    · exact mapped _ fun st ⟨lines, _⟩ => storyLaid_layStory c lines
    · exact laid

/-- The ids after an edit's store primitive: an insertion brings its story's, and no other edit brings any (R3 to R7). -/
theorem storyIds_storePrimitive (c : Nat) (pending : List PendingEdit) (e : Edit) (s : Store) :
    ((storePrimitive c pending e s).stories.map Story.id).Subperm (handIds [e] ++ s.stories.map Story.id) := by
  have same : ∀ {stories : List Story}, (stories.map Story.id).Subperm (s.stories.map Story.id) →
      (stories.map Story.id).Subperm (handIds [e] ++ s.stories.map Story.id) :=
    fun h => h.trans (List.sublist_append_right _ _).subperm
  have mapped : ∀ f : Story → Story, (∀ st, (f st).id = st.id) →
      ((mapStory s.stories e.story f).map Story.id).Subperm (handIds [e] ++ s.stories.map Story.id) :=
    fun f hf => same (List.Perm.of_eq (map_mapStory Story.id hf _ _) |>.subperm)
  unfold storePrimitive
  cases body : e.body with
  | replace slug chain => exact mapped _ fun st => id_layStory c _
  | insert place slug chain =>
    have insert : handIds [e] = [e.story] := by simp [handIds, Edit.kind, body]
    rw [insert]
    refine (((placeStory_perm _ _ _).map Story.id).trans ?_).subperm
    rw [List.map_cons, newStory, id_layStory]
    exact .refl _
  | delete => exact same (List.eraseP_sublist.map _).subperm
  | move place => exact same ((relocateStory_perm _ _ _).map _).subperm
  | skip =>
    dsimp only
    split
    · exact same (.refl _)
    · exact mapped _ fun st => id_layStory c _
  | unskip =>
    dsimp only
    split
    · exact mapped _ fun st => id_layStory c _
    · exact same (.refl _)

/-- An edit leaves the other stories as they are (R3 to R7). -/
theorem mem_storePrimitive {c : Nat} {pending : List PendingEdit} {e : Edit} {s : Store} (distinct : (s.stories.map Story.id).Nodup)
    {st : Story} (hst : st ∈ s.stories) (other : st.id ≠ e.story) : st ∈ (storePrimitive c pending e s).stories := by
  have mapped : ∀ f : Story → Story, st ∈ mapStory s.stories e.story f := fun f =>
    (mem_mapStory distinct).mpr ⟨st, hst, if_neg other⟩
  unfold storePrimitive
  cases e.body with
  | replace slug chain => exact mapped _
  | insert place slug chain => exact (placeStory_perm _ _ _).mem_iff.mpr (List.mem_cons_of_mem _ hst)
  | delete => exact (List.mem_eraseP_of_neg (by simpa using other)).mpr hst
  | move place => exact (relocateStory_perm _ _ _).mem_iff.mpr hst
  | skip =>
    dsimp only
    split
    · exact hst
    · exact mapped _
  | unskip =>
    dsimp only
    split
    · exact mapped _
    · exact hst

/-! ### The anchor -/

/-- A replacement keeps the anchor within the new lines (R44). -/
theorem anchorIn_replaced {stories : List Story} {a : Anchor} {new : Story} {slug : Line} {chain : List Line} (hin : new ∈ stories)
    (hid : new.id = a.story) (rows : 0 < new.rowCount) (hchain : new.chain = chain) (lines : chain ≠ []) (fraction : a.fraction < 1024)
    (atEnd : a.place = .storyEnd → a.fraction = 0) : AnchorIn stories (anchorInReplaced a slug chain) := by
  have first : 0 < chain.length := List.length_pos_iff.mpr lines
  obtain ⟨story, place, part⟩ := a
  cases place with
  | line l i =>
    refine ⟨new, hin, hid, rows, fraction, fun l' i' place => ?_, nofun⟩
    cases place
    rw [hchain]
    omega
  | slug =>
    unfold anchorInReplaced
    dsimp only
    split
    · refine ⟨new, hin, hid, rows, fraction, fun l' i' place => ?_, nofun⟩
      cases place
      rwa [hchain]
    · exact ⟨new, hin, hid, rows, fraction, nofun, nofun⟩
  | storyEnd => exact ⟨new, hin, hid, rows, fraction, nofun, atEnd⟩

/-- An edit leaves the anchor in the rundown that it makes (R44, R45). -/
theorem anchorIn_of_placeAnchor {c : Nat} {pending : List PendingEdit} {e : Edit} {s : Store} {a b : Anchor}
    (laid : ∀ st ∈ s.stories, StoryLaid c st) (chained : Chained e) (distinct : (s.stories.map Story.id).Nodup)
    (distinct' : ((storePrimitive c pending e s).stories.map Story.id).Nodup) (hin : AnchorIn s.stories a)
    (h : placeAnchor e s.stories (storePrimitive c pending e s).stories a = some b) :
    AnchorIn (storePrimitive c pending e s).stories b := by
  have laid' := laid_storePrimitive (pending := pending) distinct laid chained
  obtain ⟨st, hst, hid, rows, fraction, lines, atEnd⟩ := hin
  unfold placeAnchor at h
  by_cases own : e.story = a.story
  · rw [if_pos own] at h
    have named : st.id = e.story := hid.trans own.symm
    obtain ⟨tag, story, body⟩ := e
    cases body with
    | replace slug chain =>
      cases h
      have new : replaceContent c slug chain st ∈ mapStory s.stories story (replaceContent c slug chain) :=
        (mem_mapStory distinct).mpr ⟨st, hst, if_pos named⟩
      refine anchorIn_replaced new ((id_layStory c _).trans hid) ?_ (chain_layStory c _) (chained rfl) fraction atEnd
      rw [(laid' _ new).rowCount_pos_iff, replaceContent, state_layStory]
      exact (laid st hst).rowCount_pos_iff.mp rows
    | insert place slug chain =>
      have ids := ((placeStory_perm place (newStory c s.insertions (pendingFor pending story) story slug chain) s.stories).map
        Story.id).nodup_iff.mp distinct'
      rw [List.map_cons, newStory, id_layStory, List.nodup_cons] at ids
      exact absurd (List.mem_map.mpr ⟨st, hst, named⟩) ids.1
    | delete => exact anchorIn_of_anchorAfterLoss laid' h
    | move place =>
      cases h
      exact ⟨st, (relocateStory_perm _ _ _).mem_iff.mpr hst, hid, rows, fraction, lines, atEnd⟩
    | skip => exact anchorIn_of_anchorAfterLoss laid' h
    | unskip =>
      cases h
      have shown : isSkipped s.stories story = false := by
        rw [isSkipped, show story = st.id from named.symm, findStory_of_mem distinct hst]
        simpa using (laid st hst).rowCount_pos_iff.mp rows
      unfold storePrimitive
      dsimp only
      rw [if_neg (by simp [shown])]
      exact ⟨st, hst, hid, rows, fraction, lines, atEnd⟩
  · rw [if_neg own] at h
    cases h
    exact ⟨st, mem_storePrimitive distinct hst (hid ▸ Ne.symm own), hid, rows, fraction, lines, atEnd⟩

/-! ### Layout, position and mark list -/

/-- The layout unit's records are those of the rundown, and the position lies in it (R51, R52, R63, R67). -/
structure Laid (stories : List Story) (layout : Layout) (p : Nat) : Prop where
  columns : 1 ≤ layout.columns
  target : ∀ c ∈ layout.target, 1 ≤ c
  rundown : ∀ st ∈ stories, StoryLaid layout.columns st
  position : p ≤ rowsOf stories * 1024
  marks : layout.marks.map MarkRecord.disarmed = markRecords 0 stories

namespace Laid

theorem withPosition {stories : List Story} {layout : Layout} {p p' : Nat} (laid : Laid stories layout p)
    (h : p' ≤ rowsOf stories * 1024) : Laid stories layout p' :=
  ⟨laid.columns, laid.target, laid.rundown, h, laid.marks⟩

theorem withMarks {stories : List Story} {layout : Layout} {p : Nat} (laid : Laid stories layout p) {marks : List MarkRecord}
    (h : marks.map MarkRecord.disarmed = layout.marks.map MarkRecord.disarmed) :
    Laid stories { layout with marks := marks } p :=
  ⟨laid.columns, laid.target, laid.rundown, laid.position, h.trans laid.marks⟩

theorem withTarget {stories : List Story} {layout : Layout} {p : Nat} (laid : Laid stories layout p) {target : Option Nat}
    (h : ∀ c ∈ target, 1 ≤ c) : Laid stories { layout with target := target } p :=
  ⟨laid.columns, h, laid.rundown, laid.position, laid.marks⟩

/-- The states leave the layout (R9). -/
theorem recomputeFrom {stories : List Story} {layout : Layout} {p : Nat} (laid : Laid stories layout p) (reading : Nat) :
    Laid (recomputeFrom reading 0 stories) layout p := by
  refine ⟨laid.columns, laid.target, laid_recomputeFrom laid.rundown _ _, ?_, ?_⟩
  · rw [rowsOf_recomputeFrom]
    exact laid.position
  · rw [recomputeFrom_unstated (markRecords 0) (markRecords_unstated 0)]
    exact laid.marks

/-- A position that a re-anchor gives lies in the script (R57, R67, R71). -/
theorem of_reanchor {s : State} {anchor : Option Anchor} {c row : Nat} (laid : ∀ st ∈ s.store.stories, StoryLaid c st)
    (distinct : (s.store.stories.map Story.id).Nodup) (inside : ∀ a ∈ anchor, AnchorIn s.store.stories a) :
    (reanchor anchor row s).scroll.p ≤ rowsOf s.store.stories * 1024 := by
  obtain ⟨a, rfl, -, h⟩ | ⟨-, h⟩ := reanchor_eq anchor row s <;> rw [h]
  · exact (inside a rfl).position_le laid distinct
  · exact Nat.zero_le _

/-- An edit keeps layout, position and mark list (R43 steps 1 to 5). -/
theorem scriptAnchored {s : State} (laid : Laid s.store.stories s.layout s.scroll.p) {e : Edit} (chained : Chained e)
    (distinct : (s.store.stories.map Story.id).Nodup) (distinct' : ((storeChanged e s).store.stories.map Story.id).Nodup) :
    Laid (scriptAnchored e s).store.stories (scriptAnchored e s).layout (scriptAnchored e s).scroll.p := by
  have stories : ∀ st ∈ (storeChanged e s).store.stories, StoryLaid s.layout.columns st :=
    laid_storePrimitive distinct laid.rundown chained
  have position : (Machine.scriptAnchored e s).scroll.p ≤ rowsOf (storeChanged e s).store.stories * 1024 := by
    refine of_reanchor (s := storeChanged e s) stories distinct' fun b hb => ?_
    obtain ⟨a, ha, hb⟩ := Option.bind_eq_some_iff.mp hb
    exact anchorIn_of_placeAnchor laid.rundown chained distinct distinct' (anchorIn_of_takeAnchor laid.rundown ha) hb
  have layout : (Machine.scriptAnchored e s).layout = { s.layout with marks := (Machine.scriptAnchored e s).layout.marks } := by
    simp [Machine.scriptAnchored, storeChanged]
  have marks := (marksCarried_of_rebuild (s := s) (t := Machine.scriptAnchored e s) rfl
    (by rw [scriptAnchored_store]; simp only [reanchor_store])).1
  rw [layout]
  rw [scriptAnchored_store] at marks ⊢
  exact ⟨laid.columns, laid.target, stories, position, marks⟩

theorem followRows {s : State} (laid : Laid s.store.stories s.layout s.scroll.p) (before : Nat) :
    Laid (followRows before s).store.stories (followRows before s).layout (followRows before s).scroll.p := by
  rw [followRows_store, followRows_layout]
  obtain ⟨-, -, h⟩ | ⟨-, -, h⟩ | ⟨-, h⟩ := followRows_eq before s
  · rw [h, scroll_setScrollState]
    exact laid
  · rw [h, scroll_setScrollState]
    exact laid.withPosition (Nat.zero_le _)
  · rwa [h]

/-- A reflow lays the script out anew, with the position at its anchor (R60). -/
theorem reflowAnchored {s : State} (laid : Laid s.store.stories s.layout s.scroll.p)
    (distinct : (s.store.stories.map Story.id).Nodup) {c : Nat} (hc : 1 ≤ c) :
    Laid (reflowAnchored c s).store.stories (reflowAnchored c s).layout (reflowAnchored c s).scroll.p := by
  have stories : ∀ st ∈ (laidOut c s).store.stories, StoryLaid c st := by
    intro x hx
    obtain ⟨st, hst, rfl⟩ := List.mem_map.mp hx
    exact storyLaid_layStory c (laid.rundown st hst).1
  have ids : (laidOut c s).store.stories.map Story.id = s.store.stories.map Story.id := by
    simp [laidOut, id_layStory]
  have position : (Machine.reflowAnchored c s).scroll.p ≤ rowsOf (laidOut c s).store.stories * 1024 := by
    refine of_reanchor (s := laidOut c s) stories (ids ▸ distinct) fun a ha => ?_
    obtain ⟨st, hst, hid, rows, rest⟩ := anchorIn_of_takeAnchor laid.rundown ha
    refine ⟨layStory c st, List.mem_map_of_mem hst, (id_layStory c st).trans hid, ?_, by rwa [chain_layStory]⟩
    rw [(storyLaid_layStory c (laid.rundown st hst).1).rowCount_pos_iff, state_layStory]
    exact (laid.rundown st hst).rowCount_pos_iff.mp rows
  have marks := (marksCarried_of_rebuild (s := s) (t := Machine.reflowAnchored c s) (fresh := none)
    (stories := (laidOut c s).store.stories) rfl (by simp [Machine.reflowAnchored])).1
  have store : (Machine.reflowAnchored c s).store = (laidOut c s).store := by simp [Machine.reflowAnchored]
  have layout : (Machine.reflowAnchored c s).layout
      = { (laidOut c s).layout with marks := (Machine.reflowAnchored c s).layout.marks } := by
    simp [Machine.reflowAnchored, State.setMarks]
  rw [layout]
  rw [store] at marks ⊢
  exact ⟨hc, nofun, stories, position, marks⟩

end Laid

end Sys2Proof.Machine
end

section
/-! What the open loads, the pending edits and the edits in hand bring into the script: the ids in use and the chains (R1, R2, R21, R22,
R37). -/

namespace Sys2Proof.Machine

/-- The ids in use: of the stories, of the pending insertions, of the open NEW loads and of the insertions in hand (R1, R22). -/
def carriedIds (ids : List Nat) (pending : List PendingEdit) (loads : List Load) (hand : List Edit) : List Nat :=
  ids ++ (pending.filter fun r => r.edit.kind == .insert).map (fun r => r.edit.story)
    ++ (loads.filter fun l => l.mode == .new).map Load.story ++ handIds hand

/-- The rundown's ids, the pending edits, the open loads and the edits in hand: their ids are distinct and within the rundown's bounds,
and what carries a chain carries one with lines (R1, R2, R21, R22, R37). -/
structure Carried (ids : List Nat) (pending : List PendingEdit) (loads : List Load) (hand : List Edit) : Prop where
  distinct : IdsOk (carriedIds ids pending loads hand)
  chains : ∀ l ∈ loads, l.chain ≠ []
  edits : ∀ r ∈ pending, Chained r.edit
  inHand : ∀ e ∈ hand, Chained e
  loadCount : loads.length ≤ 4
  editCount : pending.length ≤ 8

theorem handIds_cons (e : Edit) (hand : List Edit) : handIds (e :: hand) = handIds [e] ++ handIds hand := by
  unfold handIds
  rw [List.filter_cons]
  split <;> simp_all

theorem chained_loadEdit {l : Load} (h : l.chain ≠ []) : Chained (loadEdit l) := fun _ => by rwa [chain_loadEdit]

/-! ### A load that changes -/

theorem length_mapLoad (loads : List Load) (tag : Nat) (f : Load → Load) : (mapLoad loads tag f).length = loads.length := by
  induction loads with
  | nil => rfl
  | cons l rest ih =>
    unfold mapLoad
    split <;> simp [ih]

theorem chains_mapLoad {loads : List Load} {f : Load → Load} (hf : ∀ l, l.chain ≠ [] → (f l).chain ≠ [])
    (h : ∀ l ∈ loads, l.chain ≠ []) (tag : Nat) : ∀ l ∈ mapLoad loads tag f, l.chain ≠ [] := by
  induction loads with
  | nil => exact h
  | cons l rest ih =>
    obtain ⟨first, others⟩ := List.forall_mem_cons.mp h
    unfold mapLoad
    split
    · exact List.forall_mem_cons.mpr ⟨hf l first, others⟩
    · exact List.forall_mem_cons.mpr ⟨first, ih others⟩

/-- The ids that the NEW loads bring. -/
theorem newLoads_mapLoad {f : Load → Load} (hmode : ∀ l, (f l).mode = l.mode) (hstory : ∀ l, (f l).story = l.story)
    (loads : List Load) (tag : Nat) : ((mapLoad loads tag f).filter fun l => l.mode == .new).map Load.story
      = (loads.filter fun l => l.mode == .new).map Load.story := by
  induction loads with
  | nil => rfl
  | cons l rest ih =>
    unfold mapLoad
    split
    · simp only [List.filter_cons, hmode]
      split <;> simp [hstory]
    · simp only [List.filter_cons]
      split <;> simp [ih]

/-! ### What is carried -/

namespace Carried

variable {ids ids' : List Nat} {pending pending' : List PendingEdit} {loads loads' : List Load} {hand hand' : List Edit}

/-- The stories' own ids are distinct (R1). -/
theorem storyIds (k : Carried ids pending loads hand) : ids.Nodup := by
  have nodup := k.distinct.nodup
  unfold carriedIds at nodup
  exact (List.nodup_append.mp (List.nodup_append.mp (List.nodup_append.mp nodup).1).1).1

/-- With less carried, the ids are fewer. -/
theorem sub (k : Carried ids pending loads hand) (hids : ids'.Subperm ids) (hpending : pending'.Sublist pending)
    (hloads : loads'.Sublist loads) (hhand : hand'.Sublist hand) : Carried ids' pending' loads' hand' := by
  refine ⟨k.distinct.subperm ?_, fun l hl => k.chains l (hloads.subset hl), fun r hr => k.edits r (hpending.subset hr),
    fun e he => k.inHand e (hhand.subset he), hloads.length_le.trans k.loadCount, hpending.length_le.trans k.editCount⟩
  exact ((hids.append ((hpending.filter _).map _).subperm).append ((hloads.filter _).map _).subperm).append
    ((hhand.filter _).map _).subperm

/-- An edit without a chain may be taken in hand. -/
theorem take (k : Carried ids pending loads hand) {e : Edit} (bare : e.body.carriesChain = false) :
    Carried ids pending loads (e :: hand) := by
  have none : handIds [e] = [] := by
    have kind : e.kind ≠ .insert := by
      unfold Edit.kind
      cases body : e.body <;> simp_all [EditBody.carriesChain]
    simp [handIds, kind]
  refine ⟨?_, k.chains, k.edits, List.forall_mem_cons.mpr ⟨fun carries => ?_, k.inHand⟩, k.loadCount, k.editCount⟩
  · rw [carriedIds, handIds_cons, none]
    exact k.distinct
  · rw [bare] at carries
    cases carries

/-- An edit that is given up brings nothing (R40). -/
theorem drop {e : Edit} (k : Carried ids pending loads (e :: hand)) : Carried ids pending loads hand :=
  k.sub (.refl _) (.refl _) (.refl _) (List.sublist_cons_self _ _)

/-- An edit in hand that is applied brings its story's id into the rundown, if it is an insertion (R3). -/
theorem settle {e : Edit} (k : Carried ids pending loads (e :: hand)) (hids : ids'.Subperm (handIds [e] ++ ids)) :
    Carried ids' pending loads hand := by
  refine ⟨k.distinct.subperm ?_, k.chains, k.edits, (List.forall_mem_cons.mp k.inHand).2, k.loadCount, k.editCount⟩
  refine List.subperm_ext_iff.mpr fun id _ => ?_
  have := hids.count_le id
  rw [carriedIds, carriedIds, handIds_cons]
  simp only [List.count_append] at this ⊢
  omega

/-- A record that leaves the list comes in hand (R37). -/
theorem leave (k : Carried ids pending loads hand) {r : PendingEdit} (hr : r ∈ pending) :
    Carried ids (pending.filter fun x => !(x.arrival == r.arrival)) loads (r.edit :: hand) := by
  obtain ⟨before, after, rfl⟩ := List.append_of_mem hr
  have less : ((before ++ r :: after).filter fun x => !(x.arrival == r.arrival)).Sublist (before ++ after) := by
    rw [List.filter_append, List.filter_cons_of_neg (by simp)]
    exact List.filter_sublist.append List.filter_sublist
  refine Carried.sub ⟨k.distinct.perm ?_, k.chains, fun x hx => k.edits x ?_,
    List.forall_mem_cons.mpr ⟨k.edits r hr, k.inHand⟩, k.loadCount, ?_⟩ (.refl _) less (.refl _) (.refl _)
  · refine List.perm_iff_count.mpr fun id => ?_
    rw [carriedIds, carriedIds, handIds_cons]
    by_cases insert : r.edit.kind = .insert
    · simp [handIds, insert, List.count_cons]
      omega
    · simp [handIds, insert]
  · exact List.perm_middle.mem_iff.mpr (List.mem_cons_of_mem r hx)
  · have := k.editCount
    simp only [List.length_append, List.length_cons] at this ⊢
    omega

/-- Every record for one story comes in hand (R42). -/
theorem takeRecords (k : Carried ids pending loads hand) (p : PendingEdit → Bool) :
    Carried ids (pending.filter fun r => !p r) loads ((pending.filter p).map PendingEdit.edit ++ hand) := by
  have parts : (pending.filter p ++ pending.filter fun r => !p r).Perm pending := List.filter_append_perm p pending
  refine ⟨k.distinct.perm ?_, k.chains, fun r hr => k.edits r (List.mem_of_mem_filter hr),
    List.forall_mem_append.mpr ⟨fun e he => ?_, k.inHand⟩, k.loadCount, (List.length_filter_le _ _).trans k.editCount⟩
  · refine List.perm_iff_count.mpr fun id => ?_
    have whole := ((parts.filter fun r => r.edit.kind == .insert).map fun r => r.edit.story).count_eq id
    simp only [List.filter_append, List.map_append, List.count_append] at whole
    simp only [carriedIds, handIds, List.filter_append, List.map_append, List.count_append, List.filter_map, List.map_map,
      Function.comp_def, ← whole]
    omega
  · obtain ⟨r, hr, rfl⟩ := List.mem_map.mp he
    exact k.edits r (List.mem_of_mem_filter hr)

/-- An edit in hand that joins the list (R38). -/
theorem join {e : Edit} (k : Carried ids pending loads (e :: hand)) (room : pending.length < 8) (marks arrival : Nat) :
    Carried ids (pending ++ [⟨e, marks, arrival⟩]) loads hand := by
  obtain ⟨chained, others⟩ := List.forall_mem_cons.mp k.inHand
  refine ⟨k.distinct.perm ?_, k.chains, List.forall_mem_append.mpr ⟨k.edits, by simpa using chained⟩, others, k.loadCount,
    by simpa using room⟩
  refine List.perm_iff_count.mpr fun id => ?_
  rw [carriedIds, carriedIds, handIds_cons]
  by_cases insert : e.kind = .insert
  · simp [handIds, insert, List.count_cons]
    omega
  · simp [handIds, insert]

/-- A load whose slot becomes free leaves its edit in hand (R27). -/
theorem finish {before after : List Load} {l : Load} (k : Carried ids pending (before ++ l :: after) hand) :
    Carried ids pending (before ++ after) (loadEdit l :: hand) := by
  obtain ⟨here, own, there⟩ := List.forall_mem_append.mp k.chains |>.imp_right List.forall_mem_cons.mp
  refine ⟨k.distinct.perm ?_, List.forall_mem_append.mpr ⟨here, there⟩, k.edits,
    List.forall_mem_cons.mpr ⟨chained_loadEdit own, k.inHand⟩, ?_, k.editCount⟩
  · refine List.perm_iff_count.mpr fun id => ?_
    rw [carriedIds, carriedIds, handIds_cons]
    by_cases new : l.mode = .new
    · simp [handIds, (kind_loadEdit l).mpr new, new, story_loadEdit, List.count_cons]
      omega
    · simp [handIds, mt (kind_loadEdit l).mp new, new]
  · have := k.loadCount
    simp only [List.length_append, List.length_cons] at this ⊢
    omega

/-- A change of a load that leaves its id and a chain with lines. -/
theorem changeLoad (k : Carried ids pending loads hand) {f : Load → Load} (hmode : ∀ l, (f l).mode = l.mode)
    (hstory : ∀ l, (f l).story = l.story) (hchain : ∀ l, l.chain ≠ [] → (f l).chain ≠ []) (tag : Nat) :
    Carried ids pending (mapLoad loads tag f) hand := by
  refine ⟨?_, chains_mapLoad hchain k.chains tag, k.edits, k.inHand, (length_mapLoad ..).trans_le k.loadCount, k.editCount⟩
  rw [carriedIds, newLoads_mapLoad hmode hstory]
  exact k.distinct

/-- A load that is opened (R23). -/
theorem addLoad (k : Carried ids pending loads hand) {l : Load} (lines : l.chain ≠ []) (room : loads.length < 4)
    (hids : l.mode = .new → IdsOk (l.story :: carriedIds ids pending loads hand)) : Carried ids pending (loads ++ [l]) hand := by
  refine ⟨?_, List.forall_mem_append.mpr ⟨k.chains, by simpa using lines⟩, k.edits, k.inHand, by simpa using room, k.editCount⟩
  by_cases new : l.mode = .new
  · refine (hids new).perm (List.perm_iff_count.mpr fun id => ?_)
    simp [carriedIds, new, List.count_cons]
    omega
  · have := k.distinct
    simp only [carriedIds] at this ⊢
    simpa [new] using this

end Carried

end Sys2Proof.Machine
end

section
/-! Every step keeps the position in the script, and the directory and the mark list true (R51, R52, R63, R64, R67). -/

namespace Sys2Proof.Machine

/-! ### The script with edits in hand -/

/-- What is carried, the layout and the on-air id are true, while the edits `hand` are in hand and `pending` are the records of the
pending edit list that are still to be counted. -/
def Scripted (pending : List PendingEdit) (hand : List Edit) (s : State) : Prop :=
  Carried (s.store.stories.map Story.id) pending s.edit.loads hand ∧ Laid s.store.stories s.layout s.scroll.p ∧ OnAirKept s

/-- The script between two operations, with no edit in hand. -/
def Script (s : State) : Prop := Scripted s.edit.pending [] s

theorem carriedIds_eq (s : State) : carriedIds (s.store.stories.map Story.id) s.edit.pending s.edit.loads [] = idsInUse s :=
  List.append_nil _

theorem script_iff_inv (s : State) : Script s ↔ PositionInv s := by
  constructor
  · rintro ⟨⟨⟨nodup, few, range⟩, chains, edits, -, loadCount, editCount⟩,
      ⟨columns, target, rundown, position, marks⟩, onAir⟩
    rw [carriedIds_eq] at nodup few range
    exact ⟨⟨nodup, few, range, loadCount, editCount⟩, ⟨chains, edits⟩, columns, target, rundown, position, marks, onAir⟩
  · rintro ⟨⟨nodup, few, range, loadCount, editCount⟩, ⟨chains, edits⟩, columns, target, rundown, position, marks, onAir⟩
    rw [← carriedIds_eq] at nodup few range
    exact ⟨⟨⟨nodup, few, range⟩, chains, edits, nofun, loadCount, editCount⟩,
      ⟨columns, target, rundown, position, marks⟩, onAir⟩

/-- The on-air id is true by the ids and the states of the stories (R10). -/
theorem OnAirKept.congr {s t : State} (h : OnAirKept s) (hid : t.store.onAirId = s.store.onAirId)
    (hst : t.store.stories.map (fun st => (st.id, st.state)) = s.store.stories.map fun st => (st.id, st.state)) : OnAirKept t := by
  have iff : ∀ u : State, OnAirKept u ↔
      (∀ x ∈ u.store.stories.map fun st => (st.id, st.state), x.2 = .onAir → u.store.onAirId = x.1)
        ∧ ((∀ x ∈ u.store.stories.map fun st => (st.id, st.state), x.2 ≠ .onAir) → u.store.onAirId = 0) := fun u => by
    simp [OnAirKept]
  rw [iff, hid, hst]
  exact (iff s).mp h

/-- A pending count that changes leaves the rest of a rundown (R37). -/
theorem map_bumpPending {α : Type} (g : Story → α) (hg : ∀ st n, g { st with pendingCount := n } = g st) (f : Nat → Nat) (id : Nat)
    (s : State) : (bumpPending f id s).store.stories.map g = s.store.stories.map g :=
  map_mapStory g (fun st => hg st _) _ _

theorem markRecords_bumpPending (f : Nat → Nat) (id : Nat) (s : State) :
    markRecords 0 (bumpPending f id s).store.stories = markRecords 0 s.store.stories := by
  have counts : ∀ start stories,
      markRecords start (mapStory stories id fun st => { st with pendingCount := f st.pendingCount }) = markRecords start stories := by
    intro start stories
    induction stories generalizing start with
    | nil => rfl
    | cons st rest ih =>
      unfold mapStory
      split
      · rfl
      · simp only [markRecords, ih]
  exact counts 0 s.store.stories

namespace Scripted

variable {pending : List PendingEdit} {hand : List Edit} {s : State}

theorem withCarried (ok : Scripted pending hand s) {pending' : List PendingEdit} {hand' : List Edit}
    (h : Carried (s.store.stories.map Story.id) pending s.edit.loads hand →
      Carried (s.store.stories.map Story.id) pending' s.edit.loads hand') : Scripted pending' hand' s := by
  obtain ⟨carried, rest⟩ := ok
  exact ⟨h carried, rest⟩

theorem withLoads (ok : Scripted pending hand s) {loads : List Load} {hand' : List Edit}
    (h : Carried (s.store.stories.map Story.id) pending s.edit.loads hand →
      Carried (s.store.stories.map Story.id) pending loads hand') : Scripted pending hand' (s.setLoads loads) := by
  obtain ⟨carried, rest⟩ := ok
  exact ⟨h carried, rest⟩

theorem withLayout (ok : Scripted pending hand s) {layout : Layout}
    (h : Laid s.store.stories s.layout s.scroll.p → Laid s.store.stories layout s.scroll.p) :
    Scripted pending hand { s with layout := layout } := by
  obtain ⟨carried, laid, onAir⟩ := ok
  exact ⟨carried, h laid, onAir⟩

theorem freeSlots (ok : Scripted pending hand s) (n : Nat) : Scripted pending hand (freeSlots n s) := ok

theorem raise (ok : Scripted pending hand s) (n : Notice) : Scripted pending hand (raise n s) := by
  rw [raise_frame]
  exact ok

/-- The pending count of a story is no concern of the script (R37). -/
theorem bumpPending (ok : Scripted pending hand s) (f : Nat → Nat) (id : Nat) : Scripted pending hand (bumpPending f id s) := by
  obtain ⟨carried, ⟨columns, target, rundown, position, marks⟩, onAir⟩ := ok
  refine ⟨?_, ⟨columns, target, fun x hx => ?_, ?_, ?_⟩, onAir.congr rfl ?_⟩
  · rw [map_bumpPending Story.id fun _ _ => rfl]
    exact carried
  · obtain ⟨st, hst, rfl⟩ := (mem_mapStory carried.storyIds).mp hx
    split
    · exact (rundown st hst).withPendingCount _
    · exact rundown st hst
  · rw [rowsOf, map_bumpPending Story.rowCount fun _ _ => rfl]
    exact position
  · exact marks.trans (markRecords_bumpPending _ _ _).symm
  · exact map_bumpPending (fun st => (st.id, st.state)) (fun _ _ => rfl) _ _ _

/-- A recomputation of the states makes the on-air id true, and leaves the rest (R9, R10). -/
theorem of_recomputeStates (carried : Carried (s.store.stories.map Story.id) pending s.edit.loads hand)
    (laid : Laid s.store.stories s.layout s.scroll.p) : Scripted pending hand (recomputeStates s) := by
  refine ⟨?_, ?_, onAirKept_recomputeStates s⟩
  · rw [recomputeStates_stories, recomputeFrom_frame Story.id fun _ _ => rfl, recomputeStates_edit]
    exact carried
  · rw [recomputeStates_stories, recomputeStates_layout, recomputeStates_scroll]
    exact laid.recomputeFrom _

/-! ### Edits -/

/-- An edit in hand that is applied is settled (R43). -/
theorem applyEdit {e : Edit} (ok : Scripted pending (e :: hand) s) (fromPending : Bool) :
    Scripted pending hand (applyEdit fromPending e s) := by
  obtain ⟨carried, laid, -⟩ := ok
  have settled : Carried ((storeChanged e s).store.stories.map Story.id) pending s.edit.loads hand :=
    carried.settle (storyIds_storePrimitive _ _ _ _)
  have changed := (laid.scriptAnchored (List.forall_mem_cons.mp carried.inHand).1 carried.storyIds settled.storyIds).followRows s.rows
  have carried : Carried ((changeScript e s).store.stories.map Story.id) pending (changeScript e s).edit.loads hand := by
    rw [changeScript_eq, followRows_store, scriptAnchored_store, followRows_edit]
    simpa [scriptAnchored, storeChanged] using settled
  cases fromPending with
  | false => exact of_recomputeStates carried changed
  | true =>
    exact of_recomputeStates (s := Machine.raise (.editApplied e.tag e.kind e.story) (changeScript e s)) (by rwa [raise_store, raise_edit])
      (by rwa [raise_store, raise_layout, raise_scroll])

/-- A record in hand that is settled is applied, or discarded (R39, R40). -/
theorem settlePending {r : PendingEdit} (ok : Scripted pending (r.edit :: hand) s) : Scripted pending hand (settlePending r s) := by
  have unlisted : Scripted pending (r.edit :: hand)
      { s with edit := { s.edit with pending := s.edit.pending.filter fun x => !(x.arrival == r.arrival) } } := ok
  have left : Scripted pending (r.edit :: hand) (leavePending r s) := unlisted.bumpPending _ _
  unfold Machine.settlePending
  dsimp only
  split
  · exact ((left.withCarried Carried.drop).freeSlots _).raise _
  · exact left.applyEdit true

theorem settleEach {rs : List PendingEdit} (ok : Scripted pending (rs.map PendingEdit.edit ++ hand) s) :
    Scripted pending hand (rs.foldl (fun s r => Machine.settlePending r s) s) := by
  induction rs generalizing s with
  | nil => exact ok
  | cons r rest ih => exact ih ok.settlePending

end Scripted

theorem settleEach_pending (rs : List PendingEdit) (s : State) :
    (rs.foldl (fun s r => settlePending r s) s).edit.pending
      = s.edit.pending.filter fun x => rs.all fun r => !(x.arrival == r.arrival) := by
  induction rs generalizing s with
  | nil => simp
  | cons r rest ih =>
    rw [List.foldl_cons, ih, settlePending_pending, List.filter_filter]
    simp [Bool.and_comm]

/-- No record for the story is left (R42). -/
theorem settleAllFor_pending (id : Nat) (s : State) :
    (settleAllFor id s).edit.pending.Sublist (s.edit.pending.filter fun r => !(r.edit.story == id)) := by
  rw [settleAllFor, settleEach_pending]
  have none : ∀ x ∈ s.edit.pending.filter fun x => (s.edit.pending.filter fun r => r.edit.story == id).all fun r =>
      !(x.arrival == r.arrival), (!(x.edit.story == id)) = true := by
    intro x hx
    obtain ⟨hx, others⟩ := List.mem_filter.mp hx
    by_contra named
    have own := List.all_eq_true.mp others x (List.mem_filter.mpr ⟨hx, by simpa using named⟩)
    simp at own
  rw [← List.filter_eq_self.mpr none]
  exact List.filter_sublist.filter _

namespace Scripted

variable {hand : List Edit} {s : State}

/-- The edits for one story that are settled in turn, whose arrival numbers need not be distinct (R42). -/
theorem settleAllFor (ok : Scripted s.edit.pending hand s) (id : Nat) :
    Scripted (settleAllFor id s).edit.pending hand (settleAllFor id s) := by
  have taken : Scripted (s.edit.pending.filter fun r => !(r.edit.story == id))
      ((s.edit.pending.filter fun r => r.edit.story == id).map PendingEdit.edit ++ hand) s :=
    ok.withCarried fun carried => carried.takeRecords _
  have settled : Scripted (s.edit.pending.filter fun r => !(r.edit.story == id)) hand (Machine.settleAllFor id s) := taken.settleEach
  exact settled.withCarried fun carried => carried.sub (.refl _) (settleAllFor_pending id s) (.refl _) (.refl _)

end Scripted

namespace Script

variable {s : State}

theorem leavePending (ok : Script s) {r : PendingEdit} (hr : r ∈ s.edit.pending) : Script (leavePending r s) := by
  have left : Scripted (s.edit.pending.filter fun x => !(x.arrival == r.arrival)) []
      { s with edit := { s.edit with pending := s.edit.pending.filter fun x => !(x.arrival == r.arrival) } } :=
    Scripted.withCarried ok fun carried => (carried.leave hr).drop
  exact left.bumpPending _ _

theorem settlePending (ok : Script s) {r : PendingEdit} (hr : r ∈ s.edit.pending) : Script (settlePending r s) := by
  rw [Script, settlePending_pending]
  exact (Scripted.withCarried ok fun carried => carried.leave hr).settlePending

theorem release (ok : Script s) : Script (release s) := release_keeps (fun ok hr => ok.settlePending hr) ok

/-- An edit in hand that is applied, with the release that follows (R31, R39). -/
theorem applyReleased {e : Edit} (ok : Scripted s.edit.pending [e] s) : Script (Machine.release (applyEdit false e s)) := by
  refine release ?_
  rw [Script, applyEdit_edit]
  exact ok.applyEdit false

theorem joinPending {e : Edit} (ok : Scripted s.edit.pending [e] s) (room : s.edit.pending.length < 8) : Script (joinPending e s) := by
  have joined := Scripted.withCarried ok fun carried => carried.join room (chainMarks e.chain) s.edit.nextArrival
  have listed : Scripted (s.edit.pending ++ [⟨e, chainMarks e.chain, s.edit.nextArrival⟩]) []
      { s with edit :=
          { s.edit with
            pending := s.edit.pending ++ [⟨e, chainMarks e.chain, s.edit.nextArrival⟩], nextArrival := s.edit.nextArrival + 1 } } :=
    joined
  exact listed.bumpPending _ _

/-- An edit in hand that is presented is applied, refused, or joins the list (R31, R42). -/
theorem present {e : Edit} (ok : Scripted s.edit.pending [e] s) (force : Bool) : Script (present force e s).1 := by
  unfold Machine.present forceEdit
  dsimp only
  split
  · have settled := ok.settleAllFor e.story
    split
    · exact (settled.withCarried Carried.drop).freeSlots _
    · exact applyReleased settled
  · split
    · split
      · exact (ok.withCarried Carried.drop).freeSlots _
      · next room => exact joinPending ok (Nat.lt_of_not_le room)
    · exact applyReleased ok

/-! ### Loads -/

/-- The checks of LOAD_OPEN leave room for an id that is not in use (R22). -/
theorem idsOk_openLoad (ids : IdsOk (idsInUse s)) {tag mode : Byte} {story n : Word16} {place : Placement} (hstory : story ≠ 0)
    (hfault : loadOpenFault tag mode story n place s = none) (new : mode = 0) : IdsOk (story.toNat :: idsInUse s) := by
  unfold loadOpenFault at hfault
  split_ifs at hfault with hslot htag hexists hplace hreplace hstories hpool
  simp only [new, true_and, not_or, hasStory_eq_true_iff, List.any_eq_true, beq_iff_eq, not_exists, not_and] at hexists hstories
  obtain ⟨hrundown, hloads, hinserts⟩ := hexists
  refine ⟨List.nodup_cons.mpr ⟨?_, ids.nodup⟩, ?_, List.forall_mem_cons.mpr ⟨⟨?_, Nat.le_of_lt_succ story.isLt⟩, ids.range⟩⟩
  · simp only [idsInUse, List.mem_append, List.mem_map, not_or, not_exists, not_and]
    exact ⟨⟨hrundown, hinserts⟩, hloads⟩
  · simp only [idsInUse, List.length_cons, List.length_append, List.length_map, Config.maxStories] at hstories ⊢
    omega
  · exact Nat.pos_of_ne_zero fun zero => hstory (BitVec.eq_of_toNat_eq zero)

theorem openLoad (ok : Script s) {tag : Byte} {editTag : Word16} {mode : Byte} {story n : Word16} {placeKind : Byte}
    {place : Placement} {force : Byte} {slug : Line} (hranges : loadOpenRanges tag mode story n placeKind force = true)
    (hfault : loadOpenFault tag mode story n place s = none) : Script (openLoad tag editTag mode story n place force slug s) := by
  simp only [loadOpenRanges, Bool.and_eq_true, decide_eq_true_eq] at hranges
  obtain ⟨⟨⟨⟨⟨-, hstory⟩, lines, -⟩, -⟩, -⟩, -⟩ := hranges
  have room : s.edit.loads.length < 4 := by
    unfold loadOpenFault at hfault
    split_ifs at hfault with full
    exact Nat.lt_of_not_le full
  have opened : Scripted s.edit.pending []
      (s.setLoads (s.edit.loads ++ [newLoad tag editTag mode story n place force slug])) := by
    refine Scripted.withLoads ok fun carried => carried.addLoad ?_ room fun new => ?_
    · simpa [newLoad] using Nat.pos_iff_ne_zero.mp lines
    · have ids := carried.distinct
      rw [carriedIds_eq] at ids ⊢
      exact idsOk_openLoad ids hstory hfault (by simpa [newLoad] using new)
  exact opened

theorem chain_storeLine {text : Line} {l : Load} (lines : l.chain ≠ []) : (storeLine text l).chain ≠ [] := by
  simpa [storeLine] using lines

theorem storeLine (ok : Script s) (tag : Nat) (text : Line) : Script (s.setLoads (mapLoad s.edit.loads tag (storeLine text))) :=
  Scripted.withLoads ok fun carried =>
    carried.changeLoad (f := Machine.storeLine text) (fun _ => rfl) (fun _ => rfl) (fun _ => chain_storeLine) tag

theorem closeLoad (ok : Script s) (tag : Nat) : Script (closeLoad tag s) :=
  Scripted.withLoads ok fun carried => carried.sub (.refl _) (.refl _) List.eraseP_sublist (.refl _)

/-- The load that its last line completes is closed, and its edit presented (R27). -/
theorem presentLoad (ok : Script s) {tag : Nat} {l : Load} (found : findLoad s tag = some l) (force : Bool) (text : Line) :
    Script (Machine.present force (loadEdit (Machine.storeLine text l)) (Machine.closeLoad l.tag s)).1 := by
  obtain ⟨-, before, after, hs, first⟩ := findLoad_eq_some found
  have closed : Scripted s.edit.pending [loadEdit (Machine.storeLine text l)] (Machine.closeLoad l.tag s) := by
    refine Scripted.withLoads ok fun carried => ?_
    have stored := carried.changeLoad (f := Machine.storeLine text) (fun _ => rfl) (fun _ => rfl) (fun _ => chain_storeLine) l.tag
    rw [hs, mapLoad_split first] at stored
    rw [hs, eraseLoad_split first]
    exact stored.finish
  exact present closed force

/-! ### Layout and resets -/

theorem install (ok : Script s) {c : Nat} (h : s.layout.target = some c) : Script (installLayout c s) := by
  obtain ⟨carried, laid, -⟩ := ok
  have anchored := laid.reflowAnchored carried.storyIds (laid.target c h)
  have edit : (reflowAnchored c s).edit = s.edit := by simp [reflowAnchored, laidOut]
  have ids : (reflowAnchored c s).store.stories.map Story.id = s.store.stories.map Story.id := by
    simp [reflowAnchored, laidOut, id_layStory]
  rw [installLayout_eq, Script, recomputeStates_edit, edit]
  refine Scripted.of_recomputeStates ?_ anchored
  rw [ids, edit]
  exact carried

/-- An empty script with nothing open and nothing pending (R19, R20). -/
theorem clearShow (ok : Script s) : Script (clearShow s) := by
  obtain ⟨-, laid, -⟩ := ok
  exact ⟨⟨⟨List.nodup_nil, Nat.zero_le _, nofun⟩, nofun, nofun, nofun, Nat.zero_le _, Nat.zero_le _⟩,
    ⟨laid.columns, nofun, nofun, Nat.zero_le _, rfl⟩, nofun, fun _ => rfl⟩

theorem reset : Script State.reset := by
  obtain ⟨-, -, -, position, -⟩ := resetMeetsTheInvariants
  exact (script_iff_inv _).mpr position

end Script

theorem closed_script : Closed Script where
  outside ok := ok
  scroll ok position _ := by
    obtain ⟨carried, laid, onAir⟩ := ok
    exact ⟨carried, laid.withPosition (position laid.position), onAir⟩
  hub ok _ := ok
  cues ok _ := ok
  heads ok _ := ok
  lookahead ok _ := ok
  arming ok h := Scripted.withLayout ok fun laid => laid.withMarks (by simp [h])
  states ok := by
    obtain ⟨carried, laid, -⟩ := ok
    rw [Script, recomputeStates_edit]
    exact Scripted.of_recomputeStates carried laid
  openLoad ok ranges fault := ok.openLoad ranges fault
  idleLoad ok f := Scripted.withLoads ok fun carried =>
    carried.changeLoad (f := fun l => { l with idle := f l.idle }) (fun _ => rfl) (fun _ => rfl) (fun _ lines => lines) _
  storeLine ok := ok.storeLine _ _
  closeLoad ok := ok.closeLoad _
  presentLoad ok found := ok.presentLoad found _ _
  presentBare ok bare := .present (Scripted.withCarried ok fun carried => carried.take bare) _
  freeSlots ok := ok
  leavePending ok hr := ok.leavePending hr
  settlePending ok hr := ok.settlePending hr
  target ok h := by
    rw [setColumnsFault_eq] at h
    split_ifs at h with range
    refine Scripted.withLayout ok fun laid => laid.withTarget fun x hx => ?_
    obtain rfl := Option.some.inj hx
    omega
  install ok h := ok.install h
  abandon ok := Scripted.withLayout ok fun laid => laid.withTarget nofun
  clearShow ok := ok.clearShow
  fullReset := Script.reset
  heldInReset := Script.reset

/-- Settles O58: the script keeps its layout, its position and its mark list. -/
theorem everyStepKeepsThePositionInTheScript : Obligations.EveryStepKeepsThePositionInTheScript := by
  intro s t position h
  exact (script_iff_inv t).mp (closed_script.step ((script_iff_inv s).mpr position) h)

end Sys2Proof.Machine
end

section
/-! What governs the scroll: the control hub and the scroll state. Every operation of the script, the heads, the cue unit and the link
leaves both. -/

namespace Sys2Proof.Machine

/-- The control hub and the scroll state, by which the authority record is judged (R70, R103). -/
def control (s : State) : Hub × ScrollState := (s.hub, s.scroll.state)

theorem control_congr {s t : State} (hub : t.hub = s.hub) (state : t.scroll.state = s.scroll.state) : control t = control s := by
  simp [control, hub, state]

/-- Steps that each leave the control leave it together. -/
theorem control_foldl {α : Type} {f : State → α → State} (hf : ∀ s a, control (f s a) = control s) (l : List α) (s : State) :
    control (l.foldl f s) = control s :=
  List.foldlRecOn (motive := fun t => control t = control s) l f rfl fun t ht a _ => (hf t a).trans ht

/-! ### Records, notices, replies and the frame source -/

@[simp] theorem control_withLink (s : State) (x : Link) : control { s with link := x } = control s := rfl
@[simp] theorem control_withJob (s : State) (x : Option Job) : control { s with job := x } = control s := rfl
@[simp] theorem control_modHead (s : State) (h : Fin 4) (f : Head → Head) : control (s.modHead h f) = control s := rfl
@[simp] theorem control_modLine (s : State) (l : Fin 8) (f : CueLine → CueLine) : control (s.modLine l f) = control s := rfl
@[simp] theorem control_setMarks (s : State) (m : List MarkRecord) : control (s.setMarks m) = control s := rfl
@[simp] theorem control_setLoads (s : State) (l : List Load) : control (s.setLoads l) = control s := rfl
@[simp] theorem control_freeSlots (n : Nat) (s : State) : control (freeSlots n s) = control s := rfl
@[simp] theorem control_setCruise (x : Int) (s : State) : control (setCruise x s) = control s := rfl
@[simp] theorem control_portCruise (n : Fin 6) (x : Int) (s : State) : control (portCruise n x s) = control s := rfl
@[simp] theorem control_answer (c q : Byte) (r : Result) (a b : Bool) (y : ReplyBody) (s : State) :
    control (answer c q r a b y s) = control s := rfl
@[simp] theorem control_reply (c q : Byte) (r : Result) (y : ReplyBody) (s : State) : control (reply c q r y s) = control s := rfl
@[simp] theorem control_refuse (c q : Byte) (r : Reason) (s : State) : control (refuse c q r s) = control s := rfl
@[simp] theorem control_motionReply (c q : Byte) (r : Result) (s : State) : control (motionReply c q r s) = control s := rfl
@[simp] theorem control_raise (n : Notice) (s : State) : control (raise n s) = control s := control_congr (by simp) (by simp)
@[simp] theorem control_pump (s : State) : control (pump s) = control s := control_congr (by simp) (by simp)
@[simp] theorem control_refreshSource (s : State) : control (refreshSource s) = control s := control_congr (by simp) (by simp)
@[simp] theorem control_recomputeStates (s : State) : control (recomputeStates s) = control s := control_congr (by simp) (by simp)

/-! ### Heads and render unit -/

@[simp] theorem control_setHeadState (h : Fin 4) (new : HeadState) (s : State) : control (setHeadState h new s) = control s := by
  simp [setHeadState]

@[simp] theorem control_clearDegraded (h : Fin 4) (s : State) : control (clearDegraded h s) = control s := by
  unfold clearDegraded; split <;> simp

@[simp] theorem control_enterDisabled (h : Fin 4) (s : State) : control (enterDisabled h s) = control s := by simp [enterDisabled]

@[simp] theorem control_beginJob (h : Fin 4) (slot : Fin 32) (r : Nat) (s : State) : control (beginJob h slot r s) = control s := by
  unfold beginJob; split <;> rfl

@[simp] theorem control_arbiter (fuel : Nat) (s : State) : control (arbiter fuel s) = control s := by
  induction fuel generalizing s with
  | zero => rfl
  | succ fuel ih => simp only [arbiter]; (repeat' split) <;> simp [ih]

@[simp] theorem control_chooseNext (s : State) : control (chooseNext s) = control s := control_arbiter _ s

@[simp] theorem control_judgeFrame (h : Fin 4) (s : State) : control (judgeFrame h s) = control s := by
  unfold judgeFrame; dsimp only; (repeat' split) <;> simp

@[simp] theorem control_syncFrame (h : Fin 4) (s : State) : control (syncFrame h s) = control s := by
  unfold syncFrame; dsimp only; split <;> simp

@[simp] theorem control_giveFrame (h : Fin 4) (s : State) : control (giveFrame h s) = control s := by
  unfold giveFrame; split <;> rfl

@[simp] theorem control_headFrame (h : Fin 4) (s : State) : control (headFrame h s) = control s := by
  unfold headFrame; dsimp only; (repeat' split) <;> simp

@[simp] theorem control_frameStart (h : Fin 4) (s : State) : control (frameStart h s) = control s := by
  unfold frameStart; split <;> simp

@[simp] theorem control_syncLoss (h : Fin 4) (s : State) : control (syncLoss h s) = control s := by
  unfold syncLoss; dsimp only; (repeat' split) <;> simp

@[simp] theorem control_stopHead (h : Fin 4) (s : State) : control (stopHead h s) = control s := by
  unfold stopHead; (repeat' split) <;> simp

@[simp] theorem control_renderComplete (s : State) : control (renderComplete s) = control s := by
  unfold renderComplete
  split
  · rfl
  · dsimp only
    rw [control_chooseNext]
    (repeat' split)
    any_goals rfl
    exact control_enterDisabled ..

/-! ### Cue unit and scroll controller -/

@[simp] theorem control_runAction (s : State) (a : CueAction) : control (runAction s a) = control s := by cases a <;> rfl

@[simp] theorem control_fireMark (s : State) (m : MarkRecord) : control (fireMark s m) = control s := by
  simp [fireMark, control_foldl control_runAction]

@[simp] theorem control_takeAdvance (p p' : Nat) (s : State) : control (takeAdvance p p' s) = control s := by
  unfold takeAdvance rearm fireMarks; split <;> simp [control_foldl control_fireMark]

@[simp] theorem control_countFrame (s : State) : control (countFrame s) = control s := by rw [countFrame_frame, control_withLink]

@[simp] theorem control_internalExpiry (n : Nat) (s : State) : control (internalExpiry n s) = control s := by
  unfold internalExpiry; split <;> rfl

@[simp] theorem control_jumpTo (row : Int) (s : State) : control (jumpTo row s) = control s := by
  rw [jumpTo, control_recomputeStates]
  rfl

@[simp] theorem control_keyJump (row : Nat) (s : State) : control (keyJump row s) = control s := by
  unfold keyJump; split <;> simp

@[simp] theorem control_trimCruise (n : Fin 6) (d : Int) (s : State) : control (trimCruise n d s) = control s := by
  unfold trimCruise; dsimp only; split <;> simp

@[simp] theorem control_scriptAnchored (e : Edit) (s : State) : control (scriptAnchored e s) = control s := by
  refine control_congr (SettleFrame.scriptAnchored e s).hub ?_
  simp only [scriptAnchored]
  rw [reanchor_scroll]
  rfl

@[simp] theorem control_installLayout (c : Nat) (s : State) : control (installLayout c s) = control s := by
  rw [installLayout, control_recomputeStates]
  refine control_congr (reanchor_hub ..) ?_
  dsimp only [State.setMarks]
  rw [reanchor_scroll]

/-! ### Loads and time -/

@[simp] theorem control_loadIdleExpiry (tag : Nat) (s : State) : control (loadIdleExpiry tag s) = control s := by
  unfold loadIdleExpiry
  split
  · rfl
  · rw [control_raise]
    rfl

@[simp] theorem control_tickLoad (s : State) (tag : Nat) : control (tickLoad s tag) = control s := by
  unfold tickLoad; (repeat' split) <;> simp

@[simp] theorem control_tickHead (s : State) (h : Fin 4) : control (tickHead s h) = control s := by
  unfold tickHead; split <;> simp

@[simp] theorem control_tickFrameTimer (s : State) : control (tickFrameTimer s) = control s := by
  unfold tickFrameTimer
  (repeat' split)
  · exact control_internalExpiry ..
  · rfl
  · rfl

/-! ### Commands -/

@[simp] theorem control_badLengthReply (code seq : Byte) (s : State) : control (badLengthReply code seq s) = control s := by
  unfold badLengthReply; split <;> simp

@[simp] theorem control_cmdSetColumns (seq c : Byte) (s : State) : control (cmdSetColumns seq c s) = control s := by
  unfold cmdSetColumns
  split
  · rfl
  · dsimp only
    split
    · rw [control_raise, control_reply]
    · rfl

@[simp] theorem control_cmdSetCurve (seq : Byte) (q : Vector Word16 9) (s : State) : control (cmdSetCurve seq q s) = control s := by
  unfold cmdSetCurve; dsimp only; (repeat' split) <;> rfl

@[simp] theorem control_cmdSetFrameSource (seq source rate : Byte) (s : State) :
    control (cmdSetFrameSource seq source rate s) = control s := by
  unfold cmdSetFrameSource
  split
  · rfl
  · dsimp only
    rw [control_reply, control_refreshSource]
    rfl

@[simp] theorem control_cmdReadStory (seq : Byte) (story : Word16) (s : State) : control (cmdReadStory seq story s) = control s := by
  unfold cmdReadStory; split <;> rfl

@[simp] theorem control_cmdJump (seq kind : Byte) (story line rows : Word16) (s : State) :
    control (cmdJump seq kind story line rows s) = control s := by
  unfold cmdJump; (repeat' split) <;> simp

@[simp] theorem control_cmdCueDefine (seq cue : Byte) (actions : List ActionField) (s : State) :
    control (cmdCueDefine seq cue actions s) = control s := by
  unfold cmdCueDefine; (repeat' split) <;> rfl

@[simp] theorem control_cmdCueRead (seq cue : Byte) (s : State) : control (cmdCueRead seq cue s) = control s := by
  unfold cmdCueRead; split <;> rfl

@[simp] theorem control_cmdOutputSet (seq mask operation duration : Byte) (s : State) :
    control (cmdOutputSet seq mask operation duration s) = control s := by
  unfold cmdOutputSet; dsimp only; split <;> rfl

@[simp] theorem control_cmdHeadConfig (seq head : Byte) (width height : Word16) (scale leading : Byte) (margin : Word16)
    (readingRow rate : Byte) (s : State) :
    control (cmdHeadConfig seq head width height scale leading margin readingRow rate s) = control s := by
  unfold cmdHeadConfig; (repeat' split) <;> simp

@[simp] theorem control_cmdHeadStart (seq head : Byte) (s : State) : control (cmdHeadStart seq head s) = control s := by
  unfold cmdHeadStart; (repeat' split) <;> simp

@[simp] theorem control_cmdHeadStop (seq head : Byte) (s : State) : control (cmdHeadStop seq head s) = control s := by
  unfold cmdHeadStop; dsimp only; split <;> simp

@[simp] theorem control_cmdHeadBlank (seq head : Byte) (s : State) : control (cmdHeadBlank seq head s) = control s := by
  unfold cmdHeadBlank; (repeat' split) <;> simp

@[simp] theorem control_cmdHeadUnblank (seq head : Byte) (s : State) : control (cmdHeadUnblank seq head s) = control s := by
  unfold cmdHeadUnblank; (repeat' split) <;> simp

@[simp] theorem control_cmdHeadAppearance (seq head : Byte) (f : AppearanceFields) (s : State) :
    control (cmdHeadAppearance seq head f s) = control s := by
  unfold cmdHeadAppearance; split <;> simp

@[simp] theorem control_cmdHeadRead (seq head : Byte) (s : State) : control (cmdHeadRead seq head s) = control s := by
  unfold cmdHeadRead; split <;> rfl

@[simp] theorem control_cmdLoadOpen (seq tag : Byte) (editTag : Word16) (mode : Byte) (story n : Word16) (placeKind : Byte)
    (placeId : Word16) (force : Byte) (slug : List Byte) (s : State) :
    control (cmdLoadOpen seq tag editTag mode story n placeKind placeId force slug s) = control s := by
  unfold cmdLoadOpen; dsimp only; (repeat' split) <;> rfl

@[simp] theorem control_cmdLoadLine (seq tag : Byte) (text : List Byte) (s : State) : control (cmdLoadLine seq tag text s) = control s := by
  unfold cmdLoadLine; dsimp only; (repeat' split) <;> rfl

@[simp] theorem control_cmdLoadCancel (seq tag : Byte) (s : State) : control (cmdLoadCancel seq tag s) = control s := by
  unfold cmdLoadCancel; split <;> rfl

@[simp] theorem control_cmdEditCancel (seq : Byte) (editTag : Word16) (s : State) : control (cmdEditCancel seq editTag s) = control s := by
  unfold cmdEditCancel; split <;> rfl

end Sys2Proof.Machine
end

section
/-! The operations of the control hub, each said once: what it makes of the ports and of the holder (R100, R103 to R112). -/

namespace Sys2Proof.Machine

/-! ### The records of the ports -/

/-- The records of the ports up to their flags must-rest and refused, which are all that a key, a request or the end of a hold changes
of them (R100, R108). -/
def PortsKept (s t : State) : Prop :=
  ∀ i : Fin 6, ∃ rest refused, t.hub.ports[i] = { s.hub.ports[i] with mustRest := rest, refused := refused }

namespace PortsKept

theorem refl (s : State) : PortsKept s s := fun _ => ⟨_, _, rfl⟩

theorem trans {s t u : State} (h : PortsKept s t) (h' : PortsKept t u) : PortsKept s u := by
  intro i
  obtain ⟨rest, refused, same⟩ := h i
  obtain ⟨rest', refused', same'⟩ := h' i
  exact ⟨rest', refused', by rw [same', same]⟩

theorem of_hub {s t : State} (h : t.hub.ports = s.hub.ports) : PortsKept s t := by
  intro i
  rw [h]
  exact ⟨_, _, rfl⟩

/-- A change of the flags of one port. -/
theorem modPort (s : State) (n : Fin 6) {f : Port → Port}
    (hf : ∀ x, ∃ rest refused, f x = { x with mustRest := rest, refused := refused } := by exact fun _ => ⟨_, _, rfl⟩) :
    PortsKept s (s.modPort n f) := by
  intro i
  rw [modPort_hub_ports, upd_get]
  split
  · next same =>
    subst same
    exact hf _
  · exact ⟨_, _, rfl⟩

end PortsKept

/-! ### The holder -/

@[simp] theorem setHolder_hub (new : Option Holder) (timer : Option Nat) (c : AuthorityCause) (s : State) :
    (setHolder new timer c s).hub = { s.hub with holder := new, releaseTimer := timer } := by simp [setHolder]

@[simp] theorem setHolder_scroll (new : Option Holder) (timer : Option Nat) (c : AuthorityCause) (s : State) :
    (setHolder new timer c s).scroll = s.scroll := by simp [setHolder]

/-- The ports with must-rest set on the holder's (R100). -/
def restedPorts (x : Hub) : Vector Port 6 :=
  Vector.ofFn fun i => if ∃ h ∈ x.holder, h.port = i then { x.ports[i] with mustRest := true } else x.ports[i]

theorem restedPorts_get (x : Hub) (i : Fin 6) :
    (restedPorts x)[i] = if ∃ h ∈ x.holder, h.port = i then { x.ports[i] with mustRest := true } else x.ports[i] := by
  simp [restedPorts]

/-- Two vectors with the same entries are the same. -/
theorem ports_ext {a b : Vector Port 6} (h : ∀ i : Fin 6, a[i] = b[i]) : a = b := Vector.ext fun i hi => h ⟨i, hi⟩

theorem restHolder_eq (s : State) : restHolder s = { s with hub := { s.hub with ports := restedPorts s.hub } } := by
  have ports : (restHolder s).hub.ports = restedPorts s.hub := by
    refine ports_ext fun i => ?_
    rw [restedPorts_get]
    unfold restHolder
    cases s.hub.holder with
    | none => simp
    | some h =>
      rw [modPort_hub_ports, upd_get]
      by_cases same : i = h.port
      · subst same
        simp
      · simp [same, Ne.symm same]
  rw [← ports]
  unfold restHolder
  split <;> rfl

theorem portsKept_restHolder (s : State) : PortsKept s (restHolder s) := by
  unfold restHolder
  split
  · exact .modPort s _
  · exact .refl s

@[simp] theorem restHolder_scroll (s : State) : (restHolder s).scroll = s.scroll := by rw [restHolder_eq]
@[simp] theorem restHolder_holder (s : State) : (restHolder s).hub.holder = s.hub.holder := by rw [restHolder_eq]

/-- A hold that ends leaves the statements' `holdEnded` (R112). -/
theorem endHold_eq (c : AuthorityCause) (s : State) : endHold c s = holdEnded c s := by
  unfold endHold holdEnded
  cases holder : s.hub.holder with
  | none => rfl
  | some h =>
    have ports : restedPorts s.hub =
        Vector.ofFn fun i => if i = h.port then { s.hub.ports[i] with mustRest := true } else s.hub.ports[i] := by
      unfold restedPorts
      simp [holder, eq_comm]
    dsimp only
    rw [restHolder_eq, ports]
    simp [setHolder, holder]

@[simp] theorem endHold_scroll (c : AuthorityCause) (s : State) : (endHold c s).scroll = s.scroll := by
  unfold endHold; split <;> simp

@[simp] theorem endHold_holder (c : AuthorityCause) (s : State) : (endHold c s).hub.holder = none := by
  unfold endHold
  split
  · simp
  · assumption

theorem leverHolds_congr {s t : State} (h : t.hub.holder = s.hub.holder) : leverHolds t = leverHolds s := by
  simp only [leverHolds, h]

theorem leverHolds_of_none {s : State} (h : s.hub.holder = none) : leverHolds s = false := by simp only [leverHolds, h]

theorem leverHolds_of_wheel {s : State} (h : ∀ x ∈ s.hub.holder, x.kind = .wheel) : leverHolds s = false := by
  unfold leverHolds
  split
  · next x holder => rw [h x holder]; rfl
  · rfl

/-- While no lever or pedal holds, there is a KEYPAD's or a wheel's hold, or none (R103). -/
theorem leverHolds_endLeverHold (s : State) : leverHolds (endLeverHold s) = false := by
  unfold endLeverHold
  split
  · exact leverHolds_of_none (endHold_holder ..)
  · next none => exact Bool.eq_false_iff.mpr none

theorem holds_iff {n : Fin 6} {s : State} : holds n s = true ↔ ∃ h ∈ s.hub.holder, h.port = n := by
  unfold holds
  cases s.hub.holder <;> simp

/-- The loss of a holder's port leaves the statements' `controlLost` (R85, R111). -/
theorem loseControl_eq (n : Fin 6) (s : State) : loseControl n s = controlLost n s := by
  unfold loseControl controlLost
  by_cases holder : ∃ h ∈ s.hub.holder, h.port = n
  · rw [if_pos (holds_iff.mpr holder), if_pos holder]
    obtain ⟨h, hh, rfl⟩ := holder
    have hh : s.hub.holder = some h := hh
    simp only [stopLost, setHolder_scroll]
    simp only [setHolder, hh, Option.map_some]
    rfl
  · rw [if_neg (fun holds => holder (holds_iff.mp holds)), if_neg holder]

theorem controlLost_ports (n : Fin 6) (s : State) : (controlLost n s).hub.ports = s.hub.ports := by
  unfold controlLost
  split
  · dsimp only
    split
    · exact (congrArg Hub.ports (setScrollState_hub ..)).trans (by simp)
    · simp
  · rfl

theorem goStale_ports (n : Fin 6) (s : State) :
    (goStale n s).hub.ports = upd s.hub.ports n fun x => { x with state := .stale, timer := none, refused := false } := by
  rw [goStale, loseControl_eq, controlLost_ports, raise_hub, modPort_hub_ports]

/-! ### What follows the hub's flags and the end of a hold -/

/-- The hub after the keys of a report: its ports up to their flags, and the holder, unless the hold has ended (R107, R108, R112). -/
structure HubFollows (s t : State) : Prop where
  ports : PortsKept s t
  holder : t.hub.holder = s.hub.holder ∨ t.hub.holder = none

namespace HubFollows

theorem refl (s : State) : HubFollows s s := ⟨.refl s, .inl rfl⟩

theorem trans {s t u : State} (h : HubFollows s t) (h' : HubFollows t u) : HubFollows s u := by
  refine ⟨h.ports.trans h'.ports, ?_⟩
  rcases h'.holder with same | none
  · rw [same]
    exact h.holder
  · exact .inr none

theorem of_hub {s t : State} (h : t.hub = s.hub) : HubFollows s t := ⟨.of_hub (by rw [h]), .inl (by rw [h])⟩

theorem of_control {s t : State} (h : control t = control s) : HubFollows s t := of_hub (congrArg Prod.fst h)

theorem setScrollState (new : ScrollState) (c : ScrollCause) (s : State) : HubFollows s (setScrollState new c s) := of_hub (by simp)

theorem setReleaseTimer (s : State) (t : Option Nat) : HubFollows s (s.setReleaseTimer t) := ⟨.of_hub rfl, .inl rfl⟩

theorem endHold (c : AuthorityCause) (s : State) : HubFollows s (endHold c s) := by
  refine ⟨?_, .inr (endHold_holder c s)⟩
  unfold Machine.endHold
  split
  · exact (portsKept_restHolder s).trans (.of_hub (by simp))
  · exact .refl s

theorem endLeverHold (s : State) : HubFollows s (endLeverHold s) := by
  unfold Machine.endLeverHold
  split
  · exact endHold _ s
  · exact refl s

theorem contend (n : Fin 6) (s : State) : HubFollows s (contend n s) := by
  unfold Machine.contend
  have flagged : PortsKept s (s.modPort n fun x => { x with refused := true }) := .modPort s n
  (repeat' split)
  · exact refl s
  · exact refl s
  · exact ⟨flagged.trans (.of_hub (by simp)), .inl (by simp)⟩

theorem runKey (n : Fin 6) (k : ActionKey) (s : State) : HubFollows s (runKey n k s) := by
  have jumped : ∀ row, HubFollows s (keyJump row s) := fun row => of_control (control_keyJump row s)
  have sped : ∀ delta, HubFollows s (speedKey n delta s) := fun delta => by
    have trimmed : HubFollows s (trimCruise n delta s) := of_control (control_trimCruise ..)
    unfold speedKey
    dsimp only
    split
    · exact trimmed
    · exact (trimmed.trans (endLeverHold _)).trans (setScrollState ..)
    all_goals exact trimmed.trans (setScrollState ..)
  cases k with
  | stop =>
    unfold Machine.runKey stopScroll
    dsimp only
    split
    · exact endHold _ s
    · exact (endHold _ s).trans (setScrollState ..)
  | resume =>
    unfold Machine.runKey resumeKey
    dsimp only
    split
    · exact setScrollState ..
    · exact setScrollState ..
    · exact (endLeverHold s).trans (setScrollState ..)
    all_goals exact refl s
  | faster => exact sped _
  | slower => exact sped _
  | next => exact jumped _
  | prev => exact jumped _
  | top => exact jumped _

theorem judgeKey (n : Fin 6) (pressed : KeySet) (s : State) (k : ActionKey) : HubFollows s (judgeKey n pressed s k) := by
  unfold Machine.judgeKey
  (repeat' split)
  · exact runKey n k s
  · exact contend n s
  · exact refl s

theorem runKeys (n : Fin 6) (pressed : KeySet) (s : State) : HubFollows s (runKeys n pressed s) := by
  have judged : HubFollows s (actionKeys.foldl (Machine.judgeKey n pressed) s) :=
    List.foldlRecOn (motive := HubFollows s) _ _ (refl s) fun t ht k _ => ht.trans (judgeKey n pressed t k)
  unfold Machine.runKeys markKey
  split
  · exact judged.trans (of_hub (by simp))
  · exact judged

end HubFollows

end Sys2Proof.Machine
end

section
/-! Every step keeps the authority record (R70, R103). -/

namespace Sys2Proof.Machine

/-! ### The record of the holder -/

/-- A port that can hold authority as the record `h` gives it (R103). -/
def PortServes (x : Port) (h : Holder) : Prop :=
  x.state = .live ∧ x.role = h.role ∧ x.kind = some h.kind ∧ h.kind ≠ .keypad

/-- The holder's port is LIVE, with the role and the kind of the authority record. -/
def HolderLive (s : State) : Prop := ∀ h ∈ s.hub.holder, PortServes s.hub.ports[h.port] h

/-- Port `n` does not hold authority. -/
def NotHolder (n : Fin 6) (s : State) : Prop := ∀ h ∈ s.hub.holder, h.port ≠ n

/-- What is known of the port that has given a report of a kind: it is LIVE, and of that kind. -/
def Reporting (n : Fin 6) (kind : ControllerKind) (s : State) : Prop :=
  s.hub.ports[n].state = .live ∧ s.hub.ports[n].kind = some kind

theorem holderLive_of_none {s : State} (h : s.hub.holder = none) : HolderLive s := by
  intro x hx
  rw [h] at hx
  cases hx

theorem HolderLive.of_portsKept {s t : State} (live : HolderLive s) (kept : PortsKept s t) (holder : t.hub.holder = s.hub.holder) :
    HolderLive t := by
  intro h hh
  rw [holder] at hh
  obtain ⟨rest, refused, same⟩ := kept h.port
  rw [same]
  exact live h hh

theorem HolderLive.follow {s t : State} (live : HolderLive s) (follows : HubFollows s t) : HolderLive t := by
  rcases follows.holder with same | none
  · exact live.of_portsKept follows.ports same
  · exact holderLive_of_none none

theorem Reporting.of_portsKept {s t : State} {n : Fin 6} {kind : ControllerKind} (h : Reporting n kind s) (kept : PortsKept s t) :
    Reporting n kind t := by
  obtain ⟨rest, refused, same⟩ := kept n
  rw [Reporting, same]
  exact h

/-- What a report finds, once a change of kind has made its port STALE (R96 step 1). -/
def foundPort (n : Fin 6) (kind : ControllerKind) (s : State) : State :=
  if s.hub.ports[n].state = .live ∧ s.hub.ports[n].kind ≠ some kind then goStale n s else s

theorem enterReport_eq (n : Fin 6) (kind : ControllerKind) (s : State) :
    enterReport n kind s = if (foundPort n kind s).hub.ports[n].state = .live then ((foundPort n kind s).modPort n Port.restartTimer, false)
      else ((goLive n kind (foundPort n kind s)).modPort n Port.restartTimer, true) := rfl

theorem foundPort_kind {n : Fin 6} {kind : ControllerKind} (h : (foundPort n kind s).hub.ports[n].state = .live) :
    (foundPort n kind s).hub.ports[n].kind = some kind := by
  unfold foundPort at h ⊢
  split
  · next changed =>
    rw [if_pos changed, goStale_ports, upd_get_self] at h
    cases h
  · next same =>
    rw [if_neg same] at h
    by_contra other
    exact same ⟨h, other⟩

namespace AuthorityInv

variable {s t : State}

theorem live (ok : AuthorityInv s) : HolderLive s := ok.1

theorem congr (ok : AuthorityInv s) (h : control t = control s) : AuthorityInv t := by
  have hub : t.hub = s.hub := congrArg Prod.fst h
  have state : t.scroll.state = s.scroll.state := congrArg Prod.snd h
  have lever : leverHolds t = leverHolds s := leverHolds_congr (by rw [hub])
  unfold AuthorityInv
  rw [hub, state, lever]
  exact ok

theorem withCues (ok : AuthorityInv s) (x : CueUnit) : AuthorityInv { s with cues := x } := ok
theorem withLink (ok : AuthorityInv s) (x : Link) : AuthorityInv { s with link := x } := ok

/-- Outside MANUAL and IDLE no lever or pedal holds authority (R70). -/
theorem no_lever (ok : AuthorityInv s) (manual : s.scroll.state ≠ .manual) (idle : s.scroll.state ≠ .idle) : leverHolds s = false := by
  obtain ⟨-, -, lever⟩ := ok
  by_contra holds
  rcases lever (Bool.not_eq_false _ ▸ holds) with state | state
  · exact manual state
  · exact idle state

/-- A state without a lever's or pedal's hold, that is not MANUAL. -/
theorem of_no_lever (live : HolderLive t) (none : leverHolds t = false) (state : t.scroll.state ≠ .manual) : AuthorityInv t :=
  ⟨live, fun manual => absurd manual state, fun holds => by rw [none] at holds; cases holds⟩

theorem of_none (none : t.hub.holder = none) (state : t.scroll.state ≠ .manual) : AuthorityInv t :=
  of_no_lever (holderLive_of_none none) (leverHolds_of_none none) state

/-- A change of scroll state, but to MANUAL, with no lever or pedal that holds. -/
theorem setScrollState (live : HolderLive s) (none : leverHolds s = false) {new : ScrollState} (state : new ≠ .manual)
    (c : ScrollCause) : AuthorityInv (setScrollState new c s) :=
  of_no_lever (live.follow (.setScrollState new c s)) ((leverHolds_congr (by simp)).trans none) (by simpa using state)

/-- A change of the ports' flags and of nothing else that the record is judged by. -/
theorem of_portsKept (ok : AuthorityInv s) (kept : PortsKept s t) (holder : t.hub.holder = s.hub.holder)
    (state : t.scroll.state = s.scroll.state) : AuthorityInv t := by
  obtain ⟨-, manual, lever⟩ := id ok
  refine ⟨ok.live.of_portsKept kept holder, ?_, ?_⟩
  · rwa [state, leverHolds_congr holder]
  · rwa [state, leverHolds_congr holder]

/-- A change of a port that leaves it as the record has it, where it holds authority. -/
theorem modPort (ok : AuthorityInv s) {n : Fin 6} {f : Port → Port}
    (hf : ∀ h ∈ s.hub.holder, h.port = n → PortServes s.hub.ports[n] h → PortServes (f s.hub.ports[n]) h :=
      by exact fun _ _ _ serves => serves) : AuthorityInv (s.modPort n f) := by
  obtain ⟨live, state⟩ := ok
  refine ⟨fun h hh => ?_, state⟩
  rw [modPort_hub_ports, upd_get]
  split
  · next same => exact hf h hh same (same ▸ live h hh)
  · exact live h hh

theorem modPort_other (ok : AuthorityInv s) {n : Fin 6} (other : NotHolder n s) (f : Port → Port) : AuthorityInv (s.modPort n f) :=
  ok.modPort fun h hh same => absurd same (other h hh)

/-- A port that is not LIVE does not hold authority. -/
theorem notHolder (ok : AuthorityInv s) {n : Fin 6} (h : s.hub.ports[n].state ≠ .live) : NotHolder n s := by
  rintro x hx rfl
  exact h (ok.live x hx).1

/-! ### Authority -/

theorem setReleaseTimer (ok : AuthorityInv s) (t : Option Nat) : AuthorityInv (s.setReleaseTimer t) := ok

/-- The holder's port is lost (R85, R111), whatever becomes of its record. -/
theorem lose (ok : AuthorityInv s) (n : Fin 6) (f : Port → Port) (notice : Notice) :
    AuthorityInv (loseControl n (raise notice (s.modPort n f))) := by
  unfold loseControl
  split
  · unfold stopLost
    split
    · exact of_none (by simp) (by simp)
    · next driven => exact of_none (by simp) fun manual => driven (.inl manual)
  · next other =>
    have other : NotHolder n s := fun h hh same => other (holds_iff.mpr ⟨h, by simpa using hh, same⟩)
    exact (ok.modPort_other other f).congr (control_raise ..)

theorem goStale (ok : AuthorityInv s) (n : Fin 6) : AuthorityInv (goStale n s) := ok.lose n _ _
theorem portOff (ok : AuthorityInv s) (n : Fin 6) : AuthorityInv (portOff n s) := ok.lose n _ _

theorem portOn (ok : AuthorityInv s) {n : Fin 6} (other : NotHolder n s) : AuthorityInv (portOn n s) :=
  (ok.modPort_other other _).congr (control_raise ..)

theorem goLive (ok : AuthorityInv s) {n : Fin 6} (other : NotHolder n s) (kind : ControllerKind) : AuthorityInv (goLive n kind s) :=
  (ok.modPort_other other _).congr (control_raise ..)

theorem contend (ok : AuthorityInv s) (n : Fin 6) : AuthorityInv (contend n s) := by
  unfold Machine.contend
  (repeat' split)
  · exact ok
  · exact ok
  · exact ok.modPort.congr (control_raise ..)

/-! ### Keys -/

theorem stopScroll (c : ScrollCause) (s : State) : AuthorityInv (stopScroll c s) := by
  unfold Machine.stopScroll
  dsimp only
  split
  · next idle => exact of_none (by simp) (by rw [idle]; simp)
  · exact of_none (by simp) (by simp)

/-- A lever's or pedal's hold ends, and the scroll cruises (R81, R83). -/
theorem endLeverHold (live : HolderLive s) (c : ScrollCause) : AuthorityInv (Machine.setScrollState .cruise c (endLeverHold s)) :=
  .setScrollState (live.follow (.endLeverHold s)) (leverHolds_endLeverHold s) (by simp) c

theorem resumeKey (ok : AuthorityInv s) (n : Fin 6) : AuthorityInv (resumeKey n s) := by
  unfold Machine.resumeKey
  split
  · next state => exact .setScrollState ok.live (ok.no_lever (by simp [state]) (by simp [state])) (by simp) _
  · next state => exact .setScrollState ok.live (ok.no_lever (by simp [state]) (by simp [state])) (by simp) _
  · exact endLeverHold ok.live _
  · exact ok
  · exact ok

theorem speedKey (ok : AuthorityInv s) (n : Fin 6) (delta : Int) : AuthorityInv (speedKey n delta s) := by
  have trimmed : AuthorityInv (trimCruise n delta s) := ok.congr (control_trimCruise ..)
  have cruise (state : s.scroll.state ≠ .manual) (state' : s.scroll.state ≠ .idle) :
      AuthorityInv (Machine.setScrollState .cruise (.port n) (trimCruise n delta s)) := by
    have hub : (trimCruise n delta s).hub = s.hub := congrArg Prod.fst (control_trimCruise n delta s)
    exact .setScrollState trimmed.live ((leverHolds_congr (by rw [hub])).trans (ok.no_lever state state')) (by simp) _
  unfold Machine.speedKey
  dsimp only
  split
  · exact trimmed
  · exact endLeverHold trimmed.live _
  all_goals next state => exact cruise (by simp [state]) (by simp [state])

theorem runKey (ok : AuthorityInv s) (n : Fin 6) (k : ActionKey) : AuthorityInv (runKey n k s) := by
  cases k with
  | stop => exact stopScroll _ s
  | resume => exact ok.resumeKey n
  | faster => exact ok.speedKey n _
  | slower => exact ok.speedKey n _
  | next => exact ok.congr (control_keyJump ..)
  | prev => exact ok.congr (control_keyJump ..)
  | top => exact ok.congr (control_keyJump ..)

theorem runKeys (ok : AuthorityInv s) (n : Fin 6) (pressed : KeySet) : AuthorityInv (runKeys n pressed s) := by
  have judged : AuthorityInv (actionKeys.foldl (judgeKey n pressed) s) :=
    List.foldlRecOn (motive := AuthorityInv) _ _ ok fun t ok k _ => by
      unfold judgeKey
      (repeat' split)
      · exact ok.runKey n k
      · exact ok.contend n
      · exact ok
  unfold Machine.runKeys markKey
  split
  · exact judged.congr (control_raise ..)
  · exact judged

/-! ### Reports -/

/-- A holder at rest is released: MANUAL ends with a lever's or pedal's hold, and is no wheel's (R109, R110). -/
theorem releaseHold (ok : AuthorityInv s) : AuthorityInv (releaseHold s) := by
  unfold Machine.releaseHold
  split
  · exact ok
  · next h holder =>
    dsimp only
    split
    · exact of_none (by simp) (by simp)
    · next kept =>
      refine of_none (by simp) fun manual => kept ⟨fun wheel => ?_, by simpa using manual⟩
      obtain ⟨-, lever, -⟩ := ok
      have := lever (by simpa using manual)
      rw [leverHolds_of_wheel fun x hx => by rw [holder] at hx; cases hx; exact wheel] at this
      cases this

theorem holderTiming (ok : AuthorityInv s) (n : Fin 6) (rest : Bool) : AuthorityInv (holderTiming n rest s) := by
  unfold Machine.holderTiming
  (repeat' split)
  · exact ok
  · exact ok
  · exact ok.releaseHold
  · exact ok
  · exact ok
  · exact ok

theorem leverRequest (ok : AuthorityInv s) {n : Fin 6} {kind : ControllerKind} (lever : kind = .lever ∨ kind = .pedal)
    (reporting : Reporting n kind s) (m : Nat) : AuthorityInv (leverRequest n kind m s) := by
  have live : HolderLive (setHolder (some ⟨n, s.hub.ports[n].role, kind⟩) none .taken (restHolder s)) := by
    rintro h hh
    obtain ⟨rest, refused, same⟩ := portsKept_restHolder s n
    rw [setHolder_hub] at hh ⊢
    cases hh
    dsimp only
    rw [same]
    exact ⟨reporting.1, rfl, reporting.2, by rcases lever with rfl | rfl <;> simp⟩
  have holds : leverHolds (setHolder (some ⟨n, s.hub.ports[n].role, kind⟩) none .taken (restHolder s)) = true := by
    rcases lever with rfl | rfl <;> simp [leverHolds]
  unfold Machine.leverRequest leverTakes
  dsimp only
  (repeat' split)
  · next idle => exact ⟨live, fun _ => holds, fun _ => .inr (by simpa using idle)⟩
  · refine ⟨live.follow (.setScrollState ..), fun _ => ?_, fun _ => .inl (by simp)⟩
    exact (leverHolds_congr (by simp)).trans holds
  · exact ok.contend n
  · exact ok

theorem wheelDetents (live : HolderLive s) (none : leverHolds s = false) (n : Fin 6) (count : Int) :
    AuthorityInv (wheelDetents n count s) := by
  have control := control_trimCruise n (clampInt (-16) 15 count * s.hub.ports[n].step) s
  have follows := HubFollows.of_control control
  have hub : (trimCruise n (clampInt (-16) 15 count * s.hub.ports[n].step) s).hub = s.hub := congrArg Prod.fst control
  have state : (trimCruise n (clampInt (-16) 15 count * s.hub.ports[n].step) s).scroll.state = s.scroll.state := congrArg Prod.snd control
  have none := (leverHolds_congr (by rw [hub])).trans none
  unfold Machine.wheelDetents
  dsimp only
  split
  · next idle => exact of_no_lever (live.follow follows) none (by rw [state, idle]; simp)
  · exact .setScrollState (live.follow follows) none (by simp) _

theorem wheelRequest (ok : AuthorityInv s) {n : Fin 6} (reporting : Reporting n .wheel s) (count : Int) :
    AuthorityInv (wheelRequest n count s) := by
  unfold Machine.wheelRequest
  dsimp only
  split
  · exact ok
  · split
    · split
      · next holds =>
        refine wheelDetents (s := s.setReleaseTimer (some 0)) ok.live (leverHolds_of_wheel fun h hh => ?_) n count
        obtain ⟨x, hx, rfl⟩ := holds_iff.mp holds
        obtain rfl : x = h := Option.some.inj (hx.symm.trans hh)
        exact Option.some.inj ((ok.live x hx).2.2.1.symm.trans reporting.2)
      · refine wheelDetents (fun h hh => ?_) (leverHolds_of_wheel fun h hh => ?_) n count
        · obtain ⟨rest, refused, same⟩ := portsKept_restHolder s n
          rw [setHolder_hub] at hh ⊢
          cases hh
          dsimp only
          rw [same]
          exact ⟨reporting.1, rfl, reporting.2, by simp⟩
        · rw [setHolder_hub] at hh
          cases hh
          rfl
    · exact ok.contend n

/-- A report's value makes the request of its kind (R105, R106). -/
theorem makeRequest (ok : AuthorityInv s) {n : Fin 6} {r : ControlReport} (reporting : Reporting n r.kind s) (reverse : Bool) :
    AuthorityInv (makeRequest n r.kind (decodeValue r reverse) s) := by
  unfold decodeValue
  cases kind : r.kind with
  | lever => exact ok.leverRequest (.inl rfl) (kind ▸ reporting) _
  | pedal => exact ok.leverRequest (.inr rfl) (kind ▸ reporting) _
  | wheel => exact ok.wheelRequest (kind ▸ reporting) _
  | keypad => exact ok

/-- What the end of a hold or the release timer leaves of the ports and the holder, the hub's timing leaves (R109). -/
theorem follows_holderTiming (n : Fin 6) (rest : Bool) (s : State) : HubFollows s (Machine.holderTiming n rest s) := by
  have released : HubFollows s (Machine.releaseHold s) := by
    unfold Machine.releaseHold
    split
    · exact .refl s
    · refine .trans (t := setHolder none none .released s) ⟨.of_hub (by simp), .inr (by simp)⟩ ?_
      dsimp only
      split
      · exact .setScrollState ..
      · exact .refl _
  unfold Machine.holderTiming
  (repeat' split)
  · exact .refl s
  · exact .refl s
  · exact released
  · exact .setReleaseTimer s _
  · exact .refl s
  · exact .setReleaseTimer s _

/-- A report on a LIVE port: a first report is not its holder's, and any other is of the port's kind (R96, R99). -/
theorem takeReport (ok : AuthorityInv s) {n : Fin 6} {r : ControlReport} {first : Bool} (live : s.hub.ports[n].state = .live)
    (other : first = true → NotHolder n s) (same : first = false → s.hub.ports[n].kind = some r.kind) :
    AuthorityInv (takeReport n r first s) := by
  unfold Machine.takeReport
  dsimp only
  generalize atRest r.kind _ _ _ = rest
  generalize s.hub.ports[n].reverse = reverse
  have noted : AuthorityInv (s.modPort n fun x => { x with value := decodeValue r reverse, kind := some r.kind }) := by
    refine ok.modPort fun h hh holder serves => ?_
    cases first with
    | true => exact absurd holder (other rfl h hh)
    | false => exact ⟨serves.1, serves.2.1, (same rfl).symm.trans serves.2.2.1, serves.2.2.2⟩
  have reporting : Reporting n r.kind (s.modPort n fun x => { x with value := decodeValue r reverse, kind := some r.kind }) := by
    rw [Reporting, modPort_hub_ports, upd_get_self]
    exact ⟨live, rfl⟩
  generalize (s.modPort n fun x => { x with value := decodeValue r reverse, kind := some r.kind }) = t at noted reporting ⊢
  have rested : AuthorityInv (if rest = true then t.modPort n fun x => { x with mustRest := false, refused := false } else t)
      ∧ Reporting n r.kind (if rest = true then t.modPort n fun x => { x with mustRest := false, refused := false } else t) := by
    split
    · exact ⟨noted.modPort, reporting.of_portsKept (.modPort t n)⟩
    · exact ⟨noted, reporting⟩
  generalize (if rest = true then t.modPort n fun x => { x with mustRest := false, refused := false } else t) = u at rested ⊢
  obtain ⟨ok, reporting⟩ := rested
  cases first with
  | true => exact (ok.holderTiming n rest).modPort
  | false =>
    refine modPort (makeRequest ((ok.runKeys n _).holderTiming n rest) ?_ reverse)
    exact (reporting.of_portsKept (HubFollows.runKeys ..).ports).of_portsKept (follows_holderTiming ..).ports

theorem validReport (ok : AuthorityInv s) (n : Fin 6) (r : ControlReport) : AuthorityInv (validReport n r s) := by
  have found : AuthorityInv (foundPort n r.kind s) := by
    unfold foundPort
    split
    · exact ok.goStale n
    · exact ok
  have kind := foundPort_kind (s := s) (n := n) (kind := r.kind)
  unfold Machine.validReport
  dsimp only
  rw [enterReport_eq]
  generalize foundPort n r.kind s = t at found kind ⊢
  split
  · exact ok
  by_cases live : t.hub.ports[n].state = .live
  · rw [if_pos live]
    refine takeReport found.modPort ?_ nofun fun _ => ?_
    · rw [modPort_hub_ports, upd_get_self]
      exact live
    · rw [modPort_hub_ports, upd_get_self]
      exact kind live
  · rw [if_neg live]
    have other := found.notHolder live
    refine takeReport (found.goLive other r.kind).modPort ?_ (fun _ h hh => other h (by simpa [Machine.goLive] using hh)) nofun
    rw [modPort_hub_ports, upd_get_self, Machine.goLive, raise_hub, modPort_hub_ports, upd_get_self]
    rfl

theorem receivePortByte (ok : AuthorityInv s) (n : Fin 6) (b : Byte) : AuthorityInv (receivePortByte n s b) := by
  have noted : AuthorityInv (s.modPort n fun x => { x with receiver := (portByte s.hub.ports[n].receiver b).1 }) := ok.modPort
  unfold Machine.receivePortByte
  dsimp only
  split
  · exact noted.validReport n _
  · exact noted

theorem reportTimeout (ok : AuthorityInv s) (n : Fin 6) : AuthorityInv (reportTimeout n s) := by
  unfold Machine.reportTimeout
  split
  · exact ok.goStale n
  · exact ok

theorem releaseExpiry (ok : AuthorityInv s) : AuthorityInv (releaseExpiry s) := by
  unfold Machine.releaseExpiry
  split
  · exact ok.releaseHold
  · exact ok

/-! ### SET_PORT -/

/-- The role of the port and of its holder change together (R113). -/
theorem followRole (ok : AuthorityInv s) (n : Fin 6) (role : Role) {f : Port → Port}
    (hf : ∀ x, (f x).state = x.state ∧ (f x).kind = x.kind ∧ (f x).role = role) :
    AuthorityInv (followRole n role (s.modPort n f)) := by
  have lever : leverHolds (Machine.followRole n role (s.modPort n f)) = leverHolds s := by
    unfold leverHolds Machine.followRole
    simp only [modPort_hub_holder]
    cases s.hub.holder with
    | none => rfl
    | some h => by_cases same : h.port = n <;> simp [same]
  have live := ok.live
  obtain ⟨-, state⟩ := ok
  rw [← lever] at state
  refine ⟨fun h hh => ?_, state⟩
  obtain ⟨x, hx, new⟩ := Option.map_eq_some_iff.mp hh
  have serves := live x hx
  change PortServes (upd s.hub.ports n f)[h.port] h
  by_cases same : x.port = n
  · subst same
    rw [if_pos rfl] at new
    subst new
    obtain ⟨hstate, hkind, hrole⟩ := hf s.hub.ports[x.port]
    rw [upd_get_self]
    exact ⟨hstate.trans serves.1, hrole, hkind.trans serves.2.2.1, serves.2.2.2⟩
  · rw [if_neg same] at new
    subst new
    rw [upd_get_ne _ _ _ _ same]
    exact serves

theorem setEnabled (ok : AuthorityInv s) (n : Fin 6) (enabled : Bool) : AuthorityInv (setEnabled n enabled s) := by
  unfold Machine.setEnabled
  (repeat' split)
  · next off => exact ok.portOn (ok.notHolder (by rw [off]; simp))
  · exact ok
  · exact ok
  · exact ok.portOff n

theorem cmdSetPort (ok : AuthorityInv s) (seq port enabled role : Byte) (timeout : Word16) (gain dead reverse : Byte) (step : Word16) :
    AuthorityInv (cmdSetPort seq port enabled role timeout gain dead reverse step s) := by
  unfold Machine.cmdSetPort
  split
  · dsimp only
    refine congr (setEnabled (ok.followRole _ _ fun _ => ?_) _ _) (control_reply ..)
    exact ⟨rfl, rfl, rfl⟩
  · exact ok

/-! ### Scroll controller -/

theorem cmdScrollResume (ok : AuthorityInv s) (seq : Byte) : AuthorityInv (cmdScrollResume seq s) := by
  unfold Machine.cmdScrollResume resumeScroll
  split
  · exact ok
  · next free =>
    split
    · exact setScrollState (s := s) ok.live (Bool.eq_false_iff.mpr free) (by simp) .host
    · exact ok

theorem cmdScrollSpeed (ok : AuthorityInv s) (seq : Byte) (speed : Word16) : AuthorityInv (cmdScrollSpeed seq speed s) := by
  unfold Machine.cmdScrollSpeed cruiseAt
  split
  · exact ok
  · next free =>
    split
    · exact ok
    · exact setScrollState (s := setCruise _ s) ok.live (Bool.eq_false_iff.mpr free) (by simp) .host

/-- A frame stops a CRUISE at an end or at a pause mark, and nothing else (R77, R78). -/
theorem moveFrame (ok : AuthorityInv s) : AuthorityInv (moveFrame s) := by
  have stopped (cruise : s.scroll.state = .cruise) {x : Scroll} (state : x.state ≠ .manual) (l : Link) :
      AuthorityInv { s with scroll := x, link := l } :=
    of_no_lever (t := { s with scroll := x, link := l }) ok.live (ok.no_lever (by simp [cruise]) (by simp [cruise])) state
  obtain ⟨scroll, cause, moved, ⟨-, rfl, -⟩ | ⟨m, hm, rfl, -⟩⟩ := moveFrame_eq s <;> rw [moved]
  · by_cases ended : s.scroll.state = .cruise ∧ PastEnd s
    · exact stopped ended.1 (by simp [unpausedMotion, ended]) _
    · exact ok.congr (control_congr rfl (if_neg ended))
  · unfold pauseAt at hm
    split at hm
    · next cruise => exact stopped cruise.1 (by simp [pausedMotion]) _
    · cases hm

/-! ### Edits -/

/-- The scroll state follows the rows, to MANUAL where a lever or pedal holds (R71). -/
theorem followRows (ok : AuthorityInv s) (before : Nat) : AuthorityInv (followRows before s) := by
  have lever {new : ScrollState} {x : Scroll} : leverHolds (Machine.setScrollState new .script { s with scroll := x }) = leverHolds s :=
    leverHolds_congr (by simp)
  have live {new : ScrollState} {x : Scroll} : HolderLive (Machine.setScrollState new .script { s with scroll := x }) :=
    HolderLive.follow (s := { s with scroll := x }) ok.live (.setScrollState ..)
  obtain ⟨-, -, followed⟩ | ⟨-, -, followed⟩ | ⟨-, followed⟩ := followRows_eq before s <;> rw [followed]
  · refine ⟨live, ?_, ?_⟩ <;> rw [lever, setScrollState_state] <;> cases leverHolds s <;> simp
  · refine ⟨live, ?_, ?_⟩ <;> rw [setScrollState_state] <;> simp
  · exact ok

theorem applyEdit (ok : AuthorityInv s) (fromPending : Bool) (e : Edit) : AuthorityInv (applyEdit fromPending e s) := by
  have changed : AuthorityInv (changeScript e s) := by
    rw [changeScript_eq]
    exact followRows (ok.congr (control_scriptAnchored e s)) _
  unfold Machine.applyEdit
  dsimp only
  refine congr ?_ (control_recomputeStates _)
  split
  · exact changed.congr (control_raise ..)
  · exact changed

theorem settlePending (ok : AuthorityInv s) (r : PendingEdit) : AuthorityInv (settlePending r s) := by
  have left : AuthorityInv (leavePending r s) := ok
  unfold Machine.settlePending
  dsimp only
  split
  · exact congr (s := freeSlots r.edit.chain.length (leavePending r s)) left (control_raise ..)
  · exact left.applyEdit true r.edit

theorem release (ok : AuthorityInv s) : AuthorityInv (release s) := release_keeps (fun ok _ => ok.settlePending _) ok

theorem present (ok : AuthorityInv s) (force : Bool) (e : Edit) : AuthorityInv (present force e s).1 := by
  have settled : AuthorityInv (settleAllFor e.story s) :=
    List.foldlRecOn (motive := AuthorityInv) _ _ ok fun _ ok r _ => ok.settlePending r
  unfold Machine.present forceEdit
  dsimp only
  (repeat' split)
  · exact settled
  · exact (settled.applyEdit ..).release
  · exact ok
  · exact ok
  · exact (ok.applyEdit ..).release

theorem presentedReply {r : State × Presented} (ok : AuthorityInv r.1) (code seq : Byte) (truncated badMark : Bool) (e : Edit)
    (okBody : State → ReplyBody) : AuthorityInv (presentedReply code seq truncated badMark e okBody r) := by
  unfold Machine.presentedReply
  split <;> exact ok

theorem cmdLoadLast (ok : AuthorityInv s) (seq tag : Byte) (text : List Byte) : AuthorityInv (cmdLoadLast seq tag text s) := by
  unfold Machine.cmdLoadLast resolveLoad
  split
  · exact ok
  · dsimp only
    (repeat' split)
    any_goals exact ok
    exact presentedReply (present (s := closeLoad _ s) ok ..) ..

theorem cmdStoryDelete (ok : AuthorityInv s) (seq : Byte) (editTag story : Word16) (force : Byte) :
    AuthorityInv (cmdStoryDelete seq editTag story force s) := by
  unfold Machine.cmdStoryDelete
  split
  · exact ok
  · exact presentedReply (ok.present ..) ..

theorem cmdStoryMove (ok : AuthorityInv s) (seq : Byte) (editTag story : Word16) (placeKind : Byte) (placeId : Word16) (force : Byte) :
    AuthorityInv (cmdStoryMove seq editTag story placeKind placeId force s) := by
  unfold Machine.cmdStoryMove
  dsimp only
  (repeat' split)
  · exact ok
  · exact presentedReply (ok.present ..) ..
  · exact ok

theorem cmdStorySkip (ok : AuthorityInv s) (seq : Byte) (editTag story : Word16) (request force : Byte) :
    AuthorityInv (cmdStorySkip seq editTag story request force s) := by
  unfold Machine.cmdStorySkip
  split
  · exact ok
  · generalize (if request = 0 then EditBody.skip else .unskip) = body
    dsimp only
    split
    · exact ok
    · exact presentedReply (ok.present ..) ..

/-! ### Resets -/

theorem reset : AuthorityInv State.reset := by
  obtain ⟨-, -, -, -, authority, -⟩ := resetMeetsTheInvariants
  exact authority

theorem fullReset (c : StartCause) (r : LinkRate) (s : State) : AuthorityInv (fullReset c r s) := reset
theorem heldInReset (s : State) : AuthorityInv (heldInReset s) := reset
theorem clearShow (s : State) : AuthorityInv (clearShow s) := of_none rfl (by simp [Machine.clearShow])

theorem restartReset (ok : AuthorityInv s) (r : LinkRate) : AuthorityInv (restartReset r s) := by
  unfold Machine.restartReset
  (repeat' split)
  · exact fullReset ..
  · exact fullReset ..
  · exact ok
  · exact ok

/-! ### The command link -/

/-- A command that is carried out (R161). -/
theorem runCommand (ok : AuthorityInv s) (i : Instr) : AuthorityInv (runCommand i s) := by
  cases i
  case clearShow => exact clearShow s
  case setPort => exact ok.cmdSetPort ..
  case setMotion =>
    unfold Machine.runCommand cmdSetMotion
    dsimp only
    split <;> exact ok
  case loadLast => exact ok.cmdLoadLast ..
  case storyDelete => exact ok.cmdStoryDelete ..
  case storyMove => exact ok.cmdStoryMove ..
  case storySkip => exact ok.cmdStorySkip ..
  case scrollStop => exact stopScroll .host s
  case scrollResume => exact ok.cmdScrollResume _
  case scrollSpeed => exact ok.cmdScrollSpeed ..
  all_goals
    refine ok.congr ?_
    simp [Machine.runCommand, cmdIdentify, cmdStatus, cmdRestart, cmdUnknown, cmdSetReporting, cmdReadRundown, cmdReadPosition]

theorem interpret (ok : AuthorityInv s) (payload : List Byte) : AuthorityInv (interpret payload s) := by
  unfold Machine.interpret
  split
  · exact ok.runCommand _
  · exact ok.congr (control_badLengthReply ..)

theorem takeNext (ok : AuthorityInv s) : AuthorityInv (takeNext s) := by
  unfold Machine.takeNext
  (repeat' split)
  · exact ok
  · exact (ok.withLink _).interpret _
  · exact ok

theorem frameArrives (ok : AuthorityInv s) (payload : List Byte) : AuthorityInv (frameArrives payload s) := by
  have joined : AuthorityInv (joinReceived payload s) := by
    unfold joinReceived
    split <;> exact ok
  exact joined.takeNext.congr (control_pump _)

theorem receiveByte (ok : AuthorityInv s) (b : Byte) : AuthorityInv (receiveByte s b) := by
  unfold Machine.receiveByte
  dsimp only
  split
  · exact (ok.withLink _).frameArrives _
  · exact ok

theorem transmitDone (ok : AuthorityInv s) : AuthorityInv (transmitDone s) := by
  unfold Machine.transmitDone replySent
  dsimp only
  split
  · exact ok
  · exact (ok.withLink _).takeNext
  · exact ok
  · exact ok

/-! ### Events and time -/

theorem takeFrame (ok : AuthorityInv s) : AuthorityInv (takeFrame s) := by
  unfold Machine.takeFrame scrollFrame
  have owed : AuthorityInv { s with scroll := { s.scroll with framesOwed := s.scroll.framesOwed - 1 } } := ok
  refine congr (release (owed.moveFrame.congr ?_)) (control_countFrame _)
  simp

theorem reflowComplete (ok : AuthorityInv s) : AuthorityInv (reflowComplete s) := by
  unfold Machine.reflowComplete
  dsimp only
  (repeat' split)
  · exact ok
  · exact release (ok.congr (by simp))
  · exact release (congr (s := { s with layout := _ }) ok (control_raise ..))

theorem tickPort (ok : AuthorityInv s) (n : Fin 6) : AuthorityInv (tickPort s n) := by
  unfold Machine.tickPort
  dsimp only
  split
  · exact ok.modPort.reportTimeout n
  · exact ok.modPort.modPort

theorem tickRelease (ok : AuthorityInv s) : AuthorityInv (tickRelease s) := by
  unfold Machine.tickRelease
  split
  · exact ok.releaseExpiry
  · exact ok

theorem tickMs (ok : AuthorityInv s) : AuthorityInv (tickMs s) := by
  have ports : AuthorityInv ((List.finRange 6).foldl Machine.tickPort
      { s with link := { s.link with receiver := tickReceiver s.link.receiver } }) :=
    List.foldlRecOn (motive := AuthorityInv) _ _ (ok.withLink _) fun _ ok n _ => ok.tickPort n
  have released := ports.tickRelease
  unfold Machine.tickMs
  dsimp only
  generalize Machine.tickRelease _ = t at released ⊢
  refine withCues ?_ _
  refine released.congr ?_
  rw [control_foldl control_tickHead, control_tickFrameTimer, control_foldl control_tickLoad]

/-- The idle step (log 2). -/
theorem tick (ok : AuthorityInv s) : AuthorityInv (tick s) := by
  unfold Machine.tick
  (repeat' split)
  · exact ok
  · exact ok.takeFrame.congr (control_pump _)
  · exact ok.tickMs.congr (control_pump _)

/-- An event of the engine. -/
theorem live_event (ok : AuthorityInv s) {f : State → State} (hf : AuthorityInv (f s)) (h : Machine.live f s = .next t) :
    AuthorityInv t := by
  unfold Machine.live at h
  split at h <;> cases h
  · exact ok
  · exact hf.congr (control_pump _)

/-- An event that leaves the control. -/
theorem quiet_event (ok : AuthorityInv s) {f : State → State} (hf : control (f s) = control s) (h : Machine.live f s = .next t) :
    AuthorityInv t := ok.live_event (ok.congr hf) h

/-- A host command, taken at once or put into the receive queue (log 5). -/
theorem submit (ok : AuthorityInv s) {i : Instr} {run : State → State} (hrun : AuthorityInv (run s))
    (h : Machine.submit i run s = .next t) : AuthorityInv t := by
  unfold Machine.submit at h
  split_ifs at h <;> cases h
  · exact ok
  · exact hrun.congr (control_pump _)
  · exact ok.frameArrives _

/-- Every row of the table keeps the authority record. -/
theorem exec (ok : AuthorityInv s) {i : Instr} (h : exec i s = .next t) : AuthorityInv t := by
  have command (h : Machine.submit i (Machine.runCommand i) s = .next t) : AuthorityInv t := ok.submit (ok.runCommand i) h
  cases i
  case unknownCommand => exact ok.submit (ok.interpret _) h
  case linkFrame bytes =>
    simp only [Machine.exec, execLinkFrame] at h
    split_ifs at h <;> cases h
    · exact ok
    · exact List.foldlRecOn (motive := AuthorityInv) bytes _ ok fun _ ok b _ => ok.receiveByte b
  case transmitDone => exact ok.live_event ok.transmitDone h
  case controllerReport port bytes =>
    exact ok.live_event (f := fun s => bytes.foldl (Machine.receivePortByte port) s)
      (List.foldlRecOn (motive := AuthorityInv) bytes _ ok fun _ ok b _ => ok.receivePortByte port b) h
  case portByteGapTimeout => exact ok.live_event ok.modPort h
  case reportTimeout => exact ok.live_event (ok.reportTimeout _) h
  case releaseTimerExpiry => exact ok.live_event ok.releaseExpiry h
  case scrollFrame => exact ok.live_event ok.takeFrame h
  case reflowComplete => exact ok.live_event ok.reflowComplete h
  case byteGapTimeout | lineBreak => exact ok.quiet_event rfl h
  case loadIdleTimeout => exact ok.quiet_event (control_loadIdleExpiry ..) h
  case internalTimerExpiry => exact ok.quiet_event (control_internalExpiry ..) h
  case frameStart => exact ok.quiet_event (control_frameStart ..) h
  case syncLossExpiry => exact ok.quiet_event (control_syncLoss ..) h
  case renderComplete => exact ok.quiet_event (control_renderComplete _) h
  case pulseEnd line => exact ok.quiet_event (f := fun s => s.modLine line CueLine.pulseEnd) (control_modLine ..) h
  case powerUp =>
    simp only [Machine.exec, execPowerUp] at h
    split_ifs at h <;> cases h
    · exact ok
    · exact fullReset ..
  case resetPinAssert =>
    cases h
    exact heldInReset s
  case resetPinRelease =>
    cases h
    exact fullReset ..
  case restartReset => exact ok.live_event (ok.restartReset _) h
  all_goals exact command h

theorem step (ok : AuthorityInv s) (h : step s = .next t) : AuthorityInv t := by
  unfold Machine.step at h
  split at h
  · cases h
    exact ok.tick
  · next c rest _ => exact exec (s := { s with pending := rest }) ok h

end AuthorityInv

/-- Settles O59: the authority record holds on. -/
theorem everyStepKeepsTheAuthorityRecord : Obligations.EveryStepKeepsTheAuthorityRecord := fun _ _ ok h => ok.step h

end Sys2Proof.Machine
end

section
/-! The motion settings, the frame source and the timers, and the commands that read the motion, a head or a cue (R75, R88 to R91, R117,
R125, R136, R144). -/

namespace Sys2Proof.Machine

/-- A command that is taken at once and refused. -/
theorem exec_refuse {i : Instr} {s : State} {c seq : Byte} {r : Reason} (code : Byte) (h : Ready s) (hl : (payloadOf i).length ≤ 220)
    (he : exec i s = submit i (runCommand i) s) (hc : code + 0x40 = c) (hrun : runCommand i s = refuse code seq r s) :
    exec i s = .next (answered (reasonReply c seq r) s) :=
  exec_answer code h hl he hc rfl hrun

/-! ### SET_MOTION and SET_CURVE -/

/-- The speed curve from its points as they are sent. -/
abbrev curveOf (q : Vector Word16 9) : Vector Nat 9 := updAll q BitVec.toNat

theorem any_curveOf_iff {q : Vector Word16 9} {f : Nat → Bool} :
    (curveOf q).toList.any f = true ↔ ∃ k : Fin 9, f (q[k]).toNat = true := by
  simp only [List.any_eq_true, Vector.mem_toList_iff, Vector.mem_iff_getElem]
  constructor
  · rintro ⟨_, ⟨i, hi, rfl⟩, h⟩
    exact ⟨⟨i, hi⟩, updAll_get q BitVec.toNat ⟨i, hi⟩ ▸ h⟩
  · rintro ⟨k, h⟩
    exact ⟨_, ⟨k.val, k.isLt, rfl⟩, (updAll_get q BitVec.toNat k).symm ▸ h⟩

/-- A curve is in order when it starts at 0 and does not fall from a point to the next (R75). -/
theorem curveOrdered_iff {q : Vector Nat 9} : curveOrdered q = true ↔ q[0] = 0 ∧ ∀ k : Fin 8, q[k.val] ≤ q[k.val + 1] := by
  simp only [curveOrdered, Bool.and_eq_true, decide_eq_true_eq, Fin.forall_fin_succ, and_assoc]
  simp

theorem curveOrdered_curveOf_iff {q : Vector Word16 9} :
    curveOrdered (curveOf q) = true ↔ ¬ (q[0] ≠ 0 ∨ ∃ k : Fin 8, (q[k.val + 1]).toNat < (q[k.val]).toNat) := by
  have point (i : Nat) (h : i < 9) : (curveOf q)[i] = (q[i]).toNat := updAll_get q BitVec.toNat ⟨i, h⟩
  rw [curveOrdered_iff]
  have zero : (q[0]).toNat = 0 ↔ q[0] = 0 := (BitVec.toNat_inj (y := 0)).trans Iff.rfl
  simp only [point, zero, not_or, not_not, not_exists, not_lt]

/-- Settles O18: the settings are applied together where each is in its range, and the curve where its points are. -/
theorem motionSettingsApplyAllOrNone : Obligations.MotionSettingsApplyAllOrNone := by
  refine ⟨fun seq vmax a b delay priority k p s ready => ?_, fun seq q s ready => ?_⟩
  · have length : (payloadOf (.setMotion seq vmax a b delay priority k p)).length ≤ 220 := by simp [payloadOf, bytes16]
    have ranges : (inRange 1 16384 vmax.toNat && inRange 1 4096 a.toNat && inRange 1 4096 b.toNat && inRange 0 5000 delay.toNat
          && inRange 0 1 priority.toNat && inRange 1 1024 k.toNat && inRange 0 64 p.toNat) = true
        ↔ (1 ≤ vmax.toNat ∧ vmax.toNat ≤ 16384) ∧ (1 ≤ a.toNat ∧ a.toNat ≤ 4096) ∧ (1 ≤ b.toNat ∧ b.toNat ≤ 4096)
          ∧ delay.toNat ≤ 5000 ∧ priority.toNat ≤ 1 ∧ (1 ≤ k.toNat ∧ k.toNat ≤ 1024) ∧ p.toNat ≤ 64 := by
      simp only [Bool.and_eq_true, inRange_iff, Nat.zero_le, true_and, and_assoc]
    split
    · next ok => exact exec_answer 0x09 ready length rfl rfl (by rfl) (if_pos (ranges.mpr ok))
    · next bad => exact exec_refuse 0x09 ready length rfl rfl (if_neg (mt ranges.mp bad))
  · have length : (payloadOf (.setCurve seq q)).length ≤ 220 := Nat.le_of_ble_eq_true rfl
    have high : ((curveOf q).toList.any fun x => decide (16384 < x)) = true ↔ ∃ k : Fin 9, 16384 < (q[k]).toNat := by
      simp only [any_curveOf_iff, decide_eq_true_eq]
    by_cases above : ∃ k : Fin 9, 16384 < (q[k]).toNat
    · exact ⟨_, exec_refuse (c := 0x4A) (r := .badValue) 0x0A ready length rfl rfl (if_pos (high.mpr above)), by rw [if_pos above]⟩
    have low : cmdSetCurve seq q s =
        if curveOrdered (curveOf q) then reply 0x0A seq .ok .bare { s with scroll := { s.scroll with curve := curveOf q } }
        else refuse 0x0A seq .curveOrder s := if_neg (mt high.mp above)
    by_cases falls : q[0] ≠ 0 ∨ ∃ k : Fin 8, (q[k.val + 1]).toNat < (q[k.val]).toNat
    · have order := curveOrdered_curveOf_iff (q := q).not.mpr (not_not.mpr falls)
      exact ⟨_, exec_refuse (c := 0x4A) (r := .curveOrder) 0x0A ready length rfl rfl (low.trans (if_neg order)), by rw [if_neg above, if_pos falls]⟩
    · have order := curveOrdered_curveOf_iff.mpr falls
      refine ⟨_, exec_answer 0x0A ready length rfl rfl (by rfl) (low.trans (if_pos order)), ?_⟩
      rw [if_neg above, if_neg falls]
      exact ⟨curveOf q, updAll_get q _, rfl⟩

/-! ### The frame source -/

theorem wantedSource_eq (s : State) : wantedSource s = sourceGiven s s.scroll.setting := by
  unfold wantedSource sourceGiven
  cases s.scroll.setting with
  | internal r => rfl
  | head n => simp [Head.canServe, or_assoc]

/-- What deciding the source afresh does (R89, R90). -/
theorem refreshSource_eq (s : State) :
    refreshSource s = { s with scroll := { s.scroll with
      inUse := sourceGiven s s.scroll.setting
      frameTimer := if sourceGiven s s.scroll.setting = s.scroll.inUse then s.scroll.frameTimer
        else timerFor (sourceGiven s s.scroll.setting) } } := by
  unfold refreshSource
  rw [wantedSource_eq]
  split
  · next same => rw [same]
  · rfl

theorem sourceGiven_congr {s t : State} (h : t.heads = s.heads) (src : FrameSource) : sourceGiven t src = sourceGiven s src := by
  unfold sourceGiven
  rw [h]

theorem sourceRefreshed_refreshSource {s t : State} (h : t.scroll = s.scroll) : SourceRefreshed s (refreshSource t) := by
  unfold SourceRefreshed
  rw [sourceGiven_congr (refreshSource_heads t), refreshSource_eq, h]
  rfl

/-- Settles O20: the source that the bytes name becomes the setting, and the decision of the source follows. -/
theorem setFrameSourceDecidesTheSource : Obligations.SetFrameSourceDecidesTheSource := by
  intro seq source rate s ready
  have length : (payloadOf (.setFrameSource seq source rate)).length ≤ 220 := by simp [payloadOf]
  refine ⟨fun src given => ?_, fun bad => ?_⟩
  · have named : frameSourceOf source rate = some src := by
      unfold frameSourceOf
      rcases given with ⟨n, same, rfl⟩ | ⟨rfl, ⟨rfl, rfl⟩ | ⟨rfl, rfl⟩ | ⟨rfl, rfl⟩⟩
      · rw [dif_pos (same ▸ n.isLt)]
        simp [same]
      all_goals rfl
    have use := sourceGiven_congr (s := s) (t := { s with scroll := { s.scroll with setting := src } }) rfl src
    have decided := refreshSource_eq { s with scroll := { s.scroll with setting := src } }
    dsimp only at decided
    rw [use] at decided
    refine exec_answer 0x0C ready length rfl rfl (by rfl) ?_
    simp only [runCommand, cmdSetFrameSource, named, decided]
    rfl
  · have none : frameSourceOf source rate = none := by
      rcases bad with high | ⟨rfl, high⟩
      · unfold frameSourceOf
        have other : source ≠ 4 := fun same => by simp [same] at high
        rw [dif_neg (by omega), if_neg other]
      · have rate : rateOf rate = Option.none := by
          unfold rateOf
          split
          · omega
          · omega
          · omega
          · rfl
        simp [frameSourceOf, rate]
    exact exec_refuse 0x0C ready length rfl rfl (by simp only [runCommand, cmdSetFrameSource, none])

/-! ### Timers -/

/-- The transmitter's choice is made by the link alone (R165). -/
theorem pump_link_congr {s t : State} (h : s.link = t.link) : (pump s).link = (pump t).link := by
  unfold pump
  rw [h]
  (repeat' split) <;> simp [h]

theorem SourceRefreshed.congr {s t u : State} (h : SourceRefreshed s t) (scroll : u.scroll = t.scroll) (heads : u.heads = t.heads) :
    SourceRefreshed s u := by
  unfold SourceRefreshed at h ⊢
  rw [sourceGiven_congr heads, scroll]
  exact h

theorem syncLoss_eq {s : State} {h : Fin 4} (counting : (s.heads[h]).syncTimer ≠ none) (present : (s.heads[h]).syncLost = false) :
    syncLoss h s = refreshSource (raise (.syncState h false) (s.modHead h fun x => { x with syncLost := true, syncTimer := none })) := by
  unfold syncLoss
  split
  · next stopped => exact absurd stopped counting
  · rw [present]
    rfl

/-- Settles O44: each row is an event, and does what its timer's state says. -/
theorem timersRunOut : Obligations.TimersRunOut := by
  intro s running
  have event (f : State → State) := live_running f s running
  refine ⟨?_, fun h => ⟨fun stopped => ?_, fun counting present => ?_⟩, fun l => ?_⟩
  · refine (event (internalExpiry 0)).trans (congrArg (Host.Outcome.next <| pump ·) ?_)
    unfold internalExpiry
    cases timer : s.scroll.frameTimer <;> rfl
  · refine (event (syncLoss h)).trans (congrArg (Host.Outcome.next <| pump ·) ?_)
    unfold syncLoss
    rw [stopped]
  · have frame := syncLoss_eq counting present
    refine ⟨_, event (syncLoss h), ⟨?_, fun g other => ?_⟩, ?_, ?_, ?_⟩
    · simp only [frame, pump_heads, refreshSource_heads, raise_heads, modHead_heads, upd_get_self]
    · simp only [frame, pump_heads, refreshSource_heads, raise_heads, modHead_heads, upd_get_ne _ _ _ _ other]
    · simp [HeadFrame, frame]
    · rw [frame]
      exact (sourceRefreshed_refreshSource (by simp)).congr (pump_scroll _) (pump_heads _)
    · rw [frame]
      exact pump_link_congr ((refreshSource_link _).trans (raise_link_congr _ _ _ rfl))
  · refine ⟨upd s.cues.lines l CueLine.pulseEnd, fun i => ?_, event fun s => s.modLine l CueLine.pulseEnd⟩
    rw [upd_get]
    split
    · next same => subst same; rfl
    · rfl

/-! ### Reading commands -/

/-- Every slot is EMPTY, RENDERING or VALID (R137). -/
theorem count_slots (slots : List Slot) :
    slots.countP (· == .empty) + slots.countP Slot.isRendering + slots.countP Slot.isValid = slots.length := by
  induction slots with
  | nil => rfl
  | cons x rest ih => cases x <;> simp [List.countP_cons, Slot.isRendering, Slot.isValid] <;> omega

/-- Settles O34: each reply is built from the state as it stands. -/
theorem readingCommandsAnswerWithTheState : Obligations.ReadingCommandsAnswerWithTheState := by
  intro seq s ready
  refine ⟨?_, fun head none => ?_, fun head h same => ?_, fun cue none => ?_, fun cue c same => ?_⟩
  · exact exec_answer 0x24 ready (by simp [payloadOf]) rfl rfl rfl rfl
  · exact exec_refuse 0x36 ready (by simp [payloadOf]) rfl rfl (by simp only [runCommand, cmdHeadRead, headOf, dif_neg (Nat.not_lt.mpr none)])
  · have named : headOf head = some h := by simp [headOf, same]
    refine ⟨headFields s.heads[h], exec_answer 0x36 ready (by simp [payloadOf]) rfl rfl rfl (by simp only [runCommand, cmdHeadRead, named]; rfl),
      rfl, rfl, rfl, rfl, rfl, rfl, rfl, rfl, fun half => ?_, ?_, ?_, ?_, ?_⟩
    · rw [show (headFields s.heads[h]).halves = updAll (s.heads[h]).halves halfFields from rfl, updAll_get]
      exact ⟨rfl, rfl, by simp [halfFields]⟩
    · exact (count_slots _).trans (by simp)
    · rfl
    · exact List.countP_eq_length_filter.trans (congrArg (List.length <| List.filter · _) (funext fun x => by cases x <;> rfl))
    · exact List.countP_eq_length_filter.trans (congrArg (List.length <| List.filter · _) (funext fun x => by cases x <;> rfl))
  · refine exec_refuse 0x29 ready (by simp [payloadOf]) rfl rfl (if_neg ?_)
    rw [inRange_iff]
    rcases none with rfl | high
    · simp
    · omega
  · have named : inRange 1 64 cue.toNat = true := inRange_iff.mpr (by omega)
    have actions : cueActions s cue.toNat = s.cues.defs[c] := by
      simp [cueActions, same]
    refine exec_answer 0x29 ready (by simp [payloadOf]) rfl rfl (by rfl) ((if_pos named).trans ?_)
    rw [actions, same, List.countP_eq_length_filter]
    rfl

end Sys2Proof.Machine
end

section
/-! The velocity step (R76) and the lever demand (R73 to R75). -/

namespace Sys2Proof.Machine

/-! ### The velocity step -/

/-- A velocity runs along a demand where both are of one sign (R76). -/
theorem along_iff {v d : Int} : 0 < v * d ↔ (0 < v ∧ 0 < d) ∨ (v < 0 ∧ d < 0) := mul_pos_iff

/-- A magnitude with the sign of a velocity that is not 0. -/
theorem withSign_eq {v : Int} (h : v ≠ 0) (x : Int) : withSign v x = v.sign * x := by
  unfold withSign
  rcases lt_or_gt_of_ne h with neg | pos
  · rw [if_pos neg, Int.sign_eq_neg_one_of_neg neg]
    omega
  · rw [if_neg (by omega), Int.sign_eq_one_of_pos pos]
    omega

section
variable {a b : Nat} (accel : 1 ≤ a) (brake : 1 ≤ b) (v d : Int)

/-- A velocity step grows by at most A, shrinks by at most B, and crosses no sign (R76). -/
theorem velocityStep_bounds (a b : Nat) :
    (velocityStep a b v d).natAbs ≤ v.natAbs + a ∧ v.natAbs ≤ (velocityStep a b v d).natAbs + b
      ∧ (0 < v → 0 ≤ velocityStep a b v d) ∧ (v < 0 → velocityStep a b v d ≤ 0) := by
  unfold velocityStep withSign
  split_ifs <;> omega

include accel brake

/-- A velocity step comes nearer to the demand, or is there (R76). -/
theorem velocityStep_nearer : (velocityStep a b v d - d).natAbs ≤ (v - d).natAbs - 1 := by
  unfold velocityStep withSign
  simp only [along_iff]
  split_ifs <;> omega

/-- Under a demand that stands the velocity reaches it, and stays (R76). -/
theorem velocityStep_iterate {n : Nat} (h : (v - d).natAbs ≤ n) : (fun x => velocityStep a b x d)^[n] v = d := by
  induction n generalizing v with
  | zero => exact Int.sub_eq_zero.mp (Int.natAbs_eq_zero.mp (Nat.le_zero.mp h))
  | succ n ih => exact ih (velocityStep a b v d) ((velocityStep_nearer accel brake v d).trans (by omega))

end

/-- Settles O42: the six cases are those of the step, and its bounds and its way to the demand follow from them. -/
theorem velocityStepMovesTowardTheDemand : Obligations.VelocityStepMovesTowardTheDemand := by
  intro a b v d accel brake
  obtain ⟨grows, shrinks, pos, neg⟩ := velocityStep_bounds v d a b
  refine ⟨?_, ?_, ?_, ?_, ?_, ?_, ⟨grows, shrinks, ?_⟩, fun n h => velocityStep_iterate accel brake v d (by omega)⟩
  · rintro rfl rfl
    simp [velocityStep, withSign]
  · rintro rfl demanded
    rw [velocityStep, if_pos rfl, withSign_eq demanded]
    push_cast
    rfl
  · intro along below
    have moving : v ≠ 0 := by rintro rfl; simp at along
    rw [velocityStep, if_neg moving, if_pos along, if_pos below, withSign_eq moving]
    push_cast
    rfl
  · intro along same
    have moving : v ≠ 0 := by rintro rfl; simp at along
    rw [velocityStep, if_neg moving, if_pos along, if_neg same.not_lt, withSign_eq moving, max_eq_right (by omega), ← same,
      Int.sign_mul_natAbs]
  · intro along above
    have moving : v ≠ 0 := by rintro rfl; simp at along
    rw [velocityStep, if_neg moving, if_pos along, if_neg above.not_gt, withSign_eq moving]
  · intro moving against
    rw [velocityStep, if_neg moving, if_neg against.not_gt, withSign_eq moving]
  · rcases lt_trichotomy v 0 with below | rfl | above
    · exact mul_nonneg_of_nonpos_of_nonpos below.le (neg below)
    · simp
    · exact mul_nonneg above.le (pos above)

/-! ### The lever demand -/

/-- The speed on the curve at a normalized magnitude (R74 step 2). -/
theorem demandMagnitude_eq (curve : Vector Nat 9) (vmax dead gain m : Nat) :
    demandMagnitude curve vmax dead gain m = min (curveSpeed curve (pastDeadZone dead m) * gain / 64) vmax := by
  have rest (x : Nat) : x - 16 * (x / 16) = x % 16 := by omega
  unfold demandMagnitude curveSpeed pastDeadZone
  simp only [rest]

/-- Point `k` of a curve (R75). -/
abbrev curvePoint (curve : Vector Nat 9) (k : Nat) : Nat := curve.toList.getD k 0

theorem curvePoint_le {curve : Vector Nat 9} (ordered : curveOrdered curve = true) {k : Nat} (h : k < 8) :
    curvePoint curve k ≤ curvePoint curve (k + 1) := by
  have next := (curveOrdered_iff.mp ordered).2 ⟨k, h⟩
  have point (i : Nat) (hi : i < 9) : curvePoint curve i = curve[i] := by simp [curvePoint, hi]
  rw [point k (by omega), point (k + 1) (by omega)]
  exact next

theorem curveSpeed_eq {curve : Vector Nat 9} {m : Nat} (h : m < 128) :
    curveSpeed curve m = curvePoint curve (m / 16)
      + (curvePoint curve (m / 16 + 1) - curvePoint curve (m / 16)) * (m % 16) / 16 := if_neg (by omega)

theorem curveSpeed_end (curve : Vector Nat 9) : curveSpeed curve 128 = curvePoint curve 8 := by
  rw [curveSpeed, if_pos rfl]

/-- Along an ordered curve the speed does not fall (R74, R75): not within a segment, and not from one to the next. -/
theorem curveSpeed_step {curve : Vector Nat 9} (ordered : curveOrdered curve = true) {m : Nat} (h : m < 128) :
    curveSpeed curve m ≤ curveSpeed curve (m + 1) := by
  have rises := curvePoint_le ordered (k := m / 16) (by omega)
  rw [curveSpeed_eq h]
  by_cases inside : m % 16 < 15
  · have segment : (m + 1) / 16 = m / 16 := by omega
    have place : (m + 1) % 16 = m % 16 + 1 := by omega
    rw [curveSpeed_eq (by omega), segment, place]
    gcongr
    omega
  · have most : (curvePoint curve (m / 16 + 1) - curvePoint curve (m / 16)) * (m % 16) / 16
        ≤ curvePoint curve (m / 16 + 1) - curvePoint curve (m / 16) :=
      Nat.div_le_of_le_mul (by rw [Nat.mul_comm]; exact Nat.mul_le_mul_right _ (by omega))
    have reached : curvePoint curve (m / 16 + 1) ≤ curveSpeed curve (m + 1) := by
      by_cases last : m + 1 = 128
      · rw [last, curveSpeed_end, show m / 16 + 1 = 8 by omega]
      · rw [curveSpeed_eq (by omega), show (m + 1) / 16 = m / 16 + 1 by omega]
        exact Nat.le_add_right _ _
    omega

theorem curveSpeed_mono {curve : Vector Nat 9} (ordered : curveOrdered curve = true) {m n : Nat} (h : m ≤ n) (hn : n ≤ 128) :
    curveSpeed curve m ≤ curveSpeed curve n := by
  induction n, h using Nat.le_induction with
  | base => exact le_rfl
  | succ n _ ih => exact (ih (by omega)).trans (curveSpeed_step ordered (by omega))

/-- The normalized magnitude grows with the deflection (R74 step 1). -/
theorem pastDeadZone_mono (dead : Nat) {m n : Nat} (h : m ≤ n) : pastDeadZone dead m ≤ pastDeadZone dead n := by
  unfold pastDeadZone
  split_ifs with inside inside'
  · exact le_rfl
  · exact Nat.zero_le _
  · omega
  · gcongr

theorem pastDeadZone_full {dead : Nat} (h : dead ≤ 32) : pastDeadZone dead 128 = 128 := by
  rw [pastDeadZone, if_neg (by omega)]
  exact Nat.mul_div_cancel_left _ (by omega)

/-- Settles O43: the demand is the curve's speed past the dead zone, with the gain and at most Vmax. -/
theorem leverDemandFollowsTheCurve : Obligations.LeverDemandFollowsTheCurve := by
  intro curve vmax port
  refine ⟨fun m value => ?_, fun m value => ?_, fun m => ?_, fun m ordered still => ?_, fun dead => ?_,
    fun ordered dead m n h full => ?_⟩
  · simp [leverDemand, value, demandMagnitude_eq]
  · simp [leverDemand, value, demandMagnitude_eq]
  · exact Nat.min_le_right _ _
  · have start : curvePoint curve 0 = 0 := by simpa [curvePoint] using (curveOrdered_iff.mp ordered).1
    rw [demandMagnitude_eq, pastDeadZone, if_pos still, curveSpeed_eq (by omega)]
    rw [start]
    simp
  · rw [demandMagnitude_eq, pastDeadZone_full dead, curveSpeed_end]
    simp [curvePoint]
  · rw [demandMagnitude_eq, demandMagnitude_eq]
    have speed := curveSpeed_mono ordered (pastDeadZone_mono port.dead h)
      (pastDeadZone_full dead ▸ pastDeadZone_mono port.dead full)
    gcongr

end Sys2Proof.Machine
end

section
/-! The end of a hold by silence and rest, and the scroll commands and keys (R80 to R85, R96 to R98, R101, R107 to R112). -/

namespace Sys2Proof.Machine

/-- A vector with one entry changed, by its entries. -/
theorem upd_entries {α : Type} {n : Nat} (v : Vector α n) (i : Fin n) (f : α → α) (j : Fin n) :
    (upd v i f)[j] = if j = i then f v[j] else v[j] := by
  rw [upd_get]
  split
  · next same => rw [same]
  · rfl

/-- A change of a port is told by what it makes of the port's record. -/
theorem modPort_congr {s : State} {n : Fin 6} {f g : Port → Port} (h : f s.hub.ports[n] = g s.hub.ports[n]) :
    s.modPort n f = s.modPort n g := by
  unfold State.modPort upd
  rw [h]

theorem modPort_modPort (s : State) (n : Fin 6) (f g : Port → Port) : (s.modPort n f).modPort n g = s.modPort n fun x => g (f x) := by
  have ports : upd (upd s.hub.ports n f) n g = upd s.hub.ports n fun x => g (f x) := by
    refine ports_ext fun i => ?_
    simp only [upd_entries]
    split <;> rfl
  exact congrArg (fun ports => ({ s with hub := { s.hub with ports := ports } } : State)) ports

theorem modPort_id {s : State} {n : Fin 6} {f : Port → Port} (h : f s.hub.ports[n] = s.hub.ports[n]) : s.modPort n f = s :=
  congrArg (fun ports => ({ s with hub := { s.hub with ports := ports } } : State)) (upd_id _ _ _ h)

/-! ### Silence and rest -/

/-- A report timeout makes the port STALE, and a holder's hold is lost (R85, R97, R98, R111). -/
theorem goStale_eq (n : Fin 6) (s : State) :
    goStale n s = controlLost n (raise (.portState n .stale s.hub.ports[n].state s.hub.ports[n].kind)
      (s.modPort n fun x => { x with state := .stale, timer := none, refused := false })) := loseControl_eq _ _

theorem controlLost_of_other {n : Fin 6} {s : State} (other : NotHolder n s) : controlLost n s = s :=
  if_neg fun ⟨h, hh, same⟩ => other h hh same

theorem controlLost_of_holder {n : Fin 6} {s : State} (holder : ∃ h ∈ s.hub.holder, h.port = n) :
    controlLost n s =
      (fun t => if s.scroll.state = .manual ∨ s.scroll.state = .cruise then stateChanged .stopped .controlLost t else t)
        (raise (.authority none (some n) .controlLost) { s with hub := { s.hub with holder := none, releaseTimer := none } }) :=
  if_pos holder

/-- The release of a holder (R109, R110). -/
theorem releaseHold_eq {s : State} {h : Holder} (holder : s.hub.holder = some h) :
    releaseHold s =
      (fun t => if h.kind ≠ .wheel ∧ s.scroll.state = .manual then stateChanged .stopped (.port h.port) t else t)
        (raise (.authority none (some h.port) .released) { s with hub := { s.hub with holder := none, releaseTimer := none } }) := by
  unfold releaseHold
  simp only [holder, setHolder, Option.map_some]
  rfl

/-- Settles O55: a silent port goes STALE, and its hold is lost; a holder at rest is released. -/
theorem silenceAndRestEndTheHold : Obligations.SilenceAndRestEndTheHold := by
  refine ⟨fun n s running => ?_, fun s running => ?_⟩
  · have event := live_running (reportTimeout n) s running
    refine ⟨fun dead => event.trans ?_, fun live => ?_⟩
    · rw [reportTimeout, if_neg dead]
    · rw [reportTimeout, if_pos live, goStale_eq, live] at event
      refine ⟨_, upd_entries s.hub.ports n fun x => { x with state := .stale, timer := none, refused := false },
        fun other => event.trans ?_, fun holder => event.trans ?_⟩
      · rw [controlLost_of_other fun h hh => other h (by simpa using hh)]
        rfl
      · rw [controlLost_of_holder (by simpa using holder)]
        simp only [raise_scroll, modPort_scroll]
        rfl
  · have event := live_running releaseExpiry s running
    refine ⟨fun idle => event.trans ?_, fun h holder counting => event.trans ?_⟩
    · unfold releaseExpiry releaseHold
      rcases idle with none | none <;> rw [none]
      split <;> rfl
    · unfold releaseExpiry
      split
      · rw [releaseHold_eq holder]
      · next none => exact absurd none counting

end Sys2Proof.Machine
end

section
/-! A report as it arrives on a port, and what the taking of one makes of the port's record (R94 to R96, R172). -/

namespace Sys2Proof.Machine

/-! ### The bytes of a report -/

theorem word16_bytes (w : Word16) : word16 (lowByte w) (highByte w) = w := by
  apply BitVec.eq_of_toNat_eq
  simp only [word16, lowByte, highByte, BitVec.toNat_ofNat]
  have := w.isLt
  omega

/-- A port whose receiver is in a given state. -/
def withReceiver (n : Fin 6) (x : Receiver) (s : State) : State := s.modPort n fun y => { y with receiver := x }

theorem withReceiver_withReceiver (n : Fin 6) (x y : Receiver) (s : State) :
    withReceiver n y (withReceiver n x s) = withReceiver n y s := modPort_modPort s n _ _

theorem withReceiver_self {n : Fin 6} {x : Receiver} {s : State} (h : s.hub.ports[n].receiver = x) : withReceiver n x s = s :=
  modPort_id (by rw [← h])

theorem receiver_withReceiver (n : Fin 6) (x : Receiver) (s : State) : (withReceiver n x s).hub.ports[n].receiver = x := by
  rw [withReceiver, modPort_hub_ports, upd_get_self]

theorem receive_byte {x y : Receiver} {b : Byte} (n : Fin 6) (s : State) (h : portByte x b = (y, none)) :
    receivePortByte n (withReceiver n x s) b = withReceiver n y s := by
  unfold receivePortByte
  rw [receiver_withReceiver, h]
  exact withReceiver_withReceiver n x y s

theorem receive_last {x y : Receiver} {b : Byte} {r : ControlReport} (n : Fin 6) (s : State) (h : portByte x b = (y, some r)) :
    receivePortByte n (withReceiver n x s) b = validReport n r (withReceiver n y s) := by
  unfold receivePortByte
  rw [receiver_withReceiver, h]
  exact congrArg (validReport n r) (withReceiver_withReceiver n x y s)

/-- A byte of a frame that is still to go on joins it (R94). -/
theorem portByte_more {got : List Byte} {b : Byte} (good : badAnnouncement (got ++ [b]) = false)
    (short : ¬ (2 ≤ (got ++ [b]).length ∧ (got ++ [b]).length = lenOf (got ++ [b]) + 2)) (gap : Nat) :
    portByte (.inFrame got gap) b = (.inFrame (got ++ [b]) 0, none) := by
  rw [portByte, good]
  exact if_neg short

/-- The byte that completes a frame brings its report (R94). -/
theorem portByte_last {got : List Byte} {b : Byte} {r : ControlReport} (good : badAnnouncement (got ++ [b]) = false)
    (whole : 2 ≤ (got ++ [b]).length ∧ (got ++ [b]).length = lenOf (got ++ [b]) + 2)
    (parsed : parseReport (got ++ [b]) = some r) (gap : Nat) :
    portByte (.inFrame got gap) b = (.hunting, some r) := by
  rw [portByte, good, ← parsed]
  exact if_pos whole

/-- The check byte brings the sum of a report's bytes to 0, and the keys are read back (R172). -/
theorem parseReport_frame (r : ControlReport) (raw : r.kind = .keypad → r.raw = 0) :
    parseReport (reportFrame r).tail = some r := by
  have keys : ((word16 (lowByte (r.keys.setWidth 16)) (highByte (r.keys.setWidth 16))).setWidth 9 : KeySet) = r.keys := by
    rw [word16_bytes]
    simp
  obtain ⟨kind, value, pressed⟩ := r
  dsimp only at raw keys
  cases kind
  case keypad =>
    obtain rfl := raw rfl
    simp only [reportFrame, bytes16, List.tail, List.cons_append, List.nil_append, parseReport, kindOfCode, keys]
    refine if_pos ⟨rfl, ?_⟩
    simp only [List.sum_cons, List.sum_nil]
    ring
  all_goals
    simp only [reportFrame, bytes16, List.tail, List.cons_append, List.nil_append, parseReport, kindOfCode, keys]
    refine if_pos ⟨by simp, ?_⟩
    simp only [List.sum_cons, List.sum_nil]
    ring

/-- The bytes of a report, on a port that hunts, are that report (R94). -/
theorem receive_reportFrame {n : Fin 6} {r : ControlReport} {s : State} (hunting : s.hub.ports[n].receiver = .hunting)
    (raw : r.kind = .keypad → r.raw = 0) : (reportFrame r).foldl (receivePortByte n) s = validReport n r s := by
  have parsed := parseReport_frame r raw
  have start := receive_byte n s (x := .hunting) (b := 0xA5) (y := .inFrame [] 0) rfl
  have finish : withReceiver n .hunting s = s := withReceiver_self hunting
  have more (got : List Byte) (b : Byte) (good : badAnnouncement (got ++ [b]) = false)
      (short : ¬ (2 ≤ (got ++ [b]).length ∧ (got ++ [b]).length = lenOf (got ++ [b]) + 2)) :
      receivePortByte n (withReceiver n (.inFrame got 0) s) b = withReceiver n (.inFrame (got ++ [b]) 0) s :=
    receive_byte n s (portByte_more good short 0)
  have last (got : List Byte) (b : Byte) (good : badAnnouncement (got ++ [b]) = false)
      (whole : 2 ≤ (got ++ [b]).length ∧ (got ++ [b]).length = lenOf (got ++ [b]) + 2)
      (parsed : parseReport (got ++ [b]) = some r) :
      receivePortByte n (withReceiver n (.inFrame got 0) s) b = validReport n r s := by
    rw [receive_last n s (portByte_last good whole parsed 0), finish]
  rw [finish] at start
  unfold reportFrame at parsed ⊢
  cases kind : r.kind
  case keypad =>
    simp only [kind, bytes16, List.cons_append, List.nil_append, List.tail] at parsed ⊢
    simp only [List.foldl_cons, List.foldl_nil]
    rw [start, more _ _ rfl (by simp [lenOf]), more _ _ rfl (by simp [lenOf]), more _ _ rfl (by simp [lenOf]),
      more _ _ rfl (by simp [lenOf]), last _ _ rfl (by simp [lenOf]) parsed]
  all_goals
    simp only [kind, bytes16, List.cons_append, List.nil_append, List.tail] at parsed ⊢
    simp only [List.foldl_cons, List.foldl_nil]
    rw [start, more _ _ rfl (by simp [lenOf]), more _ _ rfl (by simp [lenOf]), more _ _ rfl (by simp [lenOf]),
      more _ _ rfl (by simp [lenOf]), more _ _ rfl (by simp [lenOf]), last _ _ rfl (by simp [lenOf]) parsed]

end Sys2Proof.Machine
end

section
/-! The key set that a port holds is looked at before the keys act, and not again: it may be noted before or after them (R96, R101). -/

namespace Sys2Proof.Machine

/-- A port's key set noted (R96 step 8). -/
def withKeys (n : Fin 6) (keys : KeySet) (s : State) : State := s.modPort n fun x => { x with keys := keys }

section
variable (n : Fin 6) (keys : KeySet) (s : State)

@[simp] theorem withKeys_scroll : (withKeys n keys s).scroll = s.scroll := rfl
@[simp] theorem withKeys_holder : (withKeys n keys s).hub.holder = s.hub.holder := rfl

theorem withKeys_port (i : Fin 6) :
    (withKeys n keys s).hub.ports[i] = { s.hub.ports[i] with keys := if i = n then keys else s.hub.ports[i].keys } := by
  rw [withKeys, modPort_hub_ports, upd_entries]
  split <;> rfl

theorem withKeys_role (i : Fin 6) : (withKeys n keys s).hub.ports[i].role = s.hub.ports[i].role := by rw [withKeys_port]
theorem withKeys_mustRest (i : Fin 6) : (withKeys n keys s).hub.ports[i].mustRest = s.hub.ports[i].mustRest := by rw [withKeys_port]
theorem withKeys_refused (i : Fin 6) : (withKeys n keys s).hub.ports[i].refused = s.hub.ports[i].refused := by rw [withKeys_port]
theorem withKeys_dead (i : Fin 6) : (withKeys n keys s).hub.ports[i].dead = s.hub.ports[i].dead := by rw [withKeys_port]
theorem withKeys_reverse (i : Fin 6) : (withKeys n keys s).hub.ports[i].reverse = s.hub.ports[i].reverse := by rw [withKeys_port]
theorem withKeys_step (i : Fin 6) : (withKeys n keys s).hub.ports[i].step = s.hub.ports[i].step := by rw [withKeys_port]

/-- A change of a port that has nothing to do with its key set. -/
theorem modPort_withKeys (m : Fin 6) {f : Port → Port} (hf : ∀ x k, f { x with keys := k } = { f x with keys := k } := by exact fun _ _ => rfl) :
    (withKeys n keys s).modPort m f = withKeys n keys (s.modPort m f) := by
  have ports : ((withKeys n keys s).modPort m f).hub.ports = (withKeys n keys (s.modPort m f)).hub.ports := by
    refine ports_ext fun i => ?_
    simp only [withKeys_port, modPort_hub_ports, upd_entries]
    split
    · have same : f s.hub.ports[i] = { f s.hub.ports[i] with keys := s.hub.ports[i].keys } := hf s.hub.ports[i] s.hub.ports[i].keys
      have kept : (f s.hub.ports[i]).keys = s.hub.ports[i].keys := by rw [same]
      rw [hf, kept]
    · rfl
  exact congrArg (fun ports => ({ s with hub := { s.hub with ports := ports } } : State)) ports

theorem raise_withKeys (notice : Notice) : raise notice (withKeys n keys s) = withKeys n keys (raise notice s) := by
  unfold raise
  split
  · next room => rw [if_pos (by exact room)]; rfl
  · next full => rw [if_neg (by exact full)]; rfl

theorem setScrollState_withKeys (new : ScrollState) (c : ScrollCause) :
    setScrollState new c (withKeys n keys s) = withKeys n keys (setScrollState new c s) := by
  obtain ⟨same, h⟩ | ⟨other, h⟩ := setScrollState_eq new c s
  · rw [h, setScrollState, if_pos (by exact same)]
  · rw [h, setScrollState, if_neg (by exact other), ← raise_withKeys]
    rfl

theorem setHolder_withKeys (new : Option Holder) (timer : Option Nat) (c : AuthorityCause) :
    setHolder new timer c (withKeys n keys s) = withKeys n keys (setHolder new timer c s) :=
  raise_withKeys n keys { s with hub := { s.hub with holder := new, releaseTimer := timer } } _

theorem restHolder_withKeys : restHolder (withKeys n keys s) = withKeys n keys (restHolder s) := by
  unfold restHolder
  rw [withKeys_holder]
  cases s.hub.holder with
  | none => rfl
  | some h => exact modPort_withKeys n keys s h.port

theorem endHold_withKeys (c : AuthorityCause) : endHold c (withKeys n keys s) = withKeys n keys (endHold c s) := by
  unfold endHold
  rw [withKeys_holder]
  cases s.hub.holder with
  | none => rfl
  | some h => dsimp only; rw [restHolder_withKeys, setHolder_withKeys]

theorem endLeverHold_withKeys : endLeverHold (withKeys n keys s) = withKeys n keys (endLeverHold s) := by
  have lever : leverHolds (withKeys n keys s) = leverHolds s := rfl
  unfold endLeverHold
  rw [lever]
  split
  · exact endHold_withKeys n keys s .ended
  · rfl

theorem permitted_withKeys (role : Role) : permitted role (withKeys n keys s) = permitted role s := rfl

theorem contend_withKeys (m : Fin 6) : contend m (withKeys n keys s) = withKeys n keys (contend m s) := by
  unfold contend
  rw [withKeys_holder, withKeys_refused, withKeys_role]
  cases s.hub.holder with
  | none => rfl
  | some h =>
    dsimp only
    split
    · rfl
    · rw [modPort_withKeys, raise_withKeys]

theorem portCruise_withKeys (m : Fin 6) (x : Int) : portCruise m x (withKeys n keys s) = withKeys n keys (portCruise m x s) := by
  have floor : cruiseFloor m (withKeys n keys s) = cruiseFloor m s := by
    unfold cruiseFloor
    rw [withKeys_reverse]
    rfl
  unfold portCruise
  rw [floor]
  rfl

theorem trimCruise_withKeys (m : Fin 6) (delta : Int) : trimCruise m delta (withKeys n keys s) = withKeys n keys (trimCruise m delta s) := by
  unfold trimCruise
  dsimp only
  rw [withKeys_scroll]
  split
  · rw [portCruise_withKeys]
    exact portCruise_withKeys ..
  · exact portCruise_withKeys ..

theorem keyJump_withKeys (row : Nat) : keyJump row (withKeys n keys s) = withKeys n keys (keyJump row s) := by
  have reflowing : (withKeys n keys s).reflowing = s.reflowing := rfl
  have recomputed (t : State) : recomputeStates (withKeys n keys t) = withKeys n keys (recomputeStates t) := by
    unfold recomputeStates
    dsimp only
    rw [apply_ite (withKeys n keys), ← raise_withKeys]
    rfl
  unfold keyJump
  rw [reflowing]
  split
  · rfl
  · exact recomputed (({ s with scroll := { s.scroll with p := (clampInt 0 s.rows row).toNat * Config.fine } } : State).setMarks
      (s.layout.marks.map (jumpArming ((clampInt 0 s.rows row).toNat * Config.fine))))

theorem speedKey_withKeys (m : Fin 6) (delta : Int) : speedKey m delta (withKeys n keys s) = withKeys n keys (speedKey m delta s) := by
  unfold speedKey
  rw [withKeys_scroll, trimCruise_withKeys]
  dsimp only
  split
  · rfl
  · rw [endLeverHold_withKeys, setScrollState_withKeys]
  all_goals exact setScrollState_withKeys ..

theorem stopScroll_withKeys (c : ScrollCause) : stopScroll c (withKeys n keys s) = withKeys n keys (stopScroll c s) := by
  unfold stopScroll
  dsimp only
  rw [endHold_withKeys, withKeys_scroll]
  split
  · rfl
  · exact setScrollState_withKeys ..

theorem resumeKey_withKeys (m : Fin 6) : resumeKey m (withKeys n keys s) = withKeys n keys (resumeKey m s) := by
  unfold resumeKey
  rw [withKeys_scroll]
  split
  · exact setScrollState_withKeys ..
  · exact setScrollState_withKeys ..
  · rw [endLeverHold_withKeys, setScrollState_withKeys]
  · rfl
  · rfl

theorem runKey_withKeys (m : Fin 6) (k : ActionKey) : runKey m k (withKeys n keys s) = withKeys n keys (runKey m k s) := by
  cases k with
  | stop => exact stopScroll_withKeys ..
  | resume => exact resumeKey_withKeys ..
  | faster => exact speedKey_withKeys ..
  | slower => exact speedKey_withKeys ..
  | next => exact keyJump_withKeys ..
  | prev => exact keyJump_withKeys ..
  | top => exact keyJump_withKeys ..

theorem judgeKey_withKeys (m : Fin 6) (pressed : KeySet) (k : ActionKey) :
    judgeKey m pressed (withKeys n keys s) k = withKeys n keys (judgeKey m pressed s k) := by
  unfold judgeKey
  rw [withKeys_role, permitted_withKeys]
  (repeat' split)
  · exact runKey_withKeys ..
  · exact contend_withKeys ..
  · rfl

theorem runKeys_withKeys (m : Fin 6) (pressed : KeySet) : runKeys m pressed (withKeys n keys s) = withKeys n keys (runKeys m pressed s) := by
  have judged : actionKeys.foldl (judgeKey m pressed) (withKeys n keys s) = withKeys n keys (actionKeys.foldl (judgeKey m pressed) s) := by
    generalize actionKeys = l
    induction l generalizing s with
    | nil => rfl
    | cons k rest ih => rw [List.foldl_cons, List.foldl_cons, judgeKey_withKeys, ih]
  unfold runKeys markKey
  rw [judged]
  split
  · exact raise_withKeys ..
  · rfl

theorem releaseHold_withKeys : releaseHold (withKeys n keys s) = withKeys n keys (releaseHold s) := by
  unfold releaseHold
  rw [withKeys_holder]
  split
  · rfl
  · dsimp only
    rw [setHolder_withKeys, withKeys_scroll]
    split
    · exact setScrollState_withKeys ..
    · rfl

theorem holderTiming_withKeys (m : Fin 6) (rest : Bool) : holderTiming m rest (withKeys n keys s) = withKeys n keys (holderTiming m rest s) := by
  have timer : (withKeys n keys s).hub.releaseTimer = s.hub.releaseTimer := rfl
  have delay : (withKeys n keys s).hub.releaseDelay = s.hub.releaseDelay := rfl
  unfold holderTiming
  rw [withKeys_holder, timer, delay]
  (repeat' split)
  any_goals rfl
  exact releaseHold_withKeys ..

theorem leverRequest_withKeys (m : Fin 6) (kind : ControllerKind) (x : Nat) :
    leverRequest m kind x (withKeys n keys s) = withKeys n keys (leverRequest m kind x s) := by
  have holds : holds m (withKeys n keys s) = holds m s := rfl
  unfold leverRequest leverTakes
  dsimp only
  rw [withKeys_role, withKeys_mustRest, withKeys_refused, withKeys_dead, holds, permitted_withKeys, restHolder_withKeys,
    setHolder_withKeys, withKeys_scroll]
  (repeat' split)
  · rfl
  · exact setScrollState_withKeys ..
  · exact contend_withKeys ..
  · rfl

theorem wheelRequest_withKeys (m : Fin 6) (count : Int) :
    wheelRequest m count (withKeys n keys s) = withKeys n keys (wheelRequest m count s) := by
  have holds : holds m (withKeys n keys s) = holds m s := rfl
  have turned (t : State) : wheelDetents m count (withKeys n keys t) = withKeys n keys (wheelDetents m count t) := by
    unfold wheelDetents
    dsimp only
    rw [withKeys_step, withKeys_scroll, trimCruise_withKeys]
    split
    · rfl
    · exact setScrollState_withKeys ..
  unfold wheelRequest
  dsimp only
  rw [withKeys_role, holds, permitted_withKeys, restHolder_withKeys, setHolder_withKeys]
  (repeat' split)
  · rfl
  · exact turned (s.setReleaseTimer (some 0))
  · exact turned _
  · exact contend_withKeys ..

theorem makeRequest_withKeys (m : Fin 6) (kind : ControllerKind) (value : PortValue) :
    makeRequest m kind value (withKeys n keys s) = withKeys n keys (makeRequest m kind value s) := by
  cases value with
  | none => rfl
  | deflection negative x => exact leverRequest_withKeys ..
  | detents count => exact wheelRequest_withKeys ..

end

/-! ### A report on a LIVE port of its kind -/

/-- The decoded value is the statements' (R95). -/
theorem decodeValue_eq (r : ControlReport) (reverse : Bool) : decodeValue r reverse = valueGiven r reverse := by
  unfold decodeValue valueGiven
  cases r.kind with
  | lever =>
    have magnitude : (max r.raw.toInt (-127)).natAbs = if r.raw = 0x80 then 127 else r.raw.toInt.natAbs := by
      have low := BitVec.le_toInt r.raw
      split
      · next edge => rw [edge]; rfl
      · next inside =>
        have : r.raw.toInt ≠ -128 := fun same => inside (BitVec.eq_of_toInt_eq same)
        omega
    have sign : (max r.raw.toInt (-127) < 0) ↔ r.raw.toInt < 0 := by omega
    simp only [magnitude, sign]
  | _ => rfl

/-- No action key among the bits of a key set (R101). -/
theorem anyActionKey_eq_false_iff {pressed : KeySet} : anyActionKey pressed = false ↔ pressed &&& 0x0FF = 0 := by
  simp [anyActionKey]

/-- What a report notes of its port before the keys act: value, keys and timer, and the flags cleared at rest (R96, R98, R100). -/
def reported (n : Fin 6) (keys : KeySet) (value : PortValue) (rest : Prop) [Decidable rest] (s : State) : State :=
  s.modPort n fun x => { x with
    value := value, keys := keys, timer := some 0, armedTimeout := x.timeout
    mustRest := if rest then false else x.mustRest
    refused := if rest then false else x.refused }

/-- A report's value noted, and the flags cleared at rest, its key set still to be noted (R96 steps 2 and 3). -/
def noteValue (n : Fin 6) (kind : ControllerKind) (value : PortValue) (rest : Bool) (s : State) : State :=
  let noted := s.modPort n fun x => { x with value := value, kind := some kind }
  if rest then noted.modPort n fun x => { x with mustRest := false, refused := false } else noted

theorem withKeys_noteValue {n : Fin 6} {kind : ControllerKind} {s : State} (hkind : s.hub.ports[n].kind = some kind) (keys : KeySet)
    (value : PortValue) (rest : Prop) [Decidable rest] :
    withKeys n keys (noteValue n kind value (decide rest) (s.modPort n Port.restartTimer)) = reported n keys value rest s := by
  by_cases still : rest
  all_goals
    simp only [withKeys, noteValue, reported, still, decide_true, decide_false, if_true, if_false, Bool.false_eq_true, modPort_modPort]
    exact modPort_congr (by rw [← hkind]; rfl)

/-- The keys act before a report's key set is noted, and do the same after (R96 steps 4 to 8). -/
theorem takeReport_live {n : Fin 6} {r : ControlReport} {s : State} {value : PortValue}
    (hvalue : decodeValue r s.hub.ports[n].reverse = value) {pressed : KeySet} (hpressed : r.keys &&& ~~~s.hub.ports[n].keys = pressed)
    {rest : Bool} (hrest : atRest r.kind value s.hub.ports[n].dead pressed = rest) :
    takeReport n r false s = makeRequest n r.kind value
      (holderTiming n rest (runKeys n pressed (withKeys n r.keys (noteValue n r.kind value rest s)))) := by
  subst hvalue hpressed hrest
  rw [runKeys_withKeys, holderTiming_withKeys, makeRequest_withKeys]
  rfl

/-- A report of its kind on a LIVE port: what it notes, its keys, the holder's timing, its request (R96). -/
theorem exec_report {n : Fin 6} {r : ControlReport} {s : State} (running : s.resetHeld = false) (raw : r.kind = .keypad → r.raw = 0)
    (hunting : s.hub.ports[n].receiver = .hunting) (live : s.hub.ports[n].state = .live) (kind : s.hub.ports[n].kind = some r.kind)
    {value : PortValue} (hvalue : valueGiven r s.hub.ports[n].reverse = value) {pressed : KeySet}
    (hpressed : r.keys &&& ~~~s.hub.ports[n].keys = pressed) {rest : Prop} [Decidable rest]
    (hrest : atRest r.kind value s.hub.ports[n].dead pressed = true ↔ rest) :
    exec (.controllerReport n (reportFrame r)) s =
      .next (pump (makeRequest n r.kind value
        (holderTiming n (decide rest) (runKeys n pressed (reported n r.keys value rest s))))) := by
  have timed : enterReport n r.kind s = (s.modPort n Port.restartTimer, false) := by
    have found : foundPort n r.kind s = s := if_neg fun changed => changed.2 kind
    rw [enterReport_eq, found, if_pos live]
  have port : (s.modPort n Port.restartTimer).hub.ports[n] = s.hub.ports[n].restartTimer := by rw [modPort_hub_ports, upd_get_self]
  have atRest : atRest r.kind value s.hub.ports[n].dead pressed = decide rest := by rw [Bool.eq_iff_iff, hrest, decide_eq_true_iff]
  have taken := takeReport_live (n := n) (r := r) (s := s.modPort n Port.restartTimer) (value := value) (pressed := pressed)
    (rest := decide rest) (by rw [port, ← hvalue]; exact decodeValue_eq r _) (by rw [port]; exact hpressed)
    (by rw [port]; exact atRest)
  refine (live_running (fun s => (reportFrame r).foldl (receivePortByte n) s) s running).trans ?_
  rw [receive_reportFrame hunting raw, validReport, if_neg (by rw [live]; simp), timed]
  dsimp only
  rw [taken, withKeys_noteValue kind]

end Sys2Proof.Machine
end

section
/-! The scroll commands and the keys (R80 to R83, R101, R107, R108, R112). -/

namespace Sys2Proof.Machine

/-! ### What a stop, RESUME, FASTER and SLOWER do -/

/-- A stop ends a hold, and stops a scroll that has rows (R80, R112). -/
theorem stopScroll_eq (c : ScrollCause) (s : State) :
    stopScroll c s = (fun t => if s.scroll.state = .idle then t else stateChanged .stopped c t) (holdEnded .stopped s) := by
  unfold stopScroll
  dsimp only
  rw [endHold_scroll, endHold_eq]
  rfl

theorem trimCruise_eq (n : Fin 6) (delta : Int) (s : State) :
    trimCruise n delta s = { s with scroll := { s.scroll with cruise := cruiseTrimmed n delta s } } := by
  unfold trimCruise cruiseTrimmed
  dsimp only
  split <;> rfl

/-- The state after RESUME, FASTER or SLOWER, from the one in which the cruise speed is set (R81, R83). -/
def driven (n : Fin 6) (s t : State) : State :=
  match s.scroll.state with
  | .idle => t
  | .manual => stateChanged .cruise (.port n) (if leverHolds s = true then holdEnded .ended t else t)
  | .stopped => stateChanged .cruise (.port n) t
  | .cruise => t
  | .held => stateChanged .cruise (.port n) t

theorem endLeverHold_eq {s t : State} (h : leverHolds t = leverHolds s) :
    endLeverHold t = if leverHolds s = true then holdEnded .ended t else t := by
  unfold endLeverHold
  rw [h, endHold_eq]

theorem resumeKey_eq (n : Fin 6) (s : State) : resumeKey n s = driven n s s := by
  unfold resumeKey driven
  cases s.scroll.state with
  | manual =>
    dsimp only
    rw [endLeverHold_eq rfl]
    rfl
  | _ => rfl

theorem speedKey_eq (n : Fin 6) (delta : Int) (s : State) :
    speedKey n delta s = driven n s { s with scroll := { s.scroll with cruise := cruiseTrimmed n delta s } } := by
  unfold speedKey driven
  rw [trimCruise_eq]
  cases state : s.scroll.state with
  | manual =>
    have ended := endLeverHold_eq (s := s) (t := { s with scroll := { s.scroll with cruise := cruiseTrimmed n delta s } }) rfl
    exact congrArg (setScrollState .cruise (.port n)) ended
  | cruise => exact if_pos state
  | _ => rfl

/-- A request that is refused contends, once (R108). -/
theorem contend_eq {n : Fin 6} {s : State} {h : Holder} (holder : s.hub.holder = some h) :
    contend n s = if s.hub.ports[n].refused = true then s
      else raise (.contention n s.hub.ports[n].role h) (s.modPort n fun x => { x with refused := true }) := by
  unfold contend
  rw [holder]

/-- A request is refused only while authority is held (R104). -/
theorem contend_of_refused {n : Fin 6} {s : State} (h : s.hub.ports[n].refused = true) : contend n s = s := by
  unfold contend
  split
  · rfl
  · exact if_pos h

theorem exists_key {bit : Nat} (h : bit < 7) : ∃ k : ActionKey, k.bit = bit := by
  interval_cases bit
  · exact ⟨.stop, rfl⟩
  · exact ⟨.resume, rfl⟩
  · exact ⟨.faster, rfl⟩
  · exact ⟨.slower, rfl⟩
  · exact ⟨.next, rfl⟩
  · exact ⟨.prev, rfl⟩
  · exact ⟨.top, rfl⟩

/-- With no key newly down nothing acts (R101). -/
theorem runKeys_none {pressed : KeySet} (h : pressed &&& 0x0FF = 0) (n : Fin 6) (s : State) : runKeys n pressed s = s := by
  have up (bit : Nat) (hbit : bit < 8) : KeySet.has pressed bit = false := by
    have clear := congrArg (·.getLsbD bit) h
    have mask : (0x0FF : KeySet).getLsbD bit = true := by interval_cases bit <;> rfl
    have both : (pressed.getLsbD bit && (0x0FF : KeySet).getLsbD bit) = false := by
      rw [← BitVec.getLsbD_and, h]
      exact BitVec.getLsbD_zero
    rwa [mask, Bool.and_true] at both
  have quiet (k : ActionKey) (t : State) : judgeKey n pressed t k = t := by
    have bit : k.bit < 8 := by cases k <;> decide
    rw [judgeKey, up _ bit]
    rfl
  simp only [runKeys, markKey, up 7 (by omega), actionKeys, List.foldl_cons, List.foldl_nil, quiet]
  rfl

/-- The first refused request sets refused and raises CONTENTION (R108). -/
theorem contend_of_clear {n : Fin 6} {s : State} {h : Holder} (holder : s.hub.holder = some h)
    (clear : s.hub.ports[n].refused = false) :
    ∃ ports : Vector Port 6,
      contend n s = raise (.contention n s.hub.ports[n].role h) { s with hub := { s.hub with ports := ports } }
      ∧ ∀ i : Fin 6, ports[i] = if i = n then { s.hub.ports[i] with refused := true } else s.hub.ports[i] := by
  refine ⟨_, ?_, upd_entries s.hub.ports n fun x => { x with refused := true }⟩
  rw [contend_eq holder, if_neg (by rw [clear]; decide)]
  rfl

/-- A key of a report alone is judged as in the report (R101). -/
theorem runKeys_and_onlyKey (n : Fin 6) (pressed : KeySet) (k : ActionKey) (s : State) :
    runKeys n (pressed &&& onlyKey k.bit) s = judgeKey n pressed s k := by
  by_cases down : pressed.getLsbD k.bit = true
  · have only : pressed &&& onlyKey k.bit = onlyKey k.bit := by
      rw [BitVec.and_comm, onlyKey, BitVec.twoPow_and, if_pos down]
    rw [only, runKeys_only, judgeKey, KeySet.has, if_pos down]
  · have none : pressed &&& onlyKey k.bit = 0 := by
      rw [BitVec.and_comm, onlyKey, BitVec.twoPow_and, if_neg down]
      rfl
    rw [none, runKeys_none rfl, judgeKey, KeySet.has, if_neg down]

/-- The keys of a report act one after another, MARK last (R101). -/
theorem runKeys_eq (n : Fin 6) (pressed : KeySet) (s : State) :
    runKeys n pressed s = markKey n pressed s ([0, 1, 2, 3, 4, 5, 6].foldl (fun t bit => runKeys n (pressed &&& onlyKey bit) t) s) := by
  have bits : ([0, 1, 2, 3, 4, 5, 6] : List Nat) = actionKeys.map ActionKey.bit := rfl
  rw [bits, List.foldl_map]
  simp only [runKeys_and_onlyKey]
  rfl

/-! ### The commands -/

theorem stopScroll_link_restart (c : ScrollCause) (s : State) : (stopScroll c s).link.restart = s.link.restart := by
  have ended : (endHold .stopped s).link.restart = s.link.restart := by
    unfold endHold
    split
    · simp [setHolder, restHolder_eq]
    · rfl
  unfold stopScroll
  dsimp only
  split
  · exact ended
  · exact (setScrollState_link_restart ..).trans ended

/-- A stop with the holder's port written out (R80, R100, R112). -/
theorem stopScroll_of_holder (c : ScrollCause) {s : State} {h : Holder} (holder : s.hub.holder = some h) :
    ∃ ports : Vector Port 6,
      (∀ n : Fin 6, ports[n] = if n = h.port then { s.hub.ports[n] with mustRest := true } else s.hub.ports[n])
      ∧ stopScroll c s = (fun u => if s.scroll.state = .idle then u else stateChanged .stopped c u)
          (raise (.authority none (some h.port) .stopped)
            { s with hub := { s.hub with ports := ports, holder := none, releaseTimer := none } }) := by
  refine ⟨Vector.ofFn fun n => if n = h.port then { s.hub.ports[n] with mustRest := true } else s.hub.ports[n], fun n => by simp, ?_⟩
  rw [stopScroll_eq, holdEnded, holder]

/-- While a lever or pedal holds, SCROLL_RESUME and SCROLL_SPEED are refused (R81, R82). -/
theorem exec_scroll_refused {seq : Byte} {s : State} (ready : Ready s) (speed : Word16) (lever : leverHolds s = true) :
    exec (.scrollResume seq) s = .next (answered (motionAnswer 0x61 seq (.reason .heldByControl) s) s)
      ∧ exec (.scrollSpeed seq speed) s = .next (answered (motionAnswer 0x62 seq (.reason .heldByControl) s) s) :=
  ⟨exec_motion 0x21 ready (by simp [payloadOf]) rfl rfl rfl (if_pos lever),
    exec_motion 0x22 ready (by simp [payloadOf, bytes16]) rfl rfl rfl (if_pos lever)⟩

theorem exec_scrollResume {seq : Byte} {s : State} (ready : Ready s) (free : leverHolds s = false) :
    exec (.scrollResume seq) s = .next (answered (motionAnswer 0x61 seq .ok (resumeScroll s)) (resumeScroll s)) := by
  refine exec_motion 0x21 ready (by simp [payloadOf]) rfl rfl ?_ (if_neg (by rw [free]; decide))
  unfold resumeScroll
  split
  · exact setScrollState_link_restart ..
  · rfl

theorem exec_scrollSpeed {seq : Byte} {speed : Word16} {s : State} (ready : Ready s) (free : leverHolds s = false) :
    exec (.scrollSpeed seq speed) s =
      .next (answered (motionAnswer 0x62 seq .ok (cruiseAt speed.signed s)) (cruiseAt speed.signed s)) := by
  refine exec_motion 0x22 ready (by simp [payloadOf, bytes16]) rfl rfl ?_ (if_neg (by rw [free]; decide))
  unfold cruiseAt
  split
  · rfl
  · exact setScrollState_link_restart ..

/-! ### The keys -/

/-- What a report notes of its port, by the entries (R96). -/
theorem reported_entries (n : Fin 6) (keys : KeySet) (value : PortValue) (rest : Prop) [Decidable rest] (s : State) (i : Fin 6) :
    (reported n keys value rest s).hub.ports[i] = if i = n then
        { s.hub.ports[n] with
          value := value, keys := keys, timer := some 0, armedTimeout := s.hub.ports[n].timeout
          mustRest := if rest then false else s.hub.ports[n].mustRest
          refused := if rest then false else s.hub.ports[n].refused }
      else s.hub.ports[i] := by
  rw [reported, modPort_hub_ports, upd_entries]
  split
  · next same => rw [same]
  · rfl

/-- The timing of a holder's rest concerns its own port (R109). -/
theorem holderTiming_of_other {n : Fin 6} {s : State} (rest : Bool) (other : NotHolder n s) : holderTiming n rest s = s := by
  unfold holderTiming
  split
  · rfl
  · next h holder => exact if_pos (.inl (other h holder))

theorem NotHolder.runKeys {n i : Fin 6} {s : State} (other : NotHolder i s) (pressed : KeySet) : NotHolder i (runKeys n pressed s) := by
  intro h hh
  rcases (HubFollows.runKeys n pressed s).holder with same | none
  · exact other h (same ▸ hh)
  · rw [none] at hh
    cases hh

/-- A refused key contends once (R107, R108). -/
theorem runKeys_refused {n : Fin 6} {k : ActionKey} {s : State} (refused : ¬ Permitted s.hub.ports[n].role s) :
    runKeys n (onlyKey k.bit) s = contend n s := by
  rw [runKeys_only, if_neg (mt permitted_iff.mp refused)]

/-- A permitted key acts (R107). -/
theorem runKeys_permitted {n : Fin 6} {s : State} (allowed : Permitted s.hub.ports[n].role s) (k : ActionKey) :
    runKeys n (onlyKey k.bit) s = runKey n k s := by
  rw [runKeys_only, if_pos (permitted_iff.mpr allowed)]

/-- Settles O37: the commands and the keys through the stop, RESUME and speed they make. -/
theorem scrollCommandsSetTheState : Obligations.ScrollCommandsSetTheState := by
  refine ⟨fun seq s ready => ⟨?_, fun speed lever => exec_scroll_refused ready speed lever,
      fun speed free => ⟨exec_scrollResume ready free, exec_scrollSpeed ready free⟩⟩,
    fun n r s running kind raw hunting live hkind other => ?_,
    runKeys_eq, fun n s => ⟨fun bit hbit refused h holder => ?_, fun allowed => ?_⟩⟩
  · refine ⟨stopScroll .host s,
      exec_motion 0x20 ready (by simp [payloadOf]) rfl rfl (stopScroll_link_restart ..) rfl, ?_⟩
    cases holder : s.hub.holder with
    | none =>
      dsimp only
      rw [stopScroll_eq, holdEnded, holder]
    | some h => exact stopScroll_of_holder .host holder
  · dsimp only
    refine ⟨_, ?_, reported_entries n r.keys .none (r.keys &&& ~~~s.hub.ports[n].keys &&& 0x0FF = 0) s⟩
    have event := exec_report (n := n) (rest := r.keys &&& ~~~s.hub.ports[n].keys &&& 0x0FF = 0) running (fun _ => raw) hunting live
      (hkind.trans (congrArg some kind.symm)) (value := .none) (by rw [valueGiven, kind]) rfl
      (by rw [kind, atRest, Bool.not_eq_true', anyActionKey_eq_false_iff])
    have apart : NotHolder n (reported n r.keys .none (r.keys &&& ~~~s.hub.ports[n].keys &&& 0x0FF = 0) s) := other
    rw [event, holderTiming_of_other _ (apart.runKeys _)]
    rfl
  · obtain ⟨k, rfl⟩ := exists_key hbit
    rw [runKeys_refused refused]
    exact ⟨contend_of_refused, contend_of_clear holder⟩
  · refine ⟨runKeys_none rfl n s, ?_, ?_, ?_, ?_⟩
    · exact (runKeys_permitted allowed .stop).trans (stopScroll_eq ..)
    · exact (runKeys_permitted allowed .resume).trans (resumeKey_eq ..)
    · exact (runKeys_permitted allowed .faster).trans (speedKey_eq ..)
    · exact (runKeys_permitted allowed .slower).trans (speedKey_eq ..)

end Sys2Proof.Machine
end

section
/-! A lever's, a pedal's and a wheel's report: the keys, the holder's timing, the request (R84, R96, R100, R103 to R110). -/

namespace Sys2Proof.Machine

/-! ### The holder's timing -/

/-- Only a lever's or pedal's own report times its hold: a wheel's timer is R106's (R109, log 22). -/
theorem holderTiming_of_wheel {n : Fin 6} {s : State} (rest : Bool) (wheel : ∀ h ∈ s.hub.holder, h.port = n → h.kind = .wheel) :
    holderTiming n rest s = s := by
  unfold holderTiming
  split
  · rfl
  · next h holder =>
    refine if_pos ?_
    by_cases own : h.port = n
    · exact .inr (wheel h holder own)
    · exact .inl own

section
variable {n : Fin 6} {s : State} {h : Holder} (holder : s.hub.holder = some h) (own : h.port = n) (lever : h.kind ≠ .wheel)
include holder own lever

/-- A holder's report away from rest stops the release timer (R109). -/
theorem holderTiming_of_deflected : holderTiming n false s = s.setReleaseTimer none := by
  unfold holderTiming
  simp only [holder, own, lever, ne_eq, not_true_eq_false, or_self, if_false, Bool.false_eq_true]

/-- A holder's report at rest starts the release timer, or releases at once where the delay is 0 (R109). -/
theorem holderTiming_of_rest : holderTiming n true s =
    if s.hub.releaseTimer = none then (if s.hub.releaseDelay = 0 then releaseHold s else s.setReleaseTimer (some 0)) else s := by
  unfold holderTiming
  simp only [holder, own, lever, ne_eq, not_true_eq_false, or_self, if_false, if_true]
  cases s.hub.releaseTimer <;> rfl

end

theorem releaseHold_ports (s : State) : (releaseHold s).hub.ports = s.hub.ports := by
  unfold releaseHold
  split
  · rfl
  · dsimp only
    split
    · simp
    · simp

theorem holderTiming_ports (n : Fin 6) (rest : Bool) (s : State) : (holderTiming n rest s).hub.ports = s.hub.ports := by
  unfold holderTiming
  (repeat' split)
  · rfl
  · rfl
  · exact releaseHold_ports s
  all_goals rfl

/-! ### Requests -/

/-- The state in which a new holder has taken authority, with must-rest set on the one it displaces (R100, R105, R106). -/
def authorityTaken (new : Holder) (timer : Option Nat) (s : State) : State :=
  raise (.authority (some new) (s.hub.holder.map Holder.port) .taken)
    { s with hub := { s.hub with ports := restedPorts s.hub, holder := some new, releaseTimer := timer } }

theorem setHolder_restHolder (new : Holder) (timer : Option Nat) (s : State) :
    setHolder (some new) timer .taken (restHolder s) = authorityTaken new timer s := by
  rw [restHolder_eq]
  rfl

theorem authorityTaken_scroll (new : Holder) (timer : Option Nat) (s : State) : (authorityTaken new timer s).scroll = s.scroll :=
  raise_scroll ..

/-- A port that is not the holder keeps its record when authority is taken (R100). -/
theorem authorityTaken_port {n : Fin 6} {s : State} (other : NotHolder n s) (new : Holder) (timer : Option Nat) :
    (authorityTaken new timer s).hub.ports[n] = s.hub.ports[n] := by
  rw [authorityTaken, raise_hub]
  exact (restedPorts_get s.hub n).trans (if_neg fun ⟨h, hh, port⟩ => other h hh port)

/-- No request comes from the holder, from a port with must-rest or refused set, or from within the dead zone (R105). -/
theorem leverRequest_of_quiet {n : Fin 6} {kind : ControllerKind} {m : Nat} {s : State}
    (quiet : (∃ h ∈ s.hub.holder, h.port = n) ∨ (s.hub.ports[n].mustRest = true ∨ s.hub.ports[n].refused = true)
      ∨ m ≤ s.hub.ports[n].dead) : leverRequest n kind m s = s := by
  refine if_neg ?_
  simp only [Bool.and_eq_true, Bool.not_eq_true', decide_eq_true_eq, not_and, not_lt]
  rintro ⟨⟨free, rested⟩, clear⟩
  rcases quiet with holder | (must | refused) | within
  · rw [holds_iff.mpr holder] at free
    cases free
  · rw [must] at rested
    cases rested
  · rw [refused] at clear
    cases clear
  · exact within

/-- A deflected lever or pedal with both flags clear that does not hold requests authority (R105, R107). -/
theorem leverRequest_of_deflected {n : Fin 6} {kind : ControllerKind} {m : Nat} {s : State} (other : NotHolder n s)
    (rested : s.hub.ports[n].mustRest = false) (clear : s.hub.ports[n].refused = false) (deflected : s.hub.ports[n].dead < m) :
    leverRequest n kind m s = if permitted s.hub.ports[n].role s = true then leverTakes n kind s else contend n s := by
  have free : holds n s = false := Bool.eq_false_iff.mpr fun held => by
    obtain ⟨h, hh, own⟩ := holds_iff.mp held
    exact other h hh own
  refine if_pos ?_
  rw [free, rested, clear, decide_eq_true deflected]
  rfl

/-- A lever or pedal that takes authority sets MANUAL, but in IDLE (R105). -/
theorem leverTakes_eq (n : Fin 6) (kind : ControllerKind) (s : State) :
    leverTakes n kind s = (fun t => if s.scroll.state = .idle then t else stateChanged .manual (.port n) t)
      (authorityTaken ⟨n, s.hub.ports[n].role, kind⟩ none s) := by
  unfold leverTakes
  rw [setHolder_restHolder]
  rfl

/-- The cruise speed that detents set is that of any state with the same motion and the same reverse flag (R69, R84). -/
theorem cruiseTrimmed_congr {n : Fin 6} {s t : State} (scroll : t.scroll = s.scroll)
    (reverse : t.hub.ports[n].reverse = s.hub.ports[n].reverse) (delta : Int) : cruiseTrimmed n delta t = cruiseTrimmed n delta s := by
  unfold cruiseTrimmed
  rw [scroll, reverse]

/-- What a wheel's detents make of a state `t` that `k` leads to: the cruise speed, and CRUISE, but in IDLE (R84). -/
theorem wheelDetents_eq {n : Fin 6} {k t : State} {step : Nat} (count : Int) (scroll : t.scroll = k.scroll)
    (reverse : t.hub.ports[n].reverse = k.hub.ports[n].reverse) (hstep : t.hub.ports[n].step = step) :
    wheelDetents n count t =
      let x := { t with scroll := { t.scroll with cruise := cruiseTrimmed n (max (-16) (min 15 count) * step) k } }
      if k.scroll.state = .idle then x else stateChanged .cruise (.port n) x := by
  subst hstep
  rw [← cruiseTrimmed_congr scroll reverse, ← scroll]
  unfold wheelDetents
  rw [trimCruise_eq]
  rfl

/-- A wheel's permitted request keeps or takes authority, starts the release timer and turns the cruise speed (R84, R106). -/
theorem wheelRequest_of_permitted {n : Fin 6} {count : Int} {s : State} (turned : count ≠ 0)
    (allowed : Permitted s.hub.ports[n].role s) :
    wheelRequest n count s = wheelDetents n count
      (if holds n s then s.setReleaseTimer (some 0)
        else authorityTaken ⟨n, s.hub.ports[n].role, .wheel⟩ (some 0) s) := by
  rw [← setHolder_restHolder]
  unfold wheelRequest
  rw [if_neg turned, if_pos (permitted_iff.mpr allowed)]

theorem wheelRequest_of_refused {n : Fin 6} {count : Int} {s : State} (turned : count ≠ 0)
    (refused : ¬ Permitted s.hub.ports[n].role s) : wheelRequest n count s = contend n s := by
  unfold wheelRequest
  rw [if_neg turned, if_neg (mt permitted_iff.mp refused)]

/-! ### The reports -/

/-- The keys of a report leave its port's role and settings, as the report found them (R101). -/
theorem runKeys_reported_port (n : Fin 6) (pressed keys : KeySet) (value : PortValue) (rest : Prop) [Decidable rest] (s : State) :
    ((runKeys n pressed (reported n keys value rest s)).hub.ports[n].role = s.hub.ports[n].role
      ∧ (runKeys n pressed (reported n keys value rest s)).hub.ports[n].dead = s.hub.ports[n].dead)
    ∧ (runKeys n pressed (reported n keys value rest s)).hub.ports[n].step = s.hub.ports[n].step := by
  obtain ⟨must, refused, kept⟩ := (HubFollows.runKeys n pressed (reported n keys value rest s)).ports n
  rw [kept, reported_entries, if_pos rfl]
  exact ⟨⟨rfl, rfl⟩, rfl⟩

/-- The STOP key of a holder ends its hold, with must-rest (R80, R100, R112). -/
theorem runKeys_stop {n : Fin 6} {s : State} {h : Holder} (holder : s.hub.holder = some h) (own : h.port = n)
    (role : h.role = s.hub.ports[n].role) :
    runKeys n (onlyKey 0) s = (fun t => if s.scroll.state = .idle then t else stateChanged .stopped (.port n) t) (holdEnded .stopped s)
      ∧ (runKeys n (onlyKey 0) s).hub.holder = none ∧ (runKeys n (onlyKey 0) s).hub.ports[n].mustRest = true := by
  have stop : runKeys n (onlyKey 0) s = stopScroll (.port n) s :=
    runKeys_permitted (.inr (.inl ⟨h, holder, role⟩)) .stop
  have hub : (stopScroll (.port n) s).hub = (holdEnded .stopped s).hub := by
    rw [stopScroll_eq]
    dsimp only
    split
    · rfl
    · exact setScrollState_hub ..
  rw [stop]
  refine ⟨stopScroll_eq .., ?_, ?_⟩
  all_goals
    rw [hub, holdEnded, holder]
    simp [own]

/-- The event of a lever's or pedal's report: its keys, its hold's timing and its request, the rest judged after the keys (R96). -/
theorem exec_leverReport {n : Fin 6} {r : ControlReport} {m : Nat} {negative : Bool} {s : State} (running : s.resetHeld = false)
    (hunting : s.hub.ports[n].receiver = .hunting) (lever : r.kind = .lever ∨ r.kind = .pedal) (live : s.hub.ports[n].state = .live)
    (kind : s.hub.ports[n].kind = some r.kind) (value : valueGiven r s.hub.ports[n].reverse = .deflection negative m)
    {pressed : KeySet} (hpressed : r.keys &&& ~~~s.hub.ports[n].keys = pressed) :
    exec (.controllerReport n (reportFrame r)) s =
      .next (pump (leverRequest n r.kind m (holderTiming n (decide (m ≤ s.hub.ports[n].dead))
        (runKeys n pressed (reported n r.keys (.deflection negative m) (m ≤ s.hub.ports[n].dead) s))))) := by
  refine exec_report running (fun keypad => ?_) hunting live kind value hpressed ?_
  · rcases lever with is | is <;> rw [is] at keypad <;> cases keypad
  · rcases lever with is | is <;> rw [is] <;> exact decide_eq_true_iff

/-- The event of a wheel's report; its own rest does not release it (R96, R106, log 22). -/
theorem exec_wheelReport {n : Fin 6} {r : ControlReport} {s : State} (running : s.resetHeld = false)
    (hunting : s.hub.ports[n].receiver = .hunting) (wheel : r.kind = .wheel) (live : s.hub.ports[n].state = .live)
    (kind : s.hub.ports[n].kind = some .wheel) (own : ∀ h ∈ s.hub.holder, h.port = n → h.kind = .wheel)
    {pressed : KeySet} (hpressed : r.keys &&& ~~~s.hub.ports[n].keys = pressed) :
    exec (.controllerReport n (reportFrame r)) s =
      .next (pump (wheelRequest n r.raw.toInt (runKeys n pressed
        (reported n r.keys (.detents r.raw.toInt) (r.raw.toInt = 0 ∧ pressed &&& 0x0FF = 0) s)))) := by
  have event := exec_report running (fun keypad => by rw [wheel] at keypad; cases keypad) hunting live (by rw [wheel, kind])
    (value := .detents r.raw.toInt) (by rw [valueGiven, wheel]) hpressed (rest := r.raw.toInt = 0 ∧ pressed &&& 0x0FF = 0)
    (by rw [wheel, atRest, Bool.and_eq_true, Bool.not_eq_true', anyActionKey_eq_false_iff, decide_eq_true_iff])
  rw [event, holderTiming_of_wheel]
  · rfl
  · intro h hh
    rcases (HubFollows.runKeys n pressed
      (reported n r.keys (.detents r.raw.toInt) (r.raw.toInt = 0 ∧ pressed &&& 0x0FF = 0) s)).holder with same | none
    · exact own h (same ▸ hh)
    · rw [none] at hh
      cases hh

/-- Settles O54: the report's event, case by case of what the keys leave. -/
theorem deflectedLeversRequestAuthority : Obligations.DeflectedLeversRequestAuthority := by
  refine ⟨fun n r m negative s running => ?_, fun n r s running => ?_⟩
  · dsimp only
    intro hunting lever live kind value
    have event := exec_leverReport running hunting lever live kind value rfl
    obtain ⟨⟨role, dead⟩, -⟩ := runKeys_reported_port n (r.keys &&& ~~~s.hub.ports[n].keys) r.keys (.deflection negative m)
      (m ≤ s.hub.ports[n].dead) s
    obtain ⟨k, hk⟩ : ∃ k, k = runKeys n (r.keys &&& ~~~s.hub.ports[n].keys)
      (reported n r.keys (.deflection negative m) (m ≤ s.hub.ports[n].dead) s) := ⟨_, rfl⟩
    rw [← hk] at event role dead
    have within_quiet {t : State} (within : m ≤ s.hub.ports[n].dead) (ports : t.hub.ports = k.hub.ports) :
        leverRequest n r.kind m t = t := leverRequest_of_quiet (.inr (.inr (by rwa [ports, dead])))
    refine ⟨_, k, ⟨_, rfl, reported_entries n r.keys (.deflection negative m) (m ≤ s.hub.ports[n].dead) s⟩, hk,
      fun none => hk.trans (runKeys_none none ..), fun other => ?_, fun h holder own notWheel => ?_,
      fun h holder own hrole deflected stop => ?_⟩
    · rw [holderTiming_of_other _ other] at event
      refine ⟨fun within => ?_, fun _ flagged => ?_, fun deflected rested clear allowed => ?_,
        fun deflected rested clear refused h holder => ?_⟩
      · rw [event, within_quiet within rfl]
      · rw [event, leverRequest_of_quiet (.inr (.inl flagged))]
      · refine ⟨restedPorts k.hub, ?_, restedPorts_get k.hub⟩
        rw [event, leverRequest_of_deflected other rested clear (by rwa [dead]), role, if_pos (permitted_iff.mpr allowed),
          leverTakes_eq, role]
        rfl
      · obtain ⟨ports, contended, entries⟩ := contend_of_clear holder clear
        refine ⟨ports, ?_, entries⟩
        rw [event, leverRequest_of_deflected other rested clear (by rwa [dead]), role, if_neg (mt permitted_iff.mp refused),
          contended, role]
    · have timed (within : m ≤ s.hub.ports[n].dead) : exec (.controllerReport n (reportFrame r)) s = .next (pump
          (if k.hub.releaseTimer = none then (if k.hub.releaseDelay = 0 then releaseHold k else k.setReleaseTimer (some 0))
            else k)) := by
        rw [event, within_quiet within (holderTiming_ports ..), decide_eq_true within, holderTiming_of_rest holder own notWheel]
      refine ⟨fun deflected => ?_, fun within counting => ?_, fun within idle delay => ?_, fun within idle delay => ?_⟩
      · rw [event, decide_eq_false (by omega), holderTiming_of_deflected holder own notWheel,
          leverRequest_of_quiet (s := k.setReleaseTimer none) (.inl ⟨h, holder, own⟩)]
        rfl
      · rw [timed within, if_neg counting]
      · rw [timed within, if_pos idle, if_neg (by omega)]
        rfl
      · rw [timed within, if_pos idle, if_pos delay, releaseHold_eq holder, own, ← idle]
        simp only [notWheel, ne_eq, not_false_eq_true, true_and]
    · rw [stop] at hk
      obtain ⟨ended, free, rested⟩ := runKeys_stop
        (s := reported n r.keys (.deflection negative m) (m ≤ s.hub.ports[n].dead) s) holder own
        (by rw [hrole, reported_entries, if_pos rfl])
      rw [← hk] at ended free rested
      have other : NotHolder n k := fun h hh => by rw [free] at hh; cases hh
      rw [event, holderTiming_of_other _ other, leverRequest_of_quiet (.inr (.inl (.inl rested))), ended]
      rfl
  · dsimp only
    intro hunting wheel live kind own
    have event := exec_wheelReport running hunting wheel live kind (fun h holder port => (own h holder port).1) rfl
    obtain ⟨⟨role, -⟩, step⟩ := runKeys_reported_port n (r.keys &&& ~~~s.hub.ports[n].keys) r.keys (.detents r.raw.toInt)
      (r.raw.toInt = 0 ∧ r.keys &&& ~~~s.hub.ports[n].keys &&& 0x0FF = 0) s
    obtain ⟨k, hk⟩ : ∃ k, k = runKeys n (r.keys &&& ~~~s.hub.ports[n].keys) (reported n r.keys (.detents r.raw.toInt)
      (r.raw.toInt = 0 ∧ r.keys &&& ~~~s.hub.ports[n].keys &&& 0x0FF = 0) s) := ⟨_, rfl⟩
    rw [← hk] at event role step
    refine ⟨_, k, ⟨_, rfl, reported_entries n r.keys (.detents r.raw.toInt)
        (r.raw.toInt = 0 ∧ r.keys &&& ~~~s.hub.ports[n].keys &&& 0x0FF = 0) s⟩, hk,
      fun none => hk.trans (runKeys_none none ..), fun still => ?_, fun turned allowed => ?_, fun turned refused h holder => ?_⟩
    · rw [event, wheelRequest, if_pos still]
    · rw [wheelRequest_of_permitted turned (by rwa [role])] at event
      refine ⟨fun held => ?_, fun other => ?_⟩
      · rw [event, if_pos (holds_iff.mpr held), wheelDetents_eq (k := k) (t := k.setReleaseTimer (some 0)) _ rfl rfl step]
        rfl
      · refine ⟨restedPorts k.hub, ?_, restedPorts_get k.hub⟩
        have free : ¬ holds n k = true := fun held => by
          obtain ⟨h, hh, port⟩ := holds_iff.mp held
          exact other h hh port
        have port := authorityTaken_port other ⟨n, s.hub.ports[n].role, .wheel⟩ (some 0)
        rw [event, if_neg free, role, wheelDetents_eq _ (authorityTaken_scroll ..) (congrArg Port.reverse port)
          ((congrArg Port.step port).trans step)]
        rfl
    · rw [wheelRequest_of_refused turned (by rwa [role])] at event
      refine ⟨fun again => ?_, fun clear => ?_⟩
      · rw [event, contend_of_refused again]
      · obtain ⟨ports, contended, entries⟩ := contend_of_clear holder clear
        exact ⟨ports, by rw [event, contended, role], entries⟩

end Sys2Proof.Machine
end

section
/-! What a frame start samples of a head: the window, the blocks, the slots and the requests (R137, R139 to R141). -/

namespace Sys2Proof.Machine

/-! ### Slots and halves -/

/-- Entries changed one after another along a list without repetition. -/
theorem foldl_upd_get {α : Type} {n : Nat} {l : List (Fin n)} (distinct : l.Nodup) (f : Fin n → α → α) (v : Vector α n) (j : Fin n) :
    (l.foldl (fun v i => upd v i (f i)) v)[j] = if j ∈ l then f j v[j] else v[j] := by
  induction l generalizing v with
  | nil => simp
  | cons i rest ih =>
    obtain ⟨fresh, distinct⟩ := List.nodup_cons.mp distinct
    rw [List.foldl_cons, ih distinct, upd_entries]
    by_cases same : j = i
    · subst same
      simp [fresh]
    · simp [same]

theorem mem_halfSlots {half : Fin 2} {i : Fin 32} : i ∈ halfSlots half ↔ halfOf i = half := by simp [halfSlots]

theorem nodup_halfSlots (half : Fin 2) : (halfSlots half).Nodup := (List.nodup_finRange 32).filter _

theorem halfOf_eq_iff {i : Fin 32} {half : Fin 2} : halfOf i = half ↔ i.val / 16 = half.val := by
  unfold halfOf
  rw [Fin.ext_iff]
  split
  · next low => rw [Nat.div_eq_of_lt low]; rfl
  · next high =>
    have one : i.val / 16 = 1 := by omega
    rw [one]
    rfl

/-- The row a slot stands for is told by the blocks and the bias (R137). -/
theorem slotRow_congr {x y : Head} (blocks : ∀ half : Fin 2, (y.halves[half]).block = (x.halves[half]).block) (bias : y.bias = x.bias)
    (i : Fin 32) : y.slotRow i = x.slotRow i := by
  unfold Head.slotRow Head.slotPlace
  rw [blocks, bias]

/-- The row of a slot whose half holds a block (R137). -/
theorem slotRow_of_block {x : Head} {half : Fin 2} {block : Int} (hblock : (x.halves[half]).block = some block) {i : Fin 32}
    (own : i.val / 16 = half.val) : x.slotRow i = some (16 * block + ((i.val : Int) - 16 * (half.val : Int)) + x.bias) := by
  obtain rfl := halfOf_eq_iff.mpr own
  unfold Head.slotRow Head.slotPlace
  rw [hblock]
  rfl

theorem slotIdentity_congr {s : State} {x y : Head} {i : Fin 32} (row : y.slotRow i = x.slotRow i) :
    slotIdentity s y i = slotIdentity s x i := by
  unfold slotIdentity
  rw [row]

/-! ### Blocks -/

theorem takeBlock_frame (blocks : Int × Int) (x : Head) (half : Fin 2) :
    takeBlock blocks x half = { x with halves := (takeBlock blocks x half).halves, slots := (takeBlock blocks x half).slots } := by
  unfold takeBlock
  split <;> rfl

theorem takeBlock_block (blocks : Int × Int) (x : Head) (half : Fin 2) :
    ((takeBlock blocks x half).halves[half]).block = some (desiredFor blocks half) := by
  unfold takeBlock
  split
  · assumption
  · rw [upd_get_self]

theorem takeBlock_halves_ne (blocks : Int × Int) (x : Head) {half other : Fin 2} (apart : other ≠ half) :
    (takeBlock blocks x half).halves[other] = x.halves[other] := by
  unfold takeBlock
  split
  · rfl
  · exact upd_get_ne _ _ _ _ apart

/-- A half that changes its block loses its slots (R140). -/
theorem takeBlock_slots (blocks : Int × Int) (x : Head) (half : Fin 2) (i : Fin 32) :
    (takeBlock blocks x half).slots[i] =
      if halfOf i = half ∧ (x.halves[half]).block ≠ some (desiredFor blocks half) then .empty else x.slots[i] := by
  unfold takeBlock
  split
  · next same => exact (if_neg fun changed => changed.2 same).symm
  · next changes =>
    rw [foldl_upd_get (nodup_halfSlots half) fun _ _ => Slot.empty]
    simp only [mem_halfSlots, changes, ne_eq, not_false_eq_true, and_true]

/-- Both halves take their desired blocks (R140). -/
def takeBlocks (blocks : Int × Int) (x : Head) : Head := takeBlock blocks (takeBlock blocks x 0) 1

theorem takeBlocks_frame (blocks : Int × Int) (x : Head) :
    takeBlocks blocks x = { x with halves := (takeBlocks blocks x).halves, slots := (takeBlocks blocks x).slots } := by
  unfold takeBlocks
  rw [takeBlock_frame blocks (takeBlock blocks x 0) 1, takeBlock_frame blocks x 0]

theorem takeBlocks_block (blocks : Int × Int) (x : Head) (half : Fin 2) :
    ((takeBlocks blocks x).halves[half]).block = some (desiredFor blocks half) := by
  unfold takeBlocks
  fin_cases half
  · exact (congrArg BandHalf.block (takeBlock_halves_ne _ _ (by decide))).trans (takeBlock_block ..)
  · exact takeBlock_block ..

theorem takeBlocks_slots (blocks : Int × Int) (x : Head) (i : Fin 32) :
    (takeBlocks blocks x).slots[i] =
      if (x.halves[halfOf i]).block = some (desiredFor blocks (halfOf i)) then x.slots[i] else .empty := by
  have second : (takeBlock blocks x 0).halves[(1 : Fin 2)] = x.halves[(1 : Fin 2)] := takeBlock_halves_ne _ _ (by decide)
  rw [takeBlocks, takeBlock_slots, takeBlock_slots, second]
  obtain first | last : halfOf i = 0 ∨ halfOf i = 1 := by omega
  · simp [first]
  · simp [last]

/-! ### Requests -/

theorem remainingSlots_congr {s : State} {x y : Head} (slots : y.slots = x.slots) (rows : ∀ i, y.slotRow i = x.slotRow i)
    (half : Fin 2) : remainingSlots s y half = remainingSlots s x half := by
  unfold remainingSlots
  simp only [slots, slotIdentity_congr (s := s) (rows _)]

theorem holdsVisible_congr {s : State} {x y : Head} (window : y.window = x.window) (rows : ∀ i, y.slotRow i = x.slotRow i)
    (slots : List (Fin 32)) : holdsVisible s y slots = holdsVisible s x slots := by
  unfold holdsVisible
  simp only [rows, window]

theorem emptyMismatched_slots (s : State) (x : Head) (i : Fin 32) :
    (emptyMismatched s x).slots[i] = freshSlot (slotIdentity s x i) x.slots[i] := by
  refine (foldl_upd_get (List.nodup_finRange 32) (fun i => freshSlot (slotIdentity s x i)) x.slots i).trans ?_
  rw [if_pos (List.mem_finRange i)]

theorem emptyMismatched_halves (s : State) (x : Head) : (emptyMismatched s x).halves = x.halves := by
  dsimp only [emptyMismatched]

/-- A pair's entries. -/
theorem pair_get {α : Type} (f : Fin 2 → α) (half : Fin 2) : (#v[f 0, f 1])[half] = f half := by fin_cases half <;> rfl

/-- A half with its remaining set rebuilt and classed (R141). -/
def rebuiltHalf (s : State) (x : Head) (half : Fin 2) : BandHalf :=
  let slots := if x.state = .blanked then [] else remainingSlots s (emptyMismatched s x) half
  { x.halves[half] with remaining := slots, urgent := holdsVisible s (emptyMismatched s x) slots }

theorem rebuildSets_halves (s : State) (x : Head) (half : Fin 2) :
    (rebuildSets s x).halves[half] = rebuiltHalf s x half := by
  have pair : (rebuildSets s x).halves = #v[rebuiltHalf s x 0, rebuiltHalf s x 1] := by
    unfold rebuildSets rebuiltHalf
    simp only [emptyMismatched_halves]
  rw [pair]
  exact pair_get (rebuiltHalf s x) half

theorem rebuildSets_slots (s : State) (x : Head) : (rebuildSets s x).slots = (emptyMismatched s x).slots := by
  dsimp only [rebuildSets]

theorem rebuildSets_window (s : State) (x : Head) : (rebuildSets s x).window = (emptyMismatched s x).window := by
  dsimp only [rebuildSets]

theorem rebuildSets_frame (s : State) (x : Head) :
    rebuildSets s x = { x with halves := (rebuildSets s x).halves, slots := (rebuildSets s x).slots } := by
  dsimp only [rebuildSets, emptyMismatched]

theorem rebuiltHalf_block (s : State) (x : Head) (half : Fin 2) : (rebuiltHalf s x half).block = (x.halves[half]).block := rfl

theorem emptyMismatched_slotRow (s : State) (x : Head) (i : Fin 32) : (emptyMismatched s x).slotRow i = x.slotRow i := by
  dsimp only [emptyMismatched, Head.slotRow, Head.slotPlace]

/-- The rows the slots stand for are those of the blocks before (R137, R141). -/
theorem rebuildSets_slotRow (s : State) (x : Head) (i : Fin 32) : (rebuildSets s x).slotRow i = x.slotRow i := by
  refine slotRow_congr (fun half => ?_) ?_ i
  · rw [rebuildSets_halves, rebuiltHalf_block]
  · rw [rebuildSets_frame]

/-- What a frame start makes of a head that takes its window: the window, the blocks desired, the slots that still tell their rows, and
the requests (R139 to R141). -/
structure Sampled (s : State) (x y : Head) : Prop where
  frame : y = { x with window := takeWindow x.geometry x.bias s.scroll.p, halves := y.halves, slots := y.slots }
  block : ∀ half : Fin 2, (y.halves[half]).block = some (desiredFor (desiredBlocks y.window x.bias s.scroll.direction) half)
  slot : ∀ i : Fin 32, y.slots[i] =
    freshSlot (slotIdentity s y i) (if (x.halves[halfOf i]).block = (y.halves[halfOf i]).block then x.slots[i] else .empty)
  remaining : ∀ half : Fin 2, (y.halves[half]).remaining = if x.state = .blanked then [] else remainingSlots s y half
  urgent : ∀ half : Fin 2, (y.halves[half]).urgent = holdsVisible s y (y.halves[half]).remaining

theorem sampled_sampleFrame (s : State) (x : Head) : Sampled s x (sampleFrame s x) := by
  obtain ⟨w, hw⟩ : ∃ w, w = takeWindow x.geometry x.bias s.scroll.p := ⟨_, rfl⟩
  obtain ⟨blocks, hblocks⟩ : ∃ blocks, blocks = desiredBlocks w x.bias s.scroll.direction := ⟨_, rfl⟩
  obtain ⟨z, hz⟩ : ∃ z, z = takeBlocks blocks { x with window := w } := ⟨_, rfl⟩
  have taken : sampleFrame s x = rebuildSets s z := by
    rw [hz, hblocks, hw]
    rfl
  have frame : z = { x with window := w, halves := z.halves, slots := z.slots } := by
    rw [hz]
    exact takeBlocks_frame blocks { x with window := w }
  have state : z.state = x.state := by rw [frame]
  have window : z.window = w := by rw [frame]
  have block (half : Fin 2) : ((rebuildSets s z).halves[half]).block = some (desiredFor blocks half) := by
    rw [rebuildSets_halves]
    rw [rebuiltHalf_block, hz, takeBlocks_block]
  have rows (i : Fin 32) : (rebuildSets s z).slotRow i = (emptyMismatched s z).slotRow i := by
    rw [rebuildSets_slotRow, emptyMismatched_slotRow]
  rw [taken]
  refine ⟨?_, fun half => ?_, fun i => ?_, fun half => ?_, fun half => ?_⟩
  · refine (rebuildSets_frame s z).trans ?_
    generalize (rebuildSets s z).halves = halves, (rebuildSets s z).slots = slots
    rw [frame, ← hw]
  · have same : (rebuildSets s z).window = w := by rw [rebuildSets_frame, ← window]
    rw [block, same, ← hblocks]
  · rw [slotIdentity_congr (rebuildSets_slotRow s z i), block, rebuildSets_slots, emptyMismatched_slots, hz, takeBlocks_slots]
  · rw [remainingSlots_congr (rebuildSets_slots s z) rows, ← state, rebuildSets_halves]
    rfl
  · rw [holdsVisible_congr (rebuildSets_window s z) rows, rebuildSets_halves]
    rfl

end Sys2Proof.Machine
end

section
/-! The rows of the script that a frame start sees: their identities, the visible ones and the ready ones (R54, R139, R141, R142). -/

namespace Sys2Proof.Machine

/-! ### Identities -/

theorem storyAtRow_ge {stories : List Story} {r : Nat} (h : rowsOf stories ≤ r) : storyAtRow stories r = none := by
  induction stories generalizing r with
  | nil => rfl
  | cons st rest ih =>
    rw [rowsOf_cons] at h
    rw [storyAtRow, if_neg (by omega)]
    exact ih (by omega)

/-- The identity of a row of the script; none outside it (R54). -/
def identityAt (s : State) (r : Int) : Option RowIdentity :=
  if 0 ≤ r ∧ r < s.rows then rowIdentity s.store.stories s.layout.generation r.toNat else none

theorem identityAt_of_inside {s : State} {r : Int} (low : 0 ≤ r) (high : r < s.rows) :
    identityAt s r = rowIdentity s.store.stories s.layout.generation r.toNat := if_pos ⟨low, high⟩

theorem identityAt_ne_none {s : State} {r : Int} (low : 0 ≤ r) (high : r < s.rows) : identityAt s r ≠ none := by
  have inside : r.toNat < rowsOf s.store.stories := by
    have : r < (rowsOf s.store.stories : Nat) := high
    omega
  obtain ⟨found, same⟩ := storyAtRow_lt inside
  rw [identityAt_of_inside low high, rowIdentity, same]
  exact Option.some_ne_none _

theorem slotIdentity_eq {s : State} {y : Head} {i : Fin 32} {r : Int} (row : y.slotRow i = some r) :
    slotIdentity s y i = identityAt s r := by
  unfold slotIdentity identityAt
  rw [row]
  dsimp only
  by_cases low : 0 ≤ r
  · by_cases high : r < s.rows
    · rw [if_pos low, if_pos ⟨low, high⟩]
    · have past : rowsOf s.store.stories ≤ r.toNat := by
        have : (rowsOf s.store.stories : Nat) ≤ r := not_lt.mp high
        omega
      rw [if_pos low, if_neg fun both => high both.2, rowIdentity, storyAtRow_ge past]
      rfl
  · rw [if_neg low, if_neg fun both => low both.1]

/-- A VALID slot that a frame start leaves tells its row's identity (R141). -/
theorem freshSlot_valid {identity : Option RowIdentity} {slot : Slot} {tag : RowIdentity} {pixels : Drawing}
    (h : freshSlot identity slot = .valid tag pixels) : identity = none ∨ identity = some tag := by
  unfold freshSlot at h
  split at h
  · split at h
    · next told =>
      cases h
      exact told
    · cases h
  · cases h
  · cases h

/-! ### Visible and ready rows -/

/-- A visible row of a window (R139). -/
def VisibleRow (w : Window) (rows : Nat) (r : Int) : Prop := w.topRow ≤ r ∧ r ≤ w.bottomRow ∧ 0 ≤ r ∧ r < rows

/-- A row whose slot is VALID with its identity (R142). -/
def ReadyRow (s : State) (y : Head) (r : Int) : Prop :=
  ∃ tag pixels, identityAt s r = some tag ∧ y.slots[slotOf y.bias r] = .valid tag pixels

theorem rowVisible_iff {w : Window} {rows : Nat} {r : Int} : rowVisible w rows r = true ↔ VisibleRow w rows r := by
  simp [rowVisible, VisibleRow, and_assoc]

/-- The visible rows in order, from the top row of the window (R139). -/
theorem visibleRows_eq (w : Window) (rows : Nat) : visibleRows w rows =
    ((List.range (w.bottomRow - w.topRow + 1).toNat).map fun i : Nat => w.topRow + (i : Int)).filter (rowVisible w rows) := by
  simp [visibleRows, List.map_eq_flatMap, List.flatMap_assoc]

theorem mem_visibleRows {w : Window} {rows : Nat} {r : Int} : r ∈ visibleRows w rows ↔ VisibleRow w rows r := by
  rw [visibleRows_eq, List.mem_filter, rowVisible_iff, and_iff_right_iff_imp]
  intro visible
  obtain ⟨top, bottom, -, -⟩ := visible
  refine List.mem_map.mpr ⟨(r - w.topRow).toNat, List.mem_range.mpr (show _ < (w.bottomRow - w.topRow + 1).toNat by omega), ?_⟩
  show w.topRow + ((r - w.topRow).toNat : Int) = r
  omega

theorem nodup_visibleRows (w : Window) (rows : Nat) : (visibleRows w rows).Nodup := by
  have injective : Function.Injective fun i : Nat => w.topRow + (i : Int) := fun a b same => by
    dsimp only at same
    omega
  rw [visibleRows_eq]
  exact (List.nodup_range.map injective).filter _

theorem rowReady_iff {s : State} {y : Head} {r : Int} (visible : VisibleRow y.window s.rows r) :
    rowReady s y r = true ↔ ReadyRow s y r := by
  unfold rowReady ReadyRow
  rw [identityAt_of_inside visible.2.2.1 visible.2.2.2]
  split
  · next tag pixels valid => simp [valid]
  · next other =>
    simp only [Bool.false_eq_true, false_iff]
    rintro ⟨tag, pixels, -, valid⟩
    exact other tag pixels valid

theorem mem_readyRows {s : State} {y : Head} {r : Int} {slot : Fin 32} :
    (r, slot) ∈ readyRows s y ↔ VisibleRow y.window s.rows r ∧ ReadyRow s y r ∧ slot = slotOf y.bias r := by
  simp only [readyRows, List.mem_map, List.mem_filter, mem_visibleRows, Prod.mk.injEq]
  constructor
  · rintro ⟨_, ⟨visible, ready⟩, rfl, rfl⟩
    exact ⟨visible, (rowReady_iff visible).mp ready, rfl⟩
  · rintro ⟨visible, ready, rfl⟩
    exact ⟨r, ⟨visible, (rowReady_iff visible).mpr ready⟩, rfl, rfl⟩

/-- The visible rows that are not ready, in any order, give their number (R142). -/
theorem missingRows_eq_length {s : State} {y : Head} {rows : List Int} (distinct : rows.Nodup)
    (missing : ∀ r, r ∈ rows ↔ VisibleRow y.window s.rows r ∧ ¬ ReadyRow s y r) : missingRows s y = rows.length := by
  refine ((List.perm_ext_iff_of_nodup ((nodup_visibleRows ..).filter _) distinct).mpr fun r => ?_).length_eq
  rw [missing, List.mem_filter, mem_visibleRows, and_congr_right_iff]
  intro visible
  rw [Bool.not_eq_true', ← Bool.not_eq_true, rowReady_iff visible]

theorem missingRows_eq_zero {s : State} {y : Head} (ready : ∀ r, VisibleRow y.window s.rows r → ReadyRow s y r) :
    missingRows s y = 0 :=
  missingRows_eq_length List.nodup_nil fun r => by simpa using ready r

theorem missingRows_ne_zero {s : State} {y : Head} (missing : ∃ r, VisibleRow y.window s.rows r ∧ ¬ ReadyRow s y r) :
    missingRows s y ≠ 0 := by
  obtain ⟨r, visible, unready⟩ := missing
  refine List.length_pos_iff.mpr (List.ne_nil_of_mem (a := r) (List.mem_filter.mpr ⟨mem_visibleRows.mpr visible, ?_⟩)) |>.ne'
  rw [Bool.not_eq_true', ← Bool.not_eq_true, rowReady_iff visible]
  exact unready

/-! ### What a frame start samples, by the rows -/

section
variable {s : State} {x y : Head} (sampled : Sampled s x y)
include sampled

theorem Sampled.bias : y.bias = x.bias := by rw [sampled.frame]

theorem Sampled.window : y.window = takeWindow x.geometry x.bias s.scroll.p := by rw [sampled.frame]

section
variable {half : Fin 2} {block : Int} (hblock : (y.halves[half]).block = some block) {i : Fin 32}
include hblock

theorem Sampled.slotRow (own : i.val / 16 = half.val) :
    y.slotRow i = some (16 * block + ((i.val : Int) - 16 * (half.val : Int)) + x.bias) := by
  rw [← sampled.bias]
  exact slotRow_of_block hblock own

/-- A slot's content after a frame start, by its row (R140, R141). -/
theorem Sampled.slot_eq (own : i.val / 16 = half.val) :
    y.slots[i] = freshSlot (identityAt s (16 * block + ((i.val : Int) - 16 * (half.val : Int)) + x.bias))
      (if (x.halves[half]).block = some block then x.slots[i] else .empty) := by
  obtain rfl := halfOf_eq_iff.mpr own
  rw [sampled.slot, slotIdentity_eq (sampled.slotRow hblock own), hblock]

/-- The slots a half asks for (R141). -/
theorem Sampled.mem_remaining : i ∈ (y.halves[half]).remaining ↔ i.val / 16 = half.val ∧ x.state ≠ .blanked
    ∧ identityAt s (16 * block + ((i.val : Int) - 16 * (half.val : Int)) + x.bias) ≠ none ∧ y.slots[i] = .empty := by
  rw [sampled.remaining]
  by_cases blanked : x.state = .blanked
  · simp [blanked]
  · rw [if_neg blanked, remainingSlots, List.mem_filter, mem_halfSlots, halfOf_eq_iff, and_congr_right_iff]
    intro own
    rw [slotIdentity_eq (sampled.slotRow hblock own), Bool.and_eq_true, beq_iff_eq, Option.isSome_iff_ne_none]
    simp [blanked, and_comm]

/-- A request is URGENT where one of its rows is visible (R141). -/
theorem Sampled.urgent_iff : (y.halves[half]).urgent = true ↔ ∃ i ∈ (y.halves[half]).remaining,
    VisibleRow y.window s.rows (16 * block + ((i.val : Int) - 16 * (half.val : Int)) + x.bias) := by
  rw [sampled.urgent, holdsVisible, List.any_eq_true]
  refine exists_congr fun i => and_congr_right fun asked => ?_
  rw [sampled.slotRow hblock ((sampled.mem_remaining hblock).mp asked).1, ← rowVisible_iff]

end

theorem Sampled.nodup_remaining (half : Fin 2) : ((y.halves[half]).remaining).Nodup := by
  rw [sampled.remaining]
  split
  · exact List.nodup_nil
  · exact (nodup_halfSlots half).filter _

/-- A VALID slot of a row of the script tells that row's identity (R141). -/
theorem Sampled.valid_tag {i : Fin 32} {tag : RowIdentity} {pixels : Drawing} {r : Int} (valid : y.slots[i] = .valid tag pixels)
    (row : y.slotRow i = some r) (low : 0 ≤ r) (high : r < s.rows) :
    rowIdentity s.store.stories s.layout.generation r.toNat = some tag := by
  rw [sampled.slot, slotIdentity_eq row] at valid
  rw [← identityAt_of_inside low high]
  exact (freshSlot_valid valid).resolve_left (identityAt_ne_none low high)

end

end Sys2Proof.Machine
end

section
/-! A frame start's steps: the sync-loss timer and the appearance, the frame given, the sampling and the judgement (R89, R132, R136,
R139 to R142). -/

namespace Sys2Proof.Machine

/-! ### Heads -/

theorem upd_congr {α : Type} {n : Nat} (v : Vector α n) (i : Fin n) {f g : α → α} (h : f v[i] = g v[i]) : upd v i f = upd v i g := by
  unfold upd
  rw [h]

theorem upd_upd {α : Type} {n : Nat} (v : Vector α n) (i : Fin n) (f g : α → α) : upd (upd v i f) i g = upd v i fun x => g (f x) := by
  refine Vector.ext fun k hk => ?_
  have entries (w : Vector α n) (f : α → α) := upd_entries w i f ⟨k, hk⟩
  simp only [Fin.getElem_fin] at entries
  rw [entries, entries, entries]
  split <;> rfl

theorem modHead_congr {s : State} {h : Fin 4} {f g : Head → Head} (same : f s.heads[h] = g s.heads[h]) : s.modHead h f = s.modHead h g :=
  congrArg (fun heads => ({ s with heads := heads } : State)) (upd_congr _ _ same)

theorem modHead_modHead (s : State) (h : Fin 4) (f g : Head → Head) : (s.modHead h f).modHead h g = s.modHead h fun x => g (f x) :=
  congrArg (fun heads => ({ s with heads := heads } : State)) (upd_upd ..)

theorem modHead_id {s : State} {h : Fin 4} {f : Head → Head} (same : f s.heads[h] = s.heads[h]) : s.modHead h f = s :=
  congrArg (fun heads => ({ s with heads := heads } : State)) (upd_id _ _ _ same)

theorem noticesRaised_frame (ns : List Notice) (s : State) : noticesRaised ns s = { s with link := (noticesRaised ns s).link } := by
  induction ns generalizing s with
  | nil => rfl
  | cons n ns ih =>
    rw [noticesRaised_cons, ih, raise_frame]

/-! ### The frame source -/

/-- The source wanted is told by the setting and by which heads can serve, at what rate (R89). -/
theorem wantedSource_congr {s t : State} (setting : t.scroll.setting = s.scroll.setting)
    (heads : ∀ g : Fin 4, (t.heads[g]).canServe = (s.heads[g]).canServe ∧ (t.heads[g]).geometry = (s.heads[g]).geometry) :
    wantedSource t = wantedSource s := by
  unfold wantedSource
  rw [setting]
  split
  · rfl
  · rw [(heads _).1, (heads _).2]

/-- A head changed in what does not bear on the frame source (R89). -/
theorem wantedSource_modHead {s : State} {h : Fin 4} {f : Head → Head}
    (serves : (f s.heads[h]).canServe = (s.heads[h]).canServe) (geometry : (f s.heads[h]).geometry = (s.heads[h]).geometry) :
    wantedSource (s.modHead h f) = wantedSource s := by
  refine wantedSource_congr rfl fun g => ?_
  rw [modHead_heads, upd_entries]
  split
  · next same =>
    subst same
    exact ⟨serves, geometry⟩
  · exact ⟨rfl, rfl⟩

/-! ### The judgement -/

/-- The frame that a RUNNING head scans out (R143). -/
def takenFrame (s : State) (y : Head) : ScanFrame := ⟨stripTop y.geometry s.scroll.p, readyRows s y⟩

/-- What the judgement makes of a head (R142, R143). -/
def judgedHead (frame : ScanFrame) (missing : Nat) (y : Head) : Head :=
  match y.state with
  | .starting => if missing = 0 then { y with state := .running, frame := some frame } else y
  | .running => { y with frame := some frame, degraded := decide (missing ≠ 0) }
  | .disabled => y
  | .blanked => y
  | .stopping => y

theorem judgedHead_starting {frame : ScanFrame} {missing : Nat} {y : Head} (state : y.state = .starting) :
    judgedHead frame missing y = if missing = 0 then { y with state := .running, frame := some frame } else y := by
  unfold judgedHead
  rw [state]

theorem judgedHead_running {frame : ScanFrame} {missing : Nat} {y : Head} (state : y.state = .running) :
    judgedHead frame missing y = { y with frame := some frame, degraded := decide (missing ≠ 0) } := by
  unfold judgedHead
  rw [state]

/-- Only a STARTING or RUNNING head is judged (R142). -/
theorem judgedHead_other {frame : ScanFrame} {missing : Nat} {y : Head} (starting : y.state ≠ .starting) (running : y.state ≠ .running) :
    judgedHead frame missing y = y := by
  unfold judgedHead
  split
  · contradiction
  · contradiction
  all_goals rfl

/-- The notices of the judgement (R133, R142). -/
def judgedNotices (h : Fin 4) (missing : Nat) (y : Head) : List Notice :=
  match y.state with
  | .starting => if missing = 0 then [.headState h .running .starting] else []
  | .running =>
      if missing = 0 then (if y.degraded = true then [.headClear h] else [])
      else if y.degraded = true then [] else [.headDegraded h missing]
  | .disabled => []
  | .blanked => []
  | .stopping => []

/-- The judgement: the head, the notices, and the source decided afresh where the head's state changes (R89, R142). -/
theorem judgeFrame_eq (h : Fin 4) (s : State) :
    judgeFrame h s = (fun t => if s.heads[h].state = .starting ∧ missingRows s s.heads[h] = 0 then refreshSource t else t)
      (noticesRaised (judgedNotices h (missingRows s s.heads[h]) s.heads[h])
        (s.modHead h (judgedHead (takenFrame s s.heads[h]) (missingRows s s.heads[h])))) := by
  have told : (⟨stripTop s.heads[h].geometry s.scroll.p, readyRows s s.heads[h]⟩ : ScanFrame) = takenFrame s s.heads[h] := rfl
  unfold judgeFrame judgedNotices
  dsimp only
  rw [told]
  generalize missingRows s s.heads[h] = missing, takenFrame s s.heads[h] = frame
  have other (starting : s.heads[h].state ≠ .starting) (running : s.heads[h].state ≠ .running) :
      s.modHead h (judgedHead frame missing) = s := modHead_id (judgedHead_other starting running)
  cases state : s.heads[h].state with
  | starting =>
    by_cases all : missing = 0
    · have head : s.modHead h (judgedHead frame missing) = s.modHead h fun x => { x with state := .running, frame := some frame } :=
        modHead_congr (by rw [judgedHead_starting state, if_pos all])
      simp only [all, and_self, if_true, setHeadState, modHead_heads, upd_get_self, state, modHead_modHead, noticesRaised_cons,
        noticesRaised_nil, ← head]
    · have head : s.modHead h (judgedHead frame missing) = s := modHead_id (by rw [judgedHead_starting state, if_neg all])
      simp only [all, and_false, if_false, noticesRaised_nil, head]
  | running =>
    have head : s.modHead h (judgedHead frame missing)
        = s.modHead h fun x => { x with frame := some frame, degraded := decide (missing ≠ 0) } :=
      modHead_congr (judgedHead_running state)
    have same {d : Bool} (kept : s.heads[h].degraded = d) : s.modHead h (fun x => { x with frame := some frame, degraded := d })
        = s.modHead h fun x => { x with frame := some frame } :=
      modHead_congr (congrArg (fun d => { s.heads[h] with frame := some frame, degraded := d }) kept.symm)
    rw [head]
    cases degraded : s.heads[h].degraded <;> by_cases all : missing = 0
    · simp only [all, ne_eq, not_true_eq_false, decide_false, reduceCtorEq, false_and, if_true, if_false, Bool.false_eq_true,
        clearDegraded, modHead_heads, upd_get_self, degraded, same degraded, noticesRaised_nil]
    · simp only [all, ne_eq, not_false_eq_true, decide_true, reduceCtorEq, false_and, if_false, Bool.false_eq_true,
        modHead_modHead, noticesRaised_cons, noticesRaised_nil]
    · simp only [all, ne_eq, not_true_eq_false, decide_false, reduceCtorEq, false_and, if_true, if_false,
        clearDegraded, modHead_heads, upd_get_self, degraded, modHead_modHead, noticesRaised_cons, noticesRaised_nil]
    · simp only [all, ne_eq, not_false_eq_true, decide_true, reduceCtorEq, false_and, if_true, if_false,
        same degraded, noticesRaised_nil]
  | disabled => exact (other (by rw [state]; decide) (by rw [state]; decide)).symm
  | blanked => exact (other (by rw [state]; decide) (by rw [state]; decide)).symm
  | stopping => exact (other (by rw [state]; decide) (by rw [state]; decide)).symm

end Sys2Proof.Machine
end

section
/-! A head's frame start up to the arbiter's choice: the head, the link and the frames owed (R89, R132, R136, R139 to R142). -/

namespace Sys2Proof.Machine

/-! ### The steps before the sampling -/

/-- The notice of a head whose sync is found again (R136). -/
def synced (h : Fin 4) (s : State) : State := if (s.heads[h]).syncLost = true then raise (.syncState h true) s else s

/-- A head with its sync-loss timer started again, its pending appearance in force, and no frame noted (R132, R136). -/
def startedHead (x : Head) : Head :=
  { x with
    syncLost := false, syncTimer := some 0
    appearance := x.pendingAppearance.getD x.appearance, pendingAppearance := none
    frame := none }

/-- A frame start up to its sampling. -/
def headStarted (h : Fin 4) (s : State) : State :=
  (giveFrame h (syncFrame h s)).modHead h fun x => { x.takeAppearance with frame := none }

/-- What a frame start leaves as it is: everything but the heads, the job, the notices and the frame source with the frames it owes. -/
structure FrameKept (s t : State) : Prop where
  pending : t.pending = s.pending
  store : t.store = s.store
  edit : t.edit = s.edit
  layout : t.layout = s.layout
  hub : t.hub = s.hub
  cues : t.cues = s.cues
  replies : t.link.replies = s.link.replies
  scroll : t.scroll = { s.scroll with
    inUse := t.scroll.inUse, frameTimer := t.scroll.frameTimer, framesOwed := t.scroll.framesOwed }

namespace FrameKept

theorem refl (s : State) : FrameKept s s := ⟨rfl, rfl, rfl, rfl, rfl, rfl, rfl, rfl⟩

theorem trans {s t u : State} (h : FrameKept s t) (h' : FrameKept t u) : FrameKept s u := by
  refine ⟨h'.pending.trans h.pending, h'.store.trans h.store, h'.edit.trans h.edit, h'.layout.trans h.layout, h'.hub.trans h.hub,
    h'.cues.trans h.cues, h'.replies.trans h.replies, ?_⟩
  rw [h'.scroll, h.scroll]

theorem modHead (s : State) (h : Fin 4) (f : Head → Head) : FrameKept s (s.modHead h f) := ⟨rfl, rfl, rfl, rfl, rfl, rfl, rfl, rfl⟩

theorem raise (n : Notice) (s : State) : FrameKept s (raise n s) := by
  constructor <;> simp

theorem noticesRaised (ns : List Notice) (s : State) : FrameKept s (noticesRaised ns s) := by
  induction ns generalizing s with
  | nil => exact refl s
  | cons n ns ih => exact (raise n s).trans (ih _)

theorem refreshSource (s : State) : FrameKept s (refreshSource s) := by
  unfold Machine.refreshSource
  split
  · exact refl s
  · exact ⟨rfl, rfl, rfl, rfl, rfl, rfl, rfl, rfl⟩

theorem giveFrame (h : Fin 4) (s : State) : FrameKept s (giveFrame h s) := by
  unfold Machine.giveFrame
  split
  · exact ⟨rfl, rfl, rfl, rfl, rfl, rfl, rfl, rfl⟩
  · exact refl s

theorem syncFrame (h : Fin 4) (s : State) : FrameKept s (syncFrame h s) := by
  have timed := modHead s h fun x => { x with syncLost := false, syncTimer := some 0 }
  unfold Machine.syncFrame
  dsimp only
  split
  · exact (timed.trans (raise ..)).trans (refreshSource _)
  · exact timed

theorem headStarted (h : Fin 4) (s : State) : FrameKept s (headStarted h s) :=
  ((syncFrame h s).trans (giveFrame h _)).trans (modHead ..)

theorem judgeFrame (h : Fin 4) (s : State) : FrameKept s (judgeFrame h s) := by
  have judged := (modHead s h (judgedHead (takenFrame s s.heads[h]) (missingRows s s.heads[h]))).trans
    (noticesRaised (judgedNotices h (missingRows s s.heads[h]) s.heads[h]) _)
  rw [judgeFrame_eq]
  dsimp only
  split
  · exact judged.trans (refreshSource _)
  · exact judged

end FrameKept

/-! ### The head, the link and the source before the sampling -/

theorem takeAppearance_eq (x : Head) : x.takeAppearance =
    { x with appearance := x.pendingAppearance.getD x.appearance, pendingAppearance := none } := by
  unfold Head.takeAppearance
  cases pending : x.pendingAppearance with
  | some a => rfl
  | none => exact congrArg (fun p => { x with pendingAppearance := p }) pending

theorem giveFrame_heads (h : Fin 4) (s : State) : (giveFrame h s).heads = s.heads := by unfold giveFrame; split <;> rfl
theorem giveFrame_link (h : Fin 4) (s : State) : (giveFrame h s).link = s.link := by unfold giveFrame; split <;> rfl
theorem giveFrame_job (h : Fin 4) (s : State) : (giveFrame h s).job = s.job := by unfold giveFrame; split <;> rfl
theorem giveFrame_inUse (h : Fin 4) (s : State) : (giveFrame h s).scroll.inUse = s.scroll.inUse := by unfold giveFrame; split <;> rfl

theorem giveFrame_setting (h : Fin 4) (s : State) : (giveFrame h s).scroll.setting = s.scroll.setting := by
  unfold giveFrame; split <;> rfl

theorem syncFrame_heads (h : Fin 4) (s : State) :
    (syncFrame h s).heads = upd s.heads h fun x => { x with syncLost := false, syncTimer := some 0 } := by
  unfold syncFrame
  dsimp only
  split <;> simp

theorem syncFrame_job (h : Fin 4) (s : State) : (syncFrame h s).job = s.job := by
  unfold syncFrame
  dsimp only
  split <;> simp

theorem syncFrame_link (h : Fin 4) (s : State) : (syncFrame h s).link = (synced h s).link := by
  unfold syncFrame synced
  dsimp only
  split
  · exact (refreshSource_link _).trans (raise_link_congr _ _ _ rfl)
  · rfl

theorem headStarted_heads (h : Fin 4) (s : State) : (headStarted h s).heads = upd s.heads h startedHead := by
  rw [headStarted, modHead_heads, giveFrame_heads, syncFrame_heads, upd_upd]
  simp only [takeAppearance_eq]
  rfl

theorem headStarted_link (h : Fin 4) (s : State) : (headStarted h s).link = (synced h s).link := by
  rw [headStarted, modHead_link, giveFrame_link, syncFrame_link]

theorem headStarted_job (h : Fin 4) (s : State) : (headStarted h s).job = s.job := by
  rw [headStarted, modHead_job, giveFrame_job, syncFrame_job]

/-- A frame start of the source in use gives one frame (R89, log 6). -/
theorem headStarted_framesOwed (h : Fin 4) (s : State) : (headStarted h s).scroll.framesOwed =
    if (headStarted h s).scroll.inUse = .head h then s.scroll.framesOwed + 1 else s.scroll.framesOwed := by
  have kept : (syncFrame h s).scroll.framesOwed = s.scroll.framesOwed := by
    unfold syncFrame
    dsimp only
    split <;> simp
  rw [← kept, headStarted, modHead_scroll, giveFrame_inUse]
  unfold giveFrame
  split <;> rfl

/-- Without a sync to find again the source stays (R136). -/
theorem headStarted_inUse {h : Fin 4} {s : State} (sync : (s.heads[h]).syncLost = false) :
    (headStarted h s).scroll.inUse = s.scroll.inUse := by
  rw [headStarted, modHead_scroll, giveFrame_inUse, syncFrame, if_neg (by rw [sync]; decide)]
  rfl

/-- A sync found again decides the source afresh (R89, R136). -/
theorem headStarted_wanted {h : Fin 4} {s : State} (lost : (s.heads[h]).syncLost = true) :
    wantedSource (headStarted h s) = (headStarted h s).scroll.inUse := by
  have decided : wantedSource (syncFrame h s) = (syncFrame h s).scroll.inUse := by
    rw [syncFrame, if_pos lost, refreshSource_inUse]
    exact wantedSource_congr (by simp) fun g => by simp
  have given : wantedSource (giveFrame h (syncFrame h s)) = wantedSource (syncFrame h s) :=
    wantedSource_congr (giveFrame_setting ..) fun g => by rw [giveFrame_heads]; exact ⟨rfl, rfl⟩
  rw [headStarted, modHead_scroll, giveFrame_inUse, ← decided, ← given]
  refine wantedSource_modHead ?_ ?_
  · rw [takeAppearance_eq]
    rfl
  · rw [takeAppearance_eq]

end Sys2Proof.Machine
end

section
/-! A head's frame start judged, before the arbiter's choice (R139 to R143). -/

namespace Sys2Proof.Machine

/-! ### What the sampling reads of the state -/

section
variable {s t : State} (store : t.store = s.store) (layout : t.layout = s.layout)
include store layout

theorem slotIdentity_of_script (x : Head) : slotIdentity t x = slotIdentity s x := by
  unfold slotIdentity
  rw [store, layout]

theorem remainingSlots_of_script (x : Head) (half : Fin 2) : remainingSlots t x half = remainingSlots s x half := by
  unfold remainingSlots
  rw [slotIdentity_of_script store layout]

theorem emptyMismatched_of_script (x : Head) : emptyMismatched t x = emptyMismatched s x := by
  unfold emptyMismatched
  rw [slotIdentity_of_script store layout]

omit layout in
theorem rows_of_script : t.rows = s.rows := by
  unfold State.rows
  rw [store]

omit layout in
theorem holdsVisible_of_script (x : Head) (slots : List (Fin 32)) : holdsVisible t x slots = holdsVisible s x slots := by
  unfold holdsVisible
  rw [rows_of_script store]

theorem rebuildSets_of_script (x : Head) : rebuildSets t x = rebuildSets s x := by
  unfold rebuildSets
  simp only [emptyMismatched_of_script store layout, remainingSlots_of_script store layout, holdsVisible_of_script store]

theorem sampleFrame_of_script (p : t.scroll.p = s.scroll.p) (direction : t.scroll.direction = s.scroll.direction) (x : Head) :
    sampleFrame t x = sampleFrame s x := by
  unfold sampleFrame
  rw [p, direction, rebuildSets_of_script store layout]

theorem rowReady_of_script (x : Head) : rowReady t x = rowReady s x := by
  unfold rowReady
  rw [store, layout]

theorem readyRows_of_script (x : Head) : readyRows t x = readyRows s x := by
  unfold readyRows
  rw [rows_of_script store, rowReady_of_script store layout]

theorem missingRows_of_script (x : Head) : missingRows t x = missingRows s x := by
  unfold missingRows
  rw [rows_of_script store, rowReady_of_script store layout]

end

/-! ### The frame start of a head that takes its window -/

/-- A head as its frame start samples it. -/
def sampledHead (h : Fin 4) (s : State) : Head := sampleFrame s (startedHead s.heads[h])

theorem sampled_sampledHead (h : Fin 4) (s : State) : Sampled s (startedHead s.heads[h]) (sampledHead h s) := sampled_sampleFrame ..

/-- A frame start up to the arbiter's choice. -/
def frameJudged (h : Fin 4) (s : State) : State :=
  judgeFrame h ((headStarted h s).modHead h (sampleFrame (headStarted h s)))

/-- The head that the judgement leaves. -/
def judgedFrameHead (h : Fin 4) (s : State) : Head :=
  judgedHead (takenFrame s (sampledHead h s)) (missingRows s (sampledHead h s)) (sampledHead h s)

section
variable (h : Fin 4) (s : State)

theorem frameKept_frameJudged : FrameKept s (frameJudged h s) :=
  ((FrameKept.headStarted h s).trans (.modHead ..)).trans (.judgeFrame ..)

/-- The state that the judgement finds: its head is the sampled one. -/
theorem sampled_heads : ((headStarted h s).modHead h (sampleFrame (headStarted h s))).heads = upd s.heads h fun _ => sampledHead h s := by
  have kept := FrameKept.headStarted h s
  have same : sampleFrame (headStarted h s) = sampleFrame s :=
    funext (sampleFrame_of_script kept.store kept.layout (by rw [kept.scroll]) (by rw [kept.scroll]))
  rw [modHead_heads, headStarted_heads, upd_upd, same]
  exact upd_congr _ _ rfl

/-- The judgement in terms of the state before the frame start. -/
theorem frameJudged_eq : frameJudged h s =
    (fun t => if (sampledHead h s).state = .starting ∧ missingRows s (sampledHead h s) = 0 then refreshSource t else t)
      (noticesRaised (judgedNotices h (missingRows s (sampledHead h s)) (sampledHead h s))
        ((headStarted h s).modHead h fun _ => judgedFrameHead h s)) := by
  have kept : FrameKept s ((headStarted h s).modHead h (sampleFrame (headStarted h s))) :=
    (FrameKept.headStarted h s).trans (.modHead ..)
  have head : ((headStarted h s).modHead h (sampleFrame (headStarted h s))).heads[h] = sampledHead h s := by
    rw [sampled_heads, upd_get_self]
  have missing := missingRows_of_script kept.store kept.layout (sampledHead h s)
  have frame : takenFrame ((headStarted h s).modHead h (sampleFrame (headStarted h s))) (sampledHead h s)
      = takenFrame s (sampledHead h s) := by
    unfold takenFrame
    rw [readyRows_of_script kept.store kept.layout, kept.scroll]
  rw [frameJudged, judgeFrame_eq, head, missing, frame, modHead_modHead]
  have judged : ((headStarted h s).modHead h fun x =>
      judgedHead (takenFrame s (sampledHead h s)) (missingRows s (sampledHead h s)) (sampleFrame (headStarted h s) x))
      = (headStarted h s).modHead h fun _ => judgedFrameHead h s := by
    refine modHead_congr ?_
    rw [modHead_heads, upd_get_self] at head
    rw [head]
    rfl
  rw [judged]

theorem frameJudged_heads : (frameJudged h s).heads = upd s.heads h fun _ => judgedFrameHead h s := by
  have heads : ((headStarted h s).modHead h fun _ => judgedFrameHead h s).heads = upd s.heads h fun _ => judgedFrameHead h s := by
    rw [modHead_heads, headStarted_heads, upd_upd]
  rw [frameJudged_eq, noticesRaised_frame]
  dsimp only
  split
  · exact (refreshSource_heads _).trans heads
  · exact heads

theorem frameJudged_head : (frameJudged h s).heads[h] = judgedFrameHead h s := by
  rw [frameJudged_heads, upd_get_self]

theorem frameJudged_heads_ne {g : Fin 4} (other : g ≠ h) : (frameJudged h s).heads[g] = s.heads[g] := by
  rw [frameJudged_heads, upd_get_ne _ _ _ _ other]

theorem frameJudged_job : (frameJudged h s).job = s.job := by
  rw [frameJudged_eq, noticesRaised_frame]
  dsimp only
  split
  · exact (refreshSource_job _).trans (headStarted_job h s)
  · exact headStarted_job h s

theorem frameJudged_link : (frameJudged h s).link =
    (noticesRaised (judgedNotices h (missingRows s (sampledHead h s)) (sampledHead h s)) (synced h s)).link := by
  have link := noticesRaised_link_congr (judgedNotices h (missingRows s (sampledHead h s)) (sampledHead h s))
    ((headStarted h s).modHead h fun _ => judgedFrameHead h s) (synced h s) (headStarted_link h s)
  rw [frameJudged_eq]
  dsimp only
  split
  · exact (refreshSource_link _).trans link
  · exact link

theorem frameJudged_framesOwed : (frameJudged h s).scroll.framesOwed = (headStarted h s).scroll.framesOwed := by
  rw [frameJudged_eq, noticesRaised_frame]
  dsimp only
  split
  · exact refreshSource_scroll_framesOwed _
  · rfl

theorem judgedHead_canServe (frame : ScanFrame) (missing : Nat) (y : Head) :
    (judgedHead frame missing y).canServe = y.canServe := by
  unfold judgedHead
  split
  · next starting =>
    split
    · simp [Head.canServe, starting]
    · rfl
  all_goals rfl

theorem judgedHead_geometry (frame : ScanFrame) (missing : Nat) (y : Head) :
    (judgedHead frame missing y).geometry = y.geometry := by
  unfold judgedHead
  (repeat' split) <;> rfl

/-- After a sync found again the judgement leaves the source (R89). -/
theorem frameJudged_inUse {h : Fin 4} {s : State} (lost : (s.heads[h]).syncLost = true) :
    (frameJudged h s).scroll.inUse = (headStarted h s).scroll.inUse := by
  have wanted : wantedSource ((headStarted h s).modHead h fun _ => judgedFrameHead h s) = (headStarted h s).scroll.inUse := by
    rw [← headStarted_wanted lost]
    refine wantedSource_modHead ?_ ?_
    · rw [judgedFrameHead, judgedHead_canServe, (sampled_sampledHead h s).frame, headStarted_heads, upd_get_self]
      rfl
    · rw [judgedFrameHead, judgedHead_geometry, (sampled_sampledHead h s).frame, headStarted_heads, upd_get_self]
  rw [frameJudged_eq, noticesRaised_frame]
  dsimp only
  split
  · rw [refreshSource_inUse]
    exact wanted
  · rfl

end

end Sys2Proof.Machine
end

section
/-! The arbiter's choice at a frame start: what it leaves of the heads, and that it bears neither on the link nor on an earlier job
(R147 to R149). -/

namespace Sys2Proof.Machine

/-! ### What a choice leaves of the heads -/

/-- A head after a choice: slots may have left its requests, and one may be in render; nothing else has changed (R147, R149). -/
structure HeadChosen (x y : Head) : Prop where
  frame : y = { x with halves := y.halves, slots := y.slots }
  block : ∀ half : Fin 2, (y.halves[half]).block = (x.halves[half]).block
  remaining : ∀ (half : Fin 2), ∀ i ∈ (y.halves[half]).remaining, i ∈ (x.halves[half]).remaining
  valid : ∀ (i : Fin 32) (tag : RowIdentity) (pixels : Drawing), y.slots[i] = .valid tag pixels → x.slots[i] = .valid tag pixels

namespace HeadChosen

theorem refl (x : Head) : HeadChosen x x := ⟨rfl, fun _ => rfl, fun _ _ h => h, fun _ _ _ h => h⟩

theorem trans {x y z : Head} (h : HeadChosen x y) (h' : HeadChosen y z) : HeadChosen x z := by
  refine ⟨?_, fun half => (h'.block half).trans (h.block half), fun half i hi => h.remaining half i (h'.remaining half i hi),
    fun i tag pixels hv => h.valid i tag pixels (h'.valid i tag pixels hv)⟩
  rw [h'.frame, h.frame]

theorem takeSlot (x : Head) (half : Fin 2) (slot : Fin 32) : HeadChosen x (x.takeSlot half slot) := by
  have entry (other : Fin 2) : (x.takeSlot half slot).halves[other] =
      if other = half then { x.halves[other] with remaining := (x.halves[other]).remaining.filter fun i => !(i == slot) }
      else x.halves[other] := upd_entries ..
  refine ⟨rfl, fun other => ?_, fun other i hi => ?_, fun _ _ _ h => h⟩
  · rw [entry]
    split <;> rfl
  · rw [entry] at hi
    split at hi
    · exact List.mem_of_mem_filter hi
    · exact hi

theorem rendering (x : Head) (slot : Fin 32) (tag : RowIdentity) :
    HeadChosen x { x with slots := upd x.slots slot fun _ => .rendering tag } := by
  refine ⟨rfl, fun _ => rfl, fun _ _ h => h, fun i _ _ valid => ?_⟩
  rw [upd_entries] at valid
  split at valid
  · cases valid
  · exact valid

end HeadChosen

/-- A state after the arbiter's choice: only the heads and the job have changed (R147). -/
structure Chosen (s t : State) : Prop where
  frame : t = { s with heads := t.heads, job := t.job }
  head : ∀ g : Fin 4, HeadChosen s.heads[g] t.heads[g]

namespace Chosen

theorem trans {s t u : State} (h : Chosen s t) (h' : Chosen t u) : Chosen s u := by
  refine ⟨?_, fun g => (h.head g).trans (h'.head g)⟩
  rw [h'.frame, h.frame]

theorem setJob (s : State) (job : Option Job) : Chosen s { s with job := job } := ⟨rfl, fun _ => .refl _⟩

theorem modHead (s : State) (h : Fin 4) {f : Head → Head} (hf : HeadChosen s.heads[h] (f s.heads[h])) : Chosen s (s.modHead h f) := by
  refine ⟨rfl, fun g => ?_⟩
  rw [modHead_heads, upd_entries]
  split
  · next same =>
    subst same
    exact hf
  · exact .refl _

theorem beginJob (h : Fin 4) (slot : Fin 32) (r : Nat) (s : State) : Chosen s (beginJob h slot r s) := by
  unfold Machine.beginJob
  split
  · exact setJob ..
  · exact (modHead s h (.rendering ..)).trans (setJob ..)

theorem arbiter (fuel : Nat) (s : State) : Chosen s (arbiter fuel s) := by
  induction fuel generalizing s with
  | zero => exact setJob ..
  | succ fuel ih =>
    unfold Machine.arbiter
    split
    · exact setJob ..
    · split
      · exact setJob ..
      · dsimp only
        have taken {h half slot} : Chosen s (s.modHead h fun x => x.takeSlot half slot) := modHead s _ (.takeSlot ..)
        (repeat' split)
        · exact taken.trans (ih _)
        · exact taken.trans (beginJob ..)
        · exact taken.trans (ih _)

theorem chooseNext (s : State) : Chosen s (chooseNext s) := arbiter _ s

theorem kept {s t : State} (chosen : Chosen s t) : FrameKept s t := by
  rw [chosen.frame]
  exact ⟨rfl, rfl, rfl, rfl, rfl, rfl, rfl, rfl⟩

end Chosen

/-! ### The choice and the link -/

/-- The state with another link. -/
def withLink (l : Link) (s : State) : State := { s with link := l }

theorem beginJob_withLink (l : Link) (h : Fin 4) (slot : Fin 32) (r : Nat) (s : State) :
    beginJob h slot r (withLink l s) = withLink l (beginJob h slot r s) := by
  unfold beginJob withLink
  dsimp only
  split <;> rfl

theorem arbiter_withLink (l : Link) (fuel : Nat) (s : State) : arbiter fuel (withLink l s) = withLink l (arbiter fuel s) := by
  induction fuel generalizing s with
  | zero => rfl
  | succ fuel ih =>
    have best : bestRequest (withLink l s) = bestRequest s := rfl
    have slot (h : Fin 4) (half : Fin 2) : chooseSlot (withLink l s) h half = chooseSlot s h half := rfl
    have taken (h : Fin 4) (f : Head → Head) : (withLink l s).modHead h f = withLink l (s.modHead h f) := rfl
    unfold arbiter
    rw [best]
    cases bestRequest s with
    | none => rfl
    | some request =>
      dsimp only
      rw [slot]
      cases chooseSlot s request.1 request.2 with
      | none => rfl
      | some chosen =>
        dsimp only
        rw [taken]
        have head : (withLink l s).heads = s.heads := rfl
        rw [head]
        cases (s.heads[request.1]).slotRow chosen with
        | none => exact ih _
        | some r =>
          by_cases inside : 0 ≤ r ∧ r < s.rows
          · exact (if_pos inside).trans ((beginJob_withLink ..).trans (congrArg (withLink l) (if_pos inside).symm))
          · exact (if_neg inside).trans ((ih _).trans (congrArg (withLink l) (if_neg inside).symm))

/-- The transmitter's choice and the arbiter's do not meet (R147, R165). -/
theorem chooseNext_pump (s : State) : chooseNext (pump s) = pump (chooseNext s) := by
  have frame (t : State) : pump t = withLink (pump t).link t := by
    unfold pump
    (repeat' split) <;> rfl
  have link : (pump (chooseNext s)).link = (pump s).link := pump_link_congr (by rw [(Chosen.chooseNext s).frame])
  rw [frame (chooseNext s), link]
  conv_lhs => rw [frame s]
  exact arbiter_withLink _ _ s

/-! ### A frame start and an earlier job -/

/-- The state with another job. -/
def withJob (job : Option Job) (s : State) : State := { s with job := job }

section
variable (job : Option Job) (s : State)

theorem raise_withJob (n : Notice) : raise n (withJob job s) = withJob job (raise n s) := by
  unfold raise withJob
  dsimp only
  split <;> rfl

theorem noticesRaised_withJob (ns : List Notice) : noticesRaised ns (withJob job s) = withJob job (noticesRaised ns s) := by
  induction ns generalizing s with
  | nil => rfl
  | cons n ns ih => rw [noticesRaised_cons, raise_withJob, ih, noticesRaised_cons]

theorem refreshSource_withJob : refreshSource (withJob job s) = withJob job (refreshSource s) := by
  have wanted : wantedSource (withJob job s) = wantedSource s := rfl
  have scroll : (withJob job s).scroll = s.scroll := rfl
  unfold refreshSource
  rw [wanted, scroll]
  split <;> rfl

theorem giveFrame_withJob (h : Fin 4) : giveFrame h (withJob job s) = withJob job (giveFrame h s) := by
  unfold giveFrame withJob
  dsimp only
  split <;> rfl

theorem syncFrame_withJob (h : Fin 4) : syncFrame h (withJob job s) = withJob job (syncFrame h s) := by
  have timed : (withJob job s).modHead h (fun x => { x with syncLost := false, syncTimer := some 0 })
      = withJob job (s.modHead h fun x => { x with syncLost := false, syncTimer := some 0 }) := rfl
  have head : (withJob job s).heads = s.heads := rfl
  unfold syncFrame
  dsimp only
  rw [timed, head]
  split
  · rw [raise_withJob, refreshSource_withJob]
  · rfl

theorem headStarted_withJob (h : Fin 4) : headStarted h (withJob job s) = withJob job (headStarted h s) := by
  rw [headStarted, syncFrame_withJob, giveFrame_withJob]
  rfl

theorem frameJudged_withJob (h : Fin 4) : frameJudged h (withJob job s) = withJob job (frameJudged h s) := by
  have sampled : sampledHead h (withJob job s) = sampledHead h s := sampleFrame_of_script rfl rfl rfl rfl _
  have scroll : (withJob job s).scroll = s.scroll := rfl
  have missing (x : Head) : missingRows (withJob job s) x = missingRows s x := missingRows_of_script rfl rfl x
  have ready (x : Head) : readyRows (withJob job s) x = readyRows s x := readyRows_of_script rfl rfl x
  have judged : judgedFrameHead h (withJob job s) = judgedFrameHead h s := by
    unfold judgedFrameHead takenFrame
    rw [sampled, missing, ready, scroll]
  have modified (t : State) : (withJob job t).modHead h (fun _ => judgedFrameHead h s)
      = withJob job (t.modHead h fun _ => judgedFrameHead h s) := rfl
  rw [frameJudged_eq, frameJudged_eq, sampled, missing, headStarted_withJob, judged, modified, noticesRaised_withJob]
  dsimp only
  split
  · exact refreshSource_withJob ..
  · rfl

theorem pump_withJob : pump (withJob job s) = withJob job (pump s) := by
  unfold pump withJob
  dsimp only
  (repeat' split) <;> rfl

end

end Sys2Proof.Machine
end

section
/-! FRAME_START as its statement has it (R89, R132, R136, R137, R139 to R143, R147). -/

namespace Sys2Proof.Machine

/-! ### The branches of a frame start -/

theorem asks_iff {x : Head} : (x.halves.toList.any fun half => !half.remaining.isEmpty) = true
    ↔ ∃ half : Fin 2, (x.halves[half]).remaining ≠ [] := by
  rw [List.any_eq_true]
  constructor
  · rintro ⟨half, member, asks⟩
    obtain ⟨k, hk, rfl⟩ := List.getElem_of_mem member
    exact ⟨⟨k, by simpa using hk⟩, by simpa using asks⟩
  · rintro ⟨half, asks⟩
    exact ⟨x.halves[half], by simp, by simpa using asks⟩

section
variable {h : Fin 4} {s : State}

theorem headStarted_head (h : Fin 4) (s : State) : (headStarted h s).heads[h] = startedHead s.heads[h] := by
  rw [headStarted_heads, upd_get_self]

theorem frameStart_of_on (on : (s.heads[h]).state ≠ .disabled) : frameStart h s = headFrame h (headStarted h s) := if_neg on

/-- A STOPPING head's frame start samples nothing (R139, log 19). -/
theorem frameStart_of_stopping (stopping : (s.heads[h]).state = .stopping) : frameStart h s = headStarted h s := by
  have same : ((headStarted h s).heads[h]).state = .stopping := by
    rw [headStarted_head]
    exact stopping
  rw [frameStart_of_on (by rw [stopping]; decide), headFrame, if_pos same]

section
variable (on : (s.heads[h]).state ≠ .disabled) (going : (s.heads[h]).state ≠ .stopping)
include on going

theorem frameStart_of_going : frameStart h s =
    if ((frameJudged h s).heads[h].halves.toList.any fun half => !half.remaining.isEmpty) && (frameJudged h s).job.isNone then
      chooseNext (frameJudged h s) else frameJudged h s := by
  have same : ((headStarted h s).heads[h]).state ≠ .stopping := by
    rw [headStarted_head]
    exact going
  rw [frameStart_of_on on, headFrame, if_neg same]
  rfl

/-- With a request and the render unit idle the arbiter chooses (R147). -/
theorem frameStart_of_asking (asks : ∃ half : Fin 2, ((judgedFrameHead h s).halves[half]).remaining ≠ []) (idle : s.job = none) :
    frameStart h s = chooseNext (frameJudged h s) := by
  rw [frameStart_of_going on going, frameJudged_job, idle, frameJudged_head, asks_iff.mpr asks]
  rfl

/-- Without a request, or with a job in progress, nothing is chosen (R147). -/
theorem frameStart_of_quiet (quiet : (¬ ∃ half : Fin 2, ((judgedFrameHead h s).halves[half]).remaining ≠ []) ∨ s.job ≠ none) :
    frameStart h s = frameJudged h s := by
  rw [frameStart_of_going on going, frameJudged_job, frameJudged_head]
  refine if_neg ?_
  rw [Bool.and_eq_true, asks_iff, Option.isNone_iff_eq_none]
  rintro ⟨asks, idle⟩
  exact quiet.elim (fun silent => silent asks) (fun busy => busy idle)

theorem frameStart_chosen : frameStart h s = frameJudged h s ∨ frameStart h s = chooseNext (frameJudged h s) := by
  rw [frameStart_of_going on going]
  split
  · exact .inr rfl
  · exact .inl rfl

theorem chosen_frameStart : Chosen (frameJudged h s) (frameStart h s) := by
  rcases frameStart_chosen on going with same | chosen
  · rw [same]
    exact .setJob _ _
  · rw [chosen]
    exact .chooseNext _

end

/-! ### What a frame start leaves as it is, and the frames it owes -/

theorem frameKept_frameStart (on : (s.heads[h]).state ≠ .disabled) : FrameKept s (frameStart h s) := by
  by_cases stopping : (s.heads[h]).state = .stopping
  · rw [frameStart_of_stopping stopping]
    exact .headStarted h s
  · exact (frameKept_frameJudged h s).trans (chosen_frameStart on stopping).kept

theorem frameStart_framesOwed (on : (s.heads[h]).state ≠ .disabled) :
    (frameStart h s).scroll.framesOwed = (headStarted h s).scroll.framesOwed := by
  by_cases stopping : (s.heads[h]).state = .stopping
  · rw [frameStart_of_stopping stopping]
  · rw [(chosen_frameStart on stopping).frame]
    exact frameJudged_framesOwed h s

theorem frameStart_inUse (on : (s.heads[h]).state ≠ .disabled) (lost : (s.heads[h]).syncLost = true) :
    (frameStart h s).scroll.inUse = (headStarted h s).scroll.inUse := by
  by_cases stopping : (s.heads[h]).state = .stopping
  · rw [frameStart_of_stopping stopping]
  · rw [(chosen_frameStart on stopping).frame]
    exact frameJudged_inUse lost

/-- The head that is the frame source gives one scroll frame (R89, log 6). -/
theorem frameStart_owes (on : (s.heads[h]).state ≠ .disabled) : (frameStart h s).scroll.framesOwed =
    if (s.heads[h]).syncLost = false ∧ s.scroll.inUse = .head h then s.scroll.framesOwed + 1
    else if (s.heads[h]).syncLost = true ∧ (frameStart h s).scroll.inUse = .head h then s.scroll.framesOwed + 1
    else s.scroll.framesOwed := by
  rw [frameStart_framesOwed on, headStarted_framesOwed]
  cases sync : (s.heads[h]).syncLost
  · rw [headStarted_inUse sync]
    simp
  · rw [frameStart_inUse on sync]
    simp

/-! ### The head after the judgement -/

theorem judgedHead_frame (frame : ScanFrame) (missing : Nat) (y : Head) : judgedHead frame missing y =
    { y with
      state := (judgedHead frame missing y).state, degraded := (judgedHead frame missing y).degraded
      frame := (judgedHead frame missing y).frame } := by
  unfold judgedHead
  (repeat' split) <;> rfl

/-- The judged head is the started one with its window, its ring, its state and its scan-out. -/
theorem judgedFrameHead_frame (h : Fin 4) (s : State) : judgedFrameHead h s =
    { startedHead s.heads[h] with
      window := takeWindow s.heads[h].geometry s.heads[h].bias s.scroll.p
      halves := (sampledHead h s).halves, slots := (sampledHead h s).slots
      state := (judgedFrameHead h s).state, degraded := (judgedFrameHead h s).degraded
      frame := (judgedFrameHead h s).frame } := by
  have judged : judgedFrameHead h s = { sampledHead h s with
      state := (judgedFrameHead h s).state, degraded := (judgedFrameHead h s).degraded
      frame := (judgedFrameHead h s).frame } := judgedHead_frame ..
  refine judged.trans ?_
  generalize (judgedFrameHead h s).state = state, (judgedFrameHead h s).degraded = degraded, (judgedFrameHead h s).frame = frame
  have sampled := (sampled_sampledHead h s).frame
  generalize sampledHead h s = y at sampled ⊢
  rw [sampled]
  rfl

end

end Sys2Proof.Machine
end

section
/-! FRAME_START's statement: its head, its requests and its notices (R137, R139 to R143, R147). -/

namespace Sys2Proof.Machine

/-! ### The window and the blocks in the statement's terms -/

theorem pitch_cast (g : Geometry) : (g.pitch : Int) = 32 * (g.scale : Int) + g.leading := by
  unfold Geometry.pitch
  push_cast
  rfl

theorem stripTop_eq (g : Geometry) (p : Nat) : stripTop g p =
    ((p * (32 * g.scale + g.leading) / 1024 : Nat) : Int) - g.readingRow * (32 * (g.scale : Int) + g.leading) := by
  rw [stripTop, pitch_cast]
  rfl

theorem takeWindow_topRow (g : Geometry) (bias : Int) (p : Nat) :
    (takeWindow g bias p).topRow = stripTop g p / (32 * (g.scale : Int) + g.leading) := by
  rw [← pitch_cast]
  rfl

theorem takeWindow_bottomRow (g : Geometry) (bias : Int) (p : Nat) : (takeWindow g bias p).bottomRow =
    (stripTop g p + (g.height / (32 * g.scale + g.leading) : Nat) * (32 * (g.scale : Int) + g.leading) - 1)
      / (32 * (g.scale : Int) + g.leading) := by
  rw [← pitch_cast]
  rfl

/-- The first of the two blocks a head wants held (R140). -/
def firstBlock (w : Window) (bias : Int) (direction : Direction) : Int :=
  if direction = .forward then (w.topRow - bias) / 16 else (w.bottomRow - bias) / 16 - 1

/-- Of two neighbouring blocks a half takes the one of its parity (R140). -/
theorem desiredFor_eq (w : Window) (bias : Int) (direction : Direction) (half : Fin 2) :
    desiredFor (desiredBlocks w bias direction) half =
      if firstBlock w bias direction % 2 = (half.val : Int) then firstBlock w bias direction else firstBlock w bias direction + 1 := by
  cases direction with
  | forward => rfl
  | backward =>
    have next : (w.bottomRow - bias) / 16 = (w.bottomRow - bias) / 16 - 1 + 1 := by omega
    exact congrArg (fun last => if ((w.bottomRow - bias) / 16 - 1) % 2 = (half.val : Int) then (w.bottomRow - bias) / 16 - 1 else last) next

/-! ### The head that a frame start leaves -/

section
variable {h : Fin 4} {s : State} (on : (s.heads[h]).state ≠ .disabled) (going : (s.heads[h]).state ≠ .stopping)
include on going

theorem chosen_frameStart_head : HeadChosen (judgedFrameHead h s) ((frameStart h s).heads[h]) := by
  rw [← frameJudged_head]
  exact (chosen_frameStart on going).head h

/-- A head that samples: the started one with its window, its ring, and what the judgement gives it. -/
theorem frameStart_head : (frameStart h s).heads[h] =
    { startedHead s.heads[h] with
      window := takeWindow s.heads[h].geometry s.heads[h].bias s.scroll.p
      halves := ((frameStart h s).heads[h]).halves, slots := ((frameStart h s).heads[h]).slots
      state := (judgedFrameHead h s).state, degraded := (judgedFrameHead h s).degraded
      frame := (judgedFrameHead h s).frame } := by
  have chosen := (chosen_frameStart_head on going).frame
  have judged := judgedFrameHead_frame h s
  generalize (frameStart h s).heads[h] = x at chosen ⊢
  refine chosen.trans ?_
  generalize x.halves = halves, x.slots = slots
  generalize judgedFrameHead h s = y at judged ⊢
  rw [judged]

theorem frameStart_block (half : Fin 2) : (((frameStart h s).heads[h]).halves[half]).block =
    some (desiredFor (desiredBlocks ((frameStart h s).heads[h]).window s.heads[h].bias s.scroll.direction) half) := by
  have sampled := sampled_sampledHead h s
  have window : ((frameStart h s).heads[h]).window = (sampledHead h s).window := by
    rw [frameStart_head on going, sampled.window]
    rfl
  have halves : (judgedFrameHead h s).halves = (sampledHead h s).halves := by rw [judgedFrameHead_frame]
  rw [(chosen_frameStart_head on going).block, halves, sampled.block, window]
  rfl

theorem frameStart_valid {i : Fin 32} {tag : RowIdentity} {pixels : Drawing} {r : Int}
    (valid : ((frameStart h s).heads[h]).slots[i] = .valid tag pixels) (row : ((frameStart h s).heads[h]).slotRow i = some r)
    (low : 0 ≤ r) (high : r < s.rows) : rowIdentity s.store.stories s.layout.generation r.toNat = some tag := by
  have chosen := chosen_frameStart_head on going
  have sampled := sampled_sampledHead h s
  have halves : (judgedFrameHead h s).halves = (sampledHead h s).halves := by rw [judgedFrameHead_frame]
  have slots : (judgedFrameHead h s).slots = (sampledHead h s).slots := by rw [judgedFrameHead_frame]
  have bias : ((frameStart h s).heads[h]).bias = (sampledHead h s).bias := by
    rw [frameStart_head on going, sampled.bias]
  have same : ((frameStart h s).heads[h]).slotRow i = (sampledHead h s).slotRow i :=
    slotRow_congr (fun half => by rw [chosen.block, halves]) bias i
  exact sampled.valid_tag (slots ▸ chosen.valid i tag pixels valid) (same.symm.trans row) low high

theorem frameStart_blanked_remaining (blanked : (s.heads[h]).state = .blanked) (half : Fin 2) :
    (((frameStart h s).heads[h]).halves[half]).remaining = [] := by
  have empty : ((judgedFrameHead h s).halves[half]).remaining = [] := by
    have halves : (judgedFrameHead h s).halves = (sampledHead h s).halves := by rw [judgedFrameHead_frame]
    rw [halves, (sampled_sampledHead h s).remaining]
    exact if_pos blanked
  refine List.eq_nil_iff_forall_not_mem.mpr fun i hi => ?_
  have asked := (chosen_frameStart_head on going).remaining half i hi
  rw [empty] at asked
  cases asked

end

/-! ### The judgement by the head's state -/

section
variable {h : Fin 4} {s : State}

theorem sampledHead_state (h : Fin 4) (s : State) : (sampledHead h s).state = (s.heads[h]).state := by
  rw [(sampled_sampledHead h s).frame]
  rfl

theorem judged_of_starting (starting : (s.heads[h]).state = .starting) : judgedFrameHead h s =
    if missingRows s (sampledHead h s) = 0 then
      { sampledHead h s with state := .running, frame := some (takenFrame s (sampledHead h s)) } else sampledHead h s :=
  judgedHead_starting ((sampledHead_state h s).trans starting)

theorem judged_of_running (running : (s.heads[h]).state = .running) : judgedFrameHead h s =
    { sampledHead h s with
      frame := some (takenFrame s (sampledHead h s)), degraded := decide (missingRows s (sampledHead h s) ≠ 0) } :=
  judgedHead_running ((sampledHead_state h s).trans running)

theorem judged_of_blanked (blanked : (s.heads[h]).state = .blanked) : judgedFrameHead h s = sampledHead h s :=
  judgedHead_other (by rw [sampledHead_state, blanked]; decide) (by rw [sampledHead_state, blanked]; decide)

theorem judged_state_of_running (running : (s.heads[h]).state = .running) : (judgedFrameHead h s).state = .running := by
  rw [judged_of_running running]
  dsimp only
  rw [sampledHead_state, running]

theorem judged_state_of_blanked (blanked : (s.heads[h]).state = .blanked) : (judgedFrameHead h s).state = .blanked := by
  rw [judged_of_blanked blanked, sampledHead_state, blanked]

/-- A STARTING head becomes RUNNING where no visible row is missing (R142). -/
theorem judged_state_of_starting (starting : (s.heads[h]).state = .starting) : (judgedFrameHead h s).state =
    if missingRows s (sampledHead h s) = 0 then .running else .starting := by
  rw [judged_of_starting starting]
  split
  · rfl
  · rw [sampledHead_state, starting]

/-! ### The three parts of the statement -/

theorem sampledHead_bias (h : Fin 4) (s : State) : (sampledHead h s).bias = (s.heads[h]).bias := (sampled_sampledHead h s).bias

theorem readyRow_iff_of_bias {y : Head} {bias : Int} (same : y.bias = bias) {r : Int} :
    ReadyRow s y r ↔ ∃ tag pixels, identityAt s r = some tag ∧ y.slots[slotOf bias r] = .valid tag pixels := by
  subst same
  exact Iff.rfl

/-- The ready rows by the bias before the frame start (R137, R142). -/
theorem readyRow_sampledHead_iff {r : Int} : ReadyRow s (sampledHead h s) r ↔
    ∃ tag pixels, identityAt s r = some tag ∧ (sampledHead h s).slots[slotOf s.heads[h].bias r] = .valid tag pixels :=
  readyRow_iff_of_bias (sampledHead_bias h s)

/-! ### The link and the scan-out -/

theorem sampledHead_degraded (h : Fin 4) (s : State) : (sampledHead h s).degraded = (s.heads[h]).degraded := by
  rw [(sampled_sampledHead h s).frame]
  rfl

theorem sampledHead_frame (h : Fin 4) (s : State) : (sampledHead h s).frame = none := by
  rw [(sampled_sampledHead h s).frame]
  rfl

theorem sampledHead_geometry (h : Fin 4) (s : State) : (sampledHead h s).geometry = (s.heads[h]).geometry := by
  rw [(sampled_sampledHead h s).frame]
  rfl

theorem judged_degraded_of_starting (starting : (s.heads[h]).state = .starting) :
    (judgedFrameHead h s).degraded = (s.heads[h]).degraded := by
  rw [judged_of_starting starting, ← sampledHead_degraded h s]
  split
  · dsimp only
  · rfl

/-- A RUNNING head is degraded where a visible row is missing (R142). -/
theorem judged_degraded_of_running (running : (s.heads[h]).state = .running) :
    (judgedFrameHead h s).degraded = decide (missingRows s (sampledHead h s) ≠ 0) := by
  rw [judged_of_running running]

/-- The link after the judgement of a STARTING head (R133, R142). -/
theorem link_of_starting (starting : (s.heads[h]).state = .starting) : (frameJudged h s).link =
    if missingRows s (sampledHead h s) = 0 then (raise (.headState h .running .starting) (synced h s)).link
    else (synced h s).link := by
  rw [frameJudged_link, judgedNotices, sampledHead_state, starting]
  dsimp only
  split <;> rfl

/-- The link after the judgement of a RUNNING head (R142). -/
theorem link_of_running (running : (s.heads[h]).state = .running) : (frameJudged h s).link =
    if missingRows s (sampledHead h s) = 0 then
      (if (s.heads[h]).degraded = true then raise (.headClear h) (synced h s) else synced h s).link
    else (if (s.heads[h]).degraded = true then synced h s
      else raise (.headDegraded h (missingRows s (sampledHead h s))) (synced h s)).link := by
  rw [frameJudged_link, judgedNotices, sampledHead_state, running, sampledHead_degraded]
  dsimp only
  (repeat' split) <;> rfl

theorem link_of_blanked (blanked : (s.heads[h]).state = .blanked) : (frameJudged h s).link = (synced h s).link := by
  rw [frameJudged_link, judgedNotices, sampledHead_state, blanked]
  rfl

/-- A head that is RUNNING after the judgement notes what it scans out (R143). -/
theorem judged_frame (states : (s.heads[h]).state = .starting ∨ (s.heads[h]).state = .running ∨ (s.heads[h]).state = .blanked)
    (running : (judgedFrameHead h s).state = .running) : (judgedFrameHead h s).frame = some (takenFrame s (sampledHead h s)) := by
  rcases states with starting | scanning | blanked
  · rw [judged_state_of_starting starting] at running
    split at running
    · next all => rw [judged_of_starting starting, if_pos all]
    · cases running
  · rw [judged_of_running scanning]
  · rw [judged_state_of_blanked blanked] at running
    cases running

/-- What every head's frame start does to its timer and appearance, and leaves of its settings (R132, R136). -/
theorem frameStart_settings (on : (s.heads[h]).state ≠ .disabled) :
    ((frameStart h s).heads[h]).syncLost = false ∧ ((frameStart h s).heads[h]).syncTimer = some 0
    ∧ ((frameStart h s).heads[h]).appearance = (s.heads[h]).pendingAppearance.getD (s.heads[h]).appearance
    ∧ ((frameStart h s).heads[h]).pendingAppearance = none
    ∧ ((frameStart h s).heads[h]).geometry = (s.heads[h]).geometry ∧ ((frameStart h s).heads[h]).bias = (s.heads[h]).bias := by
  by_cases stopping : (s.heads[h]).state = .stopping
  · rw [frameStart_of_stopping stopping, headStarted_head]
    exact ⟨rfl, rfl, rfl, rfl, rfl, rfl⟩
  · rw [frameStart_head on stopping]
    exact ⟨rfl, rfl, rfl, rfl, rfl, rfl⟩


/-- A frame start with no job is one with a job that the arbiter follows (R147). -/
theorem frameStart_without_job {t : State} {j : Job} (running : s.resetHeld = false) (idle : s.job = none)
    (going : (s.heads[h]).state ≠ .stopping) (event : exec (.frameStart h) (withJob (some j) s) = .next t) :
    exec (.frameStart h) s = .next (if ∃ half : Fin 2, ((t.heads[h]).halves[half]).remaining ≠ [] ∧ (s.heads[h]).state ≠ .disabled then
      chooseNext (withJob none t) else withJob none t) := by
  have without : exec (.frameStart h) s = .next (pump (frameStart h s)) := live_running (frameStart h) s running
  have busy : exec (.frameStart h) (withJob (some j) s) = .next (pump (frameStart h (withJob (some j) s))) :=
    live_running (frameStart h) (withJob (some j) s) running
  rw [busy] at event
  obtain rfl := Host.Outcome.next.inj event
  have jobless {u : State} (hu : u.job = none) : withJob none (withJob (some j) u) = u :=
    congrArg (fun job => withJob job u) hu.symm
  rw [without]
  refine congrArg Host.Outcome.next ?_
  by_cases disabled : (s.heads[h]).state = .disabled
  · have same (u : State) (hu : (u.heads[h]).state = .disabled) : frameStart h u = u := if_pos hu
    rw [if_neg fun ⟨_, _, on⟩ => on disabled, same _ disabled, same (withJob (some j) s) disabled, pump_withJob, jobless]
    rw [pump_job, idle]
  · have judged : frameStart h (withJob (some j) s) = withJob (some j) (frameJudged h s) := by
      rw [frameStart_of_quiet (s := withJob (some j) s) disabled going (.inr (by simp [withJob])), frameJudged_withJob]
    have head : (pump (withJob (some j) (frameJudged h s))).heads[h] = judgedFrameHead h s := by
      rw [← frameJudged_head h s, pump_heads]
      rfl
    have none : withJob none (pump (withJob (some j) (frameJudged h s))) = pump (frameJudged h s) := by
      rw [pump_withJob, jobless]
      rw [pump_job, frameJudged_job, idle]
    rw [judged, head, none]
    by_cases asks : ∃ half : Fin 2, ((judgedFrameHead h s).halves[half]).remaining ≠ []
    · obtain ⟨half, left⟩ := asks
      rw [frameStart_of_asking disabled going ⟨half, left⟩ idle, if_pos ⟨half, left, disabled⟩, chooseNext_pump]
    · rw [frameStart_of_quiet disabled going (.inl asks), if_neg fun ⟨half, left, _⟩ => asks ⟨half, left⟩]

end

/-- Settles O51: the window and the ring as sampled, the requests and the judgement by the head's state, and the choice apart from them. -/
theorem frameStartTakesTheWindow : Obligations.FrameStartTakesTheWindow := by
  refine ⟨fun s h running => ?_, fun s h running busy states => ?_, fun s t h j running idle going event => ?_⟩
  · dsimp only
    have event := live_running (frameStart h) s running
    refine ⟨fun disabled => event.trans (by rw [frameStart, if_pos disabled]), fun on => ⟨_, event, ?_⟩⟩
    obtain ⟨lost, timer, appearance, pending, geometry, bias⟩ := frameStart_settings on
    have kept := frameKept_frameStart on
    simp only [pump_heads, pump_scroll, pump_pending, pump_store, pump_edit, pump_layout, pump_hub, pump_cues, pump_link_replies]
    refine ⟨lost, timer, appearance, pending, geometry, bias, fun stopping => ?_, fun going => ?_, frameStart_owes on,
      by rw [kept.scroll], by rw [kept.scroll], by rw [kept.scroll],
      kept.pending, kept.store, kept.edit, kept.layout, kept.hub, kept.cues, kept.replies⟩
    · rw [frameStart_of_stopping stopping, headStarted_head]
      exact ⟨stopping, rfl, rfl, rfl⟩
    · have window : ((frameStart h s).heads[h]).window = takeWindow s.heads[h].geometry s.heads[h].bias s.scroll.p := by
        rw [frameStart_head on going]
      have state : ((frameStart h s).heads[h]).state = (judgedFrameHead h s).state := by rw [frameStart_head on going]
      rw [← stripTop_eq]
      refine ⟨?_, ?_, ?_, ?_, fun half => ?_, fun i tag pixels r valid row low high => frameStart_valid on going valid row low high,
        fun blanked => ⟨?_, frameStart_blanked_remaining on going blanked⟩, fun scanning => ?_, fun starting => ?_⟩
      · rw [window, takeWindow_topRow]
      · rw [window, takeWindow_bottomRow]
      · rw [window]
        rfl
      · rw [window]
        rfl
      · rw [frameStart_block on going, desiredFor_eq]
        rfl
      · rw [state, judged_state_of_blanked blanked]
      · rw [state, judged_state_of_running scanning]
      · rw [state, judged_state_of_starting starting]
        split
        · exact .inr rfl
        · exact .inl rfl
  · have on : (s.heads[h]).state ≠ .disabled := by
      rintro disabled
      rw [disabled] at states
      simp at states
    have going : (s.heads[h]).state ≠ .stopping := by
      rintro stopping
      rw [stopping] at states
      simp at states
    have event := live_running (frameStart h) s running
    rw [frameStart_of_quiet on going (.inr busy)] at event
    have halves : (judgedFrameHead h s).halves = (sampledHead h s).halves := by rw [judgedFrameHead_frame]
    have slots : (judgedFrameHead h s).slots = (sampledHead h s).slots := by rw [judgedFrameHead_frame]
    have window : (judgedFrameHead h s).window = (sampledHead h s).window := by
      rw [judgedFrameHead_frame, (sampled_sampledHead h s).window]
      rfl
    have sampled := sampled_sampledHead h s
    have ready (r : Int) := readyRow_sampledHead_iff (h := h) (s := s) (r := r)
    dsimp only
    refine ⟨_, event, by rw [pump_job, frameJudged_job], fun g other => by rw [pump_heads, frameJudged_heads_ne h s other], ?_⟩
    rw [pump_heads, frameJudged_head, halves, slots, window]
    refine ⟨fun half block hblock => ⟨fun i own => ?_, fun i => sampled.mem_remaining hblock, sampled.nodup_remaining half,
        sampled.urgent_iff hblock⟩,
      fun starting all => ?_, fun starting missing => ?_, fun blanked => ?_, fun scanning all => ?_,
      fun rows scanning distinct told some => ?_, fun scans => ?_⟩
    · exact sampled.slot_eq hblock own
    · have none : missingRows s (sampledHead h s) = 0 := missingRows_eq_zero fun r visible => (ready r).mpr (all r visible)
      exact ⟨by rw [judged_state_of_starting starting, if_pos none], judged_degraded_of_starting starting,
        pump_link_congr ((link_of_starting starting).trans (if_pos none))⟩
    · obtain ⟨r, visible, unready⟩ := missing
      have some : missingRows s (sampledHead h s) ≠ 0 := missingRows_ne_zero ⟨r, visible, mt (ready r).mp unready⟩
      have head : judgedFrameHead h s = sampledHead h s := by rw [judged_of_starting starting, if_neg some]
      exact ⟨by rw [head, sampledHead_state, starting], by rw [head, sampledHead_degraded], by rw [head, sampledHead_frame],
        pump_link_congr ((link_of_starting starting).trans (if_neg some))⟩
    · have head := judged_of_blanked blanked
      exact ⟨by rw [head, sampledHead_degraded], by rw [head, sampledHead_frame], pump_link_congr (link_of_blanked blanked)⟩
    · have none : missingRows s (sampledHead h s) = 0 := missingRows_eq_zero fun r visible => (ready r).mpr (all r visible)
      exact ⟨by rw [judged_degraded_of_running scanning, none]; rfl, pump_link_congr ((link_of_running scanning).trans (if_pos none))⟩
    · have number : missingRows s (sampledHead h s) = rows.length :=
        missingRows_eq_length distinct fun r => (told r).trans (and_congr_right fun _ => not_congr (ready r).symm)
      have missing : missingRows s (sampledHead h s) ≠ 0 := by
        rw [number]
        exact mt List.length_eq_zero_iff.mp some
      refine ⟨by rw [judged_degraded_of_running scanning, decide_eq_true missing], pump_link_congr ?_⟩
      rw [← number]
      exact (link_of_running scanning).trans (if_neg missing)
    · refine ⟨_, judged_frame states scans, ?_, fun r slot => ?_⟩
      · rw [← sampledHead_geometry h s]
        rfl
      · refine mem_readyRows.trans ?_
        rw [ready, sampledHead_bias]
        exact Iff.rfl
  · exact frameStart_without_job running idle going event

end Sys2Proof.Machine
end

section
/-! The first report of a controller, or of another kind, on a port (R94 to R97, R99, R100, R111, R172). -/

namespace Sys2Proof.Machine

/-! ### A change of a port, and what does not depend on it -/

section
variable (s : State) (n : Fin 6) (f : Port → Port)

theorem raise_modPort (notice : Notice) : raise notice (s.modPort n f) = (raise notice s).modPort n f := by
  obtain ⟨room, h⟩ | ⟨full, h⟩ := raise_eq notice s
  · rw [h]
    exact if_pos (c := (s.modPort n f).link.notices.length < Config.noticeQueueSize) room
  · rw [h]
    exact if_neg (c := (s.modPort n f).link.notices.length < Config.noticeQueueSize) (Nat.not_lt.mpr full)

theorem stateChanged_modPort (new : ScrollState) (c : ScrollCause) :
    stateChanged new c (s.modPort n f) = (stateChanged new c s).modPort n f := by
  unfold stateChanged
  rw [modPort_scroll]
  split
  · rfl
  · rw [← raise_modPort]
    rfl

/-- The loss of a hold concerns the holder and the scroll, and no port's record (R85, R111). -/
theorem controlLost_modPort (m : Fin 6) : controlLost m (s.modPort n f) = (controlLost m s).modPort n f := by
  unfold controlLost
  rw [modPort_hub_holder, modPort_scroll]
  split
  · have raised := raise_modPort { s with hub := { s.hub with holder := none, releaseTimer := none } } n f
      (.authority none (some m) .controlLost)
    dsimp only
    split
    · rw [← stateChanged_modPort, ← raised]
      rfl
    · exact raised
  · rfl

end

/-! ### A first report -/

/-- Whether a value, with no key newly down, is one of rest (R100). -/
def RestValue (dead : Nat) : PortValue → Prop
  | .deflection _ m => m ≤ dead
  | .detents c => c = 0
  | .none => True

/-- At its first report no key of a port counts as newly down: the rest is judged by the value alone (R96, R100). -/
theorem atRest_first_iff (r : ControlReport) (reverse : Bool) (dead : Nat) :
    atRest r.kind (decodeValue r reverse) dead 0 = true ↔ RestValue dead (valueGiven r reverse) := by
  have quiet : anyActionKey 0 = false := rfl
  rw [decodeValue_eq, valueGiven]
  cases r.kind with
  | lever => exact decide_eq_true_iff
  | pedal => exact decide_eq_true_iff
  | wheel => rw [atRest, quiet, Bool.not_false, Bool.and_true]; exact decide_eq_true_iff
  | keypad => rw [atRest, quiet]; exact iff_of_true rfl trivial

/-- The record of a port after a first report: its baseline, with must-rest unless it is at rest (R96 to R100). -/
def firstReport (r : ControlReport) (x : Port) : Port :=
  { x with
    state := .live, kind := some r.kind, value := decodeValue r x.reverse, keys := r.keys, timer := some 0, armedTimeout := x.timeout
    mustRest := !atRest r.kind (decodeValue r x.reverse) x.dead 0
    refused := !atRest r.kind (decodeValue r x.reverse) x.dead 0 && x.refused }

theorem firstReport_of_rest {r : ControlReport} {x : Port} (rest : RestValue x.dead (valueGiven r x.reverse)) :
    (firstReport r x).mustRest = false ∧ (firstReport r x).refused = false := by
  rw [firstReport, (atRest_first_iff r x.reverse x.dead).mpr rest]
  exact ⟨rfl, rfl⟩

theorem firstReport_of_away {r : ControlReport} {x : Port} (away : ¬ RestValue x.dead (valueGiven r x.reverse)) :
    (firstReport r x).mustRest = true ∧ (firstReport r x).refused = x.refused := by
  rw [firstReport, Bool.eq_false_iff.mpr (mt (atRest_first_iff r x.reverse x.dead).mp away)]
  exact ⟨rfl, rfl⟩

/-- A first report notes its baseline: its keys do not act, and it makes no request (R96, R99). -/
theorem takeReport_first {n : Fin 6} {s : State} (r : ControlReport) (other : NotHolder n s) :
    takeReport n r true ((s.modPort n fun x => { x with state := .live, mustRest := true }).modPort n Port.restartTimer) =
      s.modPort n (firstReport r) := by
  unfold takeReport
  simp only [modPort_modPort, modPort_hub_ports, upd_get_self, Port.restartTimer, if_true]
  cases rest : atRest r.kind (decodeValue r s.hub.ports[n].reverse) s.hub.ports[n].dead 0
  all_goals
    simp only [if_true, if_false, Bool.false_eq_true]
    rw [holderTiming_of_other _ (by exact other), modPort_modPort]
    exact modPort_congr (by simp only [firstReport, rest, Bool.not_true, Bool.not_false, Bool.true_and, Bool.false_and])

/-- A report on a port that it finds EMPTY or STALE is a first one, and the port goes LIVE (R96, R97, R99). -/
theorem validReport_first {n : Fin 6} {r : ControlReport} {s t : State} (on : s.hub.ports[n].state ≠ .off)
    (found : foundPort n r.kind s = t) (first : t.hub.ports[n].state ≠ .live) (other : NotHolder n t) :
    validReport n r s = raise (.portState n .live t.hub.ports[n].state (some r.kind)) (t.modPort n (firstReport r)) := by
  subst found
  rw [validReport, if_neg on, enterReport_eq, if_neg first, goLive, raise_modPort]
  exact (takeReport_first r fun h hh => other h (by simpa using hh)).trans (raise_modPort ..).symm

/-- The record of a port that has gone STALE (R97). -/
def Port.silenced (x : Port) : Port := { x with state := .stale, timer := none, refused := false }

/-- A report of another kind on a LIVE port makes it STALE, and a hold there is lost (R97, R99, R111). -/
theorem foundPort_of_other_kind {n : Fin 6} {kind : ControllerKind} {s : State} (live : s.hub.ports[n].state = .live)
    (changed : s.hub.ports[n].kind ≠ some kind) :
    foundPort n kind s = (controlLost n (raise (.portState n .stale .live s.hub.ports[n].kind) s)).modPort n
      Port.silenced := by
  rw [foundPort, if_pos ⟨live, changed⟩, goStale_eq, live, raise_modPort, controlLost_modPort]
  rfl

/-- Settles O53: the report's bytes are that report, and a first one, on the port as it finds it, notes its baseline. -/
theorem firstReportIsABaseline : Obligations.FirstReportIsABaseline := by
  intro n r s running ok raw hunting
  dsimp only
  have event : exec (.controllerReport n (reportFrame r)) s = .next (pump (validReport n r s)) := by
    rw [← receive_reportFrame hunting raw]
    exact live_running (fun s => (reportFrame r).foldl (receivePortByte n) s) s running
  refine ⟨fun off => ?_, fun quiet => ?_, fun live changed => ?_⟩
  · rw [event, validReport, if_pos off]
  · have dead : s.hub.ports[n].state ≠ .live := by rcases quiet with is | is <;> rw [is] <;> nofun
    have on : s.hub.ports[n].state ≠ .off := by rcases quiet with is | is <;> rw [is] <;> nofun
    have first := validReport_first (r := r) on (if_neg fun changed => dead changed.1) dead (ok.notHolder dead)
    exact ⟨_, firstReport r s.hub.ports[n], by rw [event, first]; rfl, (upd_get s.hub.ports n · (firstReport r)),
      by rw [← decodeValue_eq]; rfl, firstReport_of_rest, firstReport_of_away⟩
  · have found := foundPort_of_other_kind live changed
    have stale : (foundPort n r.kind s).hub.ports[n].state = .stale := by rw [found, modPort_hub_ports, upd_get_self]; rfl
    have silent : AuthorityInv (foundPort n r.kind s) := by
      rw [foundPort, if_pos ⟨live, changed⟩]
      exact ok.goStale n
    have first := validReport_first (r := r) (by rw [live]; nofun) rfl (by rw [stale]; nofun)
      (silent.notHolder (by rw [stale]; nofun))
    have ports : (controlLost n (raise (.portState n .stale .live s.hub.ports[n].kind) s)).hub.ports = s.hub.ports := by
      rw [controlLost_ports, raise_hub]
    rw [stale, found, modPort_modPort] at first
    refine ⟨_, firstReport r s.hub.ports[n].silenced, by rw [event, first]; rfl, fun m => ?_, ?_, fun must rest => ?_, fun away => ?_⟩
    · rw [upd_get, ports]
    · rw [← decodeValue_eq, firstReport, Port.silenced, Bool.and_false]
    · rw [(firstReport_of_rest (x := s.hub.ports[n].silenced) rest).1] at must
      cases must
    · exact (firstReport_of_away (x := s.hub.ports[n].silenced) away).1

end Sys2Proof.Machine
end

section
/-! Bytes that are no frame, on the link and on a port (R94, R159, R172). -/

namespace Sys2Proof.Machine

/-! ### The link's receiver -/

/-- The link with its receiver in a given state. -/
def linkReceiver (x : Receiver) (s : State) : State := { s with link := { s.link with receiver := x } }

theorem linkReceiver_self {x : Receiver} {s : State} (h : s.link.receiver = x) : linkReceiver x s = s := by
  subst h
  rfl

/-- A byte that completes no frame is noted in the receiver alone (R159). -/
theorem receiveByte_of_none {x y : Receiver} {b : Byte} (s : State) (h : linkByte x b = (y, none)) :
    receiveByte (linkReceiver x s) b = linkReceiver y s := by
  unfold receiveByte
  have receiver : (linkReceiver x s).link.receiver = x := rfl
  rw [receiver, h]
  rfl

/-- The start byte begins a frame (R159). -/
theorem receiveByte_start (s : State) : receiveByte (linkReceiver .hunting s) 0xC3 = linkReceiver (.inFrame [] 0) s :=
  receiveByte_of_none s rfl

/-- In HUNTING every byte but the start byte is ignored (R159). -/
theorem receive_without_start (s : State) {bytes : List Byte} (h : (0xC3 : Byte) ∉ bytes) :
    bytes.foldl receiveByte (linkReceiver .hunting s) = linkReceiver .hunting s := by
  induction bytes with
  | nil => rfl
  | cons b rest ih =>
    obtain ⟨other, rest⟩ := not_or.mp (mt List.mem_cons.mpr h)
    have ignored : linkByte .hunting b = (.hunting, none) := if_neg (Ne.symm other)
    rw [List.foldl_cons, receiveByte_of_none s ignored, ih rest]

/-- A LEN byte that no frame has discards the frame (R159). -/
theorem linkByte_bad_len {len : Byte} (bad : len.toNat < 2 ∨ 220 < len.toNat) :
    linkByte (.inFrame [] 0) len = (.hunting, none) := if_pos bad

/-- The bytes of a frame, before its last, join it (R159). -/
theorem receive_payload (s : State) {len : Byte} (good : ¬ (len.toNat < 2 ∨ 220 < len.toNat)) (rest got : List Byte)
    (short : got.length + rest.length ≤ len.toNat) :
    rest.foldl receiveByte (linkReceiver (.inFrame (len :: got) 0) s) = linkReceiver (.inFrame (len :: (got ++ rest)) 0) s := by
  induction rest generalizing got with
  | nil => rw [List.append_nil]; rfl
  | cons b rest ih =>
    have joined : linkByte (.inFrame (len :: got) 0) b = (.inFrame (len :: (got ++ [b])) 0, none) := by
      refine (if_neg good).trans (if_neg ?_)
      rw [List.length_cons] at short
      simp only [lenOf, List.cons_append, List.length_cons, List.length_append, List.length_nil]
      omega
    rw [List.foldl_cons, receiveByte_of_none s joined, ih _ (by simpa [Nat.add_assoc, Nat.add_comm 1] using short), List.append_assoc]
    rfl

/-- The last byte of a frame whose CHECK fails (R159). -/
theorem linkByte_bad_check {len check : Byte} {payload : List Byte} (good : ¬ (len.toNat < 2 ∨ 220 < len.toNat))
    (whole : payload.length = len.toNat) (bad : len + payload.sum + check ≠ 0) :
    linkByte (.inFrame (len :: payload) 0) check = (.hunting, none) := by
  have sum : (len :: payload ++ [check]).sum ≠ 0 := by simpa [add_assoc] using bad
  refine (if_neg good).trans ((if_pos ?_).trans (by rw [if_neg sum]))
  simp [lenOf, whole]

/-- On the link: bytes without a start byte, a LEN that no frame has, a CHECK that fails (R159). -/
theorem bad_link_frame {s : State} (running : s.resetHeld = false) (hunting : s.link.receiver = .hunting) :
    (∀ bytes : List Byte, (0xC3 : Byte) ∉ bytes → exec (.linkFrame bytes) s = .next s)
    ∧ (∀ len : Byte, (len.toNat < 2 ∨ 220 < len.toNat) → exec (.linkFrame [0xC3, len]) s = .next s)
    ∧ (∀ (payload : List Byte) (check : Byte), 2 ≤ payload.length → payload.length ≤ 220 →
        BitVec.ofNat 8 payload.length + payload.sum + check ≠ 0 →
        exec (.linkFrame (0xC3 :: BitVec.ofNat 8 payload.length :: payload ++ [check])) s = .next s) := by
  have self : linkReceiver .hunting s = s := linkReceiver_self hunting
  have event {bytes : List Byte} (h : bytes.foldl receiveByte (linkReceiver .hunting s) = linkReceiver .hunting s) :
      exec (.linkFrame bytes) s = .next s := by
    rw [self] at h
    exact (if_neg (by simp [running])).trans (congrArg Host.Outcome.next h)
  refine ⟨fun bytes h => event (receive_without_start s h), fun len bad => event ?_, fun payload check low high bad => event ?_⟩
  · rw [List.foldl_cons, receiveByte_start]
    exact receiveByte_of_none s (linkByte_bad_len bad)
  · have len : (BitVec.ofNat 8 payload.length : Byte).toNat = payload.length := by
      rw [BitVec.toNat_ofNat]
      omega
    have good : ¬ ((BitVec.ofNat 8 payload.length : Byte).toNat < 2 ∨ 220 < (BitVec.ofNat 8 payload.length : Byte).toNat) := by
      omega
    have announced : linkByte (.inFrame [] 0) (BitVec.ofNat 8 payload.length) = (.inFrame [BitVec.ofNat 8 payload.length] 0, none) :=
      (if_neg good).trans (if_neg (by simp [lenOf]))
    rw [List.cons_append, List.cons_append, List.foldl_cons, receiveByte_start, List.foldl_cons, receiveByte_of_none s announced,
      List.foldl_append, receive_payload s good payload [] (by simp [len])]
    exact receiveByte_of_none s (linkByte_bad_check good len.symm bad)

/-! ### A port's receiver -/

/-- In HUNTING every byte but the start byte is ignored (R94). -/
theorem receive_port_without_start (n : Fin 6) (s : State) {bytes : List Byte} (h : (0xA5 : Byte) ∉ bytes) :
    bytes.foldl (receivePortByte n) (withReceiver n .hunting s) = withReceiver n .hunting s := by
  induction bytes with
  | nil => rfl
  | cons b rest ih =>
    obtain ⟨other, rest⟩ := not_or.mp (mt List.mem_cons.mpr h)
    have ignored : portByte .hunting b = (.hunting, none) := if_neg (Ne.symm other)
    rw [List.foldl_cons, receive_byte n s ignored, ih rest]

theorem receive_port_start (n : Fin 6) (s : State) :
    receivePortByte n (withReceiver n .hunting s) 0xA5 = withReceiver n (.inFrame [] 0) s := receive_byte n s rfl

/-- A kind outside the four, or a length that is not its kind's (R94, R172). -/
theorem badAnnouncement_of_other {len kind : Byte} (valued : ¬ (len = 4 ∧ (kind = 1 ∨ kind = 2 ∨ kind = 3)))
    (keypad : ¬ (len = 3 ∧ kind = 4)) : badAnnouncement [len, kind] = true := by
  cases h : kindOfCode kind with
  | none => simp only [badAnnouncement, h]
  | some k =>
    simp only [badAnnouncement, h, decide_eq_true_eq]
    unfold kindOfCode at h
    split at h <;> cases h <;> simp only [ControllerKind.len] <;> bv_omega

/-- A byte after which the bytes so far announce no report discards the frame (R94). -/
theorem portByte_of_bad {got : List Byte} {b : Byte} (bad : badAnnouncement (got ++ [b]) = true) (gap : Nat) :
    portByte (.inFrame got gap) b = (.hunting, none) := if_pos bad

/-- The last byte of a frame that is no report (R94). -/
theorem portByte_of_no_report {got : List Byte} {b : Byte} (good : badAnnouncement (got ++ [b]) = false)
    (whole : 2 ≤ (got ++ [b]).length ∧ (got ++ [b]).length = lenOf (got ++ [b]) + 2)
    (unread : parseReport (got ++ [b]) = none) (gap : Nat) : portByte (.inFrame got gap) b = (.hunting, none) := by
  rw [portByte, good, ← unread]
  exact if_pos whole

/-- The first byte after the start byte is awaited whatever it is (R94). -/
theorem receive_port_len (n : Fin 6) (s : State) (len : Byte) :
    receivePortByte n (withReceiver n (.inFrame [] 0) s) len = withReceiver n (.inFrame [len] 0) s :=
  receive_byte n s (portByte_more rfl (by simp) 0)

/-- The fields of a frame whose kind and length agree join it (R94). -/
theorem receive_port_fields (n : Fin 6) (s : State) {len kind : Byte} (good : badAnnouncement [len, kind] = false)
    (rest got : List Byte) (short : got.length + rest.length < len.toNat) :
    rest.foldl (receivePortByte n) (withReceiver n (.inFrame (len :: kind :: got) 0) s)
      = withReceiver n (.inFrame (len :: kind :: (got ++ rest)) 0) s := by
  induction rest generalizing got with
  | nil => rw [List.append_nil]; rfl
  | cons b rest ih =>
    have joined : portByte (.inFrame (len :: kind :: got) 0) b = (.inFrame (len :: kind :: (got ++ [b])) 0, none) := by
      refine portByte_more good ?_ 0
      rw [List.length_cons] at short
      simp only [lenOf, List.cons_append, List.length_cons, List.length_append, List.length_nil]
      omega
    rw [List.foldl_cons, receive_byte n s joined, ih _ (by simpa [Nat.add_assoc, Nat.add_comm 1] using short), List.append_assoc]
    rfl

/-- A frame whose kind and length agree, and whose bytes are no report, is discarded (R94). -/
theorem receive_port_no_report (n : Fin 6) (s : State) {len kind check : Byte} {fields : List Byte}
    (good : badAnnouncement [len, kind] = false) (whole : fields.length + 1 = len.toNat)
    (unread : parseReport (len :: kind :: fields ++ [check]) = none) :
    (0xA5 :: len :: kind :: fields ++ [check]).foldl (receivePortByte n) (withReceiver n .hunting s) = withReceiver n .hunting s := by
  have announced : portByte (.inFrame [len] 0) kind = (.inFrame [len, kind] 0, none) :=
    portByte_more good (by simp only [lenOf, List.cons_append, List.nil_append, List.length_cons, List.length_nil]; omega) 0
  rw [List.cons_append, List.cons_append, List.cons_append, List.foldl_cons, receive_port_start, List.foldl_cons, receive_port_len,
    List.foldl_cons, receive_byte n s announced, List.foldl_append, receive_port_fields n s good fields [] (by simp; omega)]
  exact receive_byte n s (portByte_of_no_report good ⟨by simp, by simp [lenOf, ← whole]⟩ unread 0)

/-- On a port: bytes without a start byte, a kind or a length that no report has, a CHECK that fails (R94, R172). -/
theorem bad_port_frame {n : Fin 6} {s : State} (running : s.resetHeld = false) (hunting : s.hub.ports[n].receiver = .hunting) :
    (∀ bytes : List Byte, (0xA5 : Byte) ∉ bytes → exec (.controllerReport n bytes) s = .next (pump s))
    ∧ (∀ len kind : Byte, ¬ (len = 4 ∧ (kind = 1 ∨ kind = 2 ∨ kind = 3)) → ¬ (len = 3 ∧ kind = 4) →
      exec (.controllerReport n [0xA5, len, kind]) s = .next (pump s))
    ∧ (∀ kind raw k0 k1 check : Byte, (kind = 1 ∨ kind = 2 ∨ kind = 3) → 4 + kind + raw + k0 + k1 + check ≠ 0 →
      exec (.controllerReport n [0xA5, 4, kind, raw, k0, k1, check]) s = .next (pump s))
    ∧ (∀ k0 k1 check : Byte, 3 + 4 + k0 + k1 + check ≠ 0 →
      exec (.controllerReport n [0xA5, 3, 4, k0, k1, check]) s = .next (pump s)) := by
  have self : withReceiver n .hunting s = s := withReceiver_self hunting
  have event {bytes : List Byte} (h : bytes.foldl (receivePortByte n) (withReceiver n .hunting s) = withReceiver n .hunting s) :
      exec (.controllerReport n bytes) s = .next (pump s) := by
    rw [self] at h
    refine (live_running (fun s => bytes.foldl (receivePortByte n) s) s running).trans ?_
    rw [h]
  refine ⟨fun bytes h => event (receive_port_without_start n s h), fun len kind valued keypad => event ?_,
    fun kind raw k0 k1 check valued bad => event ?_, fun k0 k1 check bad => event ?_⟩
  · rw [List.foldl_cons, receive_port_start, List.foldl_cons, receive_port_len]
    exact receive_byte n s (portByte_of_bad (badAnnouncement_of_other valued keypad) 0)
  · refine receive_port_no_report n s (fields := [raw, k0, k1]) ?_ rfl ?_
    · rcases valued with rfl | rfl | rfl <;> rfl
    · rcases valued with rfl | rfl | rfl <;> exact if_neg fun sum => bad sum.2
  · exact receive_port_no_report n s (fields := [k0, k1]) rfl rfl (if_neg fun sum => bad sum.2)

/-- Settles O11: on the link and on each port, a frame that is none leaves the receiver as it was. -/
theorem badFramesAreDiscarded : Obligations.BadFramesAreDiscarded := by
  intro s running
  have event (f : State → State) := live_running f s running
  exact ⟨bad_link_frame running, event dropFrame, event dropFrame, fun n => ⟨_, upd_entries s.hub.ports n _, event (portGap n)⟩,
    fun n => bad_port_frame running⟩

end Sys2Proof.Machine
end

section
/-! SET_PORT (R93, R97, R99, R113): what it stores, and what a change of enabled makes of the port, the authority and the scroll. -/

namespace Sys2Proof.Machine

/-! ### The settings of a port -/

/-- A port with the settings that SET_PORT's bytes give it (R113). -/
def settingsGiven (role : Byte) (timeout : Word16) (gain dead reverse : Byte) (step : Word16) (x : Port) : Port :=
  { x with
    role := if role = 0 then .operator else .presenter, timeout := timeout.toNat, gain := gain.toNat, dead := dead.toNat
    reverse := decide (reverse = 1), step := step.toNat }

/-- A port's record changed, the holder's role following its own (R113). -/
def portStored (n : Fin 6) (role : Role) (f : Port → Port) (s : State) : State := followRole n role (s.modPort n f)

theorem portStored_holder (n : Fin 6) (role : Role) (f : Port → Port) (s : State) :
    (portStored n role f s).hub.holder = s.hub.holder.map fun h => if h.port = n then { h with role := role } else h := rfl

theorem portStored_holds_iff {n i : Fin 6} {role : Role} {f : Port → Port} {s : State} :
    (∃ h ∈ (portStored n role f s).hub.holder, h.port = i) ↔ ∃ h ∈ s.hub.holder, h.port = i := by
  rw [portStored_holder]
  cases s.hub.holder with
  | none => simp
  | some h => by_cases own : h.port = n <;> simp [own]

/-- The role of a port that does not hold authority is nobody else's (R113). -/
theorem portStored_holder_of_other {n : Fin 6} {role : Role} {f : Port → Port} {s : State} (other : NotHolder n s) :
    (portStored n role f s).hub.holder = s.hub.holder := by
  rw [portStored_holder]
  cases holder : s.hub.holder with
  | none => rfl
  | some h => rw [Option.map_some, if_neg (other h holder)]

/-! ### A change of enabled -/

/-- What a change of enabled leaves of its port (R97, R99). -/
def enabledPort (enabled : Bool) (x : Port) : Port :=
  if enabled then
    if x.state = .off then
      { x with state := .empty, kind := none, value := .none, keys := 0, timer := none, mustRest := false, refused := false }
    else x
  else if x.state = .off then x
  else { x with state := .off, timer := none, mustRest := false, refused := false }

theorem portOff_eq (n : Fin 6) (s : State) :
    portOff n s = controlLost n (raise (.portState n .off s.hub.ports[n].state s.hub.ports[n].kind)
      (s.modPort n fun x => { x with state := .off, timer := none, mustRest := false, refused := false })) := loseControl_eq _ _

theorem setEnabled_ports (n : Fin 6) (enabled : Bool) (s : State) :
    (setEnabled n enabled s).hub.ports = upd s.hub.ports n (enabledPort enabled) := by
  have same (h : enabledPort enabled s.hub.ports[n] = s.hub.ports[n]) : s.hub.ports = upd s.hub.ports n (enabledPort enabled) :=
    (upd_id _ _ _ h).symm
  have changed {f : Port → Port} (h : f s.hub.ports[n] = enabledPort enabled s.hub.ports[n]) :
      upd s.hub.ports n f = upd s.hub.ports n (enabledPort enabled) := congrArg Hub.ports (congrArg State.hub (modPort_congr h))
  unfold setEnabled
  cases enabled <;> by_cases off : s.hub.ports[n].state = .off
  · simp only [off, Bool.false_eq_true, if_false, if_true]
    exact same (by simp only [enabledPort, off, Bool.false_eq_true, if_false, if_true])
  · simp only [off, Bool.false_eq_true, if_false, portOff_eq, controlLost_ports, raise_hub, modPort_hub_ports]
    exact changed (by simp only [enabledPort, off, Bool.false_eq_true, if_false])
  · simp only [off, if_true, portOn, raise_hub, modPort_hub_ports]
    exact changed (by simp only [enabledPort, off, if_true])
  · simp only [off, if_true, if_false]
    exact same (by simp only [enabledPort, off, if_true, if_false])

/-- A change of enabled that the port's state agrees with changes nothing (R97). -/
theorem setEnabled_of_agreed {n : Fin 6} {enabled : Bool} {s : State} (agreed : enabled = true ↔ s.hub.ports[n].state ≠ .off) :
    setEnabled n enabled s = s := by
  unfold setEnabled
  cases enabled with
  | true => rw [if_pos rfl, if_neg (agreed.mp rfl)]
  | false => rw [if_neg (by simp), if_pos (by simpa using agreed)]

theorem setEnabled_of_off {n : Fin 6} {s : State} (off : s.hub.ports[n].state = .off) : setEnabled n true s = portOn n s := by
  rw [setEnabled, if_pos rfl, if_pos off]

theorem setEnabled_of_on {n : Fin 6} {s : State} (on : s.hub.ports[n].state ≠ .off) : setEnabled n false s = portOff n s := by
  rw [setEnabled, if_neg (by simp), if_neg on]

theorem setEnabled_true_holder (n : Fin 6) (s : State) : (setEnabled n true s).hub.holder = s.hub.holder := by
  unfold setEnabled
  rw [if_pos rfl]
  split
  · rw [portOn, raise_hub, modPort_hub_holder]
  · rfl

/-! ### What a change of a port leaves as it is -/

/-- What neither a port's record nor the end of a hold bears on: all but the hub, the scroll state and the notices. -/
structure PortFrame (s t : State) : Prop where
  store : t.store = s.store
  edit : t.edit = s.edit
  layout : t.layout = s.layout
  cues : t.cues = s.cues
  heads : t.heads = s.heads
  job : t.job = s.job
  p : t.scroll.p = s.scroll.p
  v : t.scroll.v = s.scroll.v
  cruise : t.scroll.cruise = s.scroll.cruise
  replies : t.link.replies = s.link.replies
  restart : t.link.restart = s.link.restart

namespace PortFrame

theorem refl (s : State) : PortFrame s s := ⟨rfl, rfl, rfl, rfl, rfl, rfl, rfl, rfl, rfl, rfl, rfl⟩

theorem trans {s t u : State} (h : PortFrame s t) (h' : PortFrame t u) : PortFrame s u :=
  ⟨h'.store.trans h.store, h'.edit.trans h.edit, h'.layout.trans h.layout, h'.cues.trans h.cues, h'.heads.trans h.heads,
    h'.job.trans h.job, h'.p.trans h.p, h'.v.trans h.v, h'.cruise.trans h.cruise, h'.replies.trans h.replies,
    h'.restart.trans h.restart⟩

theorem withHub (s : State) (x : Hub) : PortFrame s { s with hub := x } := ⟨rfl, rfl, rfl, rfl, rfl, rfl, rfl, rfl, rfl, rfl, rfl⟩

theorem raise (n : Notice) (s : State) : PortFrame s (raise n s) := by constructor <;> simp

theorem setScrollState (new : ScrollState) (c : ScrollCause) (s : State) : PortFrame s (setScrollState new c s) := by
  constructor <;> simp

theorem loseControl (n : Fin 6) (s : State) : PortFrame s (loseControl n s) := by
  have released : PortFrame s (setHolder none none .controlLost s) := (withHub s _).trans (raise ..)
  unfold Machine.loseControl stopLost
  (repeat' split)
  · exact released.trans (setScrollState ..)
  · exact released
  · exact refl s

theorem setEnabled (n : Fin 6) (enabled : Bool) (s : State) : PortFrame s (setEnabled n enabled s) := by
  unfold Machine.setEnabled
  (repeat' split)
  · exact (withHub s _).trans (raise ..)
  · exact refl s
  · exact refl s
  · exact ((withHub s _).trans (raise ..)).trans (loseControl ..)

end PortFrame

/-! ### The end of a hold -/

theorem stateChanged_link_congr {s t : State} (new : ScrollState) (c : ScrollCause) (link : s.link = t.link) (scroll : s.scroll = t.scroll) :
    (stateChanged new c s).link = (stateChanged new c t).link := by
  unfold stateChanged
  rw [scroll]
  split
  · exact link
  · exact raise_link_congr _ _ _ link

theorem stateChanged_scroll (new : ScrollState) (c : ScrollCause) (s : State) :
    (stateChanged new c s).scroll = { s.scroll with state := new } := by
  unfold stateChanged
  split
  · next same => rw [← same]
  · rw [raise_scroll]

/-- A port put into OFF that does not hold authority: the hold and the scroll go on (R97, R99). -/
theorem portOff_of_other {n : Fin 6} {s : State} (other : NotHolder n s) :
    (portOff n s).hub.holder = s.hub.holder ∧ (portOff n s).hub.releaseTimer = s.hub.releaseTimer
    ∧ (portOff n s).scroll = s.scroll
    ∧ (portOff n s).link = (raise (.portState n .off s.hub.ports[n].state s.hub.ports[n].kind) s).link := by
  rw [portOff_eq, controlLost_of_other fun h hh => other h (by simpa using hh)]
  simp only [raise_hub, raise_scroll]
  exact ⟨rfl, rfl, rfl, raise_link_congr _ _ _ rfl⟩

/-- A holder's port put into OFF: authority is lost, and a MANUAL or CRUISE scroll stops (R85, R97, R99, R111). -/
theorem portOff_of_holder {n : Fin 6} {s : State} (holder : ∃ h ∈ s.hub.holder, h.port = n) :
    (portOff n s).hub.holder = none ∧ (portOff n s).hub.releaseTimer = none
    ∧ (portOff n s).scroll = (if s.scroll.state = .manual ∨ s.scroll.state = .cruise then { s.scroll with state := .stopped }
      else s.scroll)
    ∧ (portOff n s).link = ((fun u => if s.scroll.state = .manual ∨ s.scroll.state = .cruise then
        stateChanged .stopped .controlLost u else u) (raise (.authority none (some n) .controlLost)
          (raise (.portState n .off s.hub.ports[n].state s.hub.ports[n].kind) s))).link := by
  have told : (raise (.portState n .off s.hub.ports[n].state s.hub.ports[n].kind)
      (s.modPort n fun x => { x with state := .off, timer := none, mustRest := false, refused := false })).link
      = (raise (.portState n .off s.hub.ports[n].state s.hub.ports[n].kind) s).link := raise_link_congr _ _ _ rfl
  rw [portOff_eq, controlLost_of_holder (by simpa using holder)]
  simp only [raise_scroll, modPort_scroll]
  split
  · have hub (t : State) : (stateChanged .stopped .controlLost t).hub = t.hub := setScrollState_hub ..
    refine ⟨by rw [hub, raise_hub], by rw [hub, raise_hub], ?_, stateChanged_link_congr _ _ (raise_link_congr _ _ _ told) ?_⟩
    · simp only [stateChanged_scroll, raise_scroll]
    · simp only [raise_scroll]
  · exact ⟨by rw [raise_hub], by rw [raise_hub], by simp only [raise_scroll], raise_link_congr _ _ _ told⟩

/-! ### The command -/

/-- The ranges of SET_PORT's fields (R93, R113). -/
theorem portRanges_iff {port enabled role gain dead reverse : Byte} {timeout step : Word16} :
    portRanges port enabled role timeout gain dead reverse step = true ↔
      port.toNat < 6 ∧ enabled.toNat ≤ 1 ∧ role.toNat ≤ 1 ∧ (50 ≤ timeout.toNat ∧ timeout.toNat ≤ 1000)
        ∧ gain.toNat ≤ 128 ∧ dead.toNat ≤ 32 ∧ reverse.toNat ≤ 1 ∧ (1 ≤ step.toNat ∧ step.toNat ≤ 256) := by
  simp only [portRanges, yesNoOk, Bool.and_eq_true, inRange_iff, decide_eq_true_eq, Nat.zero_le, true_and, and_assoc]

/-- The record that SET_PORT leaves of its port (R93, R97, R99, R113). -/
theorem enabledPort_settingsGiven {enabled role gain dead reverse : Byte} {timeout step : Word16} (yesNo : enabled = 0 ∨ enabled = 1)
    (old : Port) :
    ∃ x, enabledPort (decide (enabled = 1)) (settingsGiven role timeout gain dead reverse step old) = x
      ∧ x.role = (if role = 0 then .operator else .presenter)
      ∧ x.timeout = timeout.toNat ∧ x.gain = gain.toNat ∧ x.dead = dead.toNat ∧ x.reverse = decide (reverse = 1)
      ∧ x.step = step.toNat ∧ x.armedTimeout = old.armedTimeout ∧ x.receiver = old.receiver
      ∧ (if enabled = 1 ∧ old.state = .off then
          x.state = .empty ∧ x.kind = none ∧ x.value = .none ∧ x.keys = 0 ∧ x.mustRest = false ∧ x.refused = false
        else if enabled = 0 ∧ old.state ≠ .off then
          x.state = .off ∧ x.timer = none ∧ x.kind = old.kind ∧ x.value = old.value ∧ x.mustRest = false ∧ x.refused = false
        else x.state = old.state ∧ x.kind = old.kind ∧ x.timer = old.timer ∧ x.value = old.value ∧ x.keys = old.keys
          ∧ x.mustRest = old.mustRest ∧ x.refused = old.refused) := by
  rcases yesNo with rfl | rfl <;> by_cases off : old.state = .off <;> simp [enabledPort, settingsGiven, off]

/-- A SET_PORT in range stores its settings, makes the change of enabled, and answers (R113). -/
theorem exec_setPort {port enabled role gain dead reverse : Byte} {timeout step : Word16} {n : Fin 6} {s : State} (seq : Byte)
    (ready : Ready s) (ranges : portRanges port enabled role timeout gain dead reverse step = true) (named : n.val = port.toNat) :
    exec (.setPort seq port enabled role timeout gain dead reverse step) s =
      .next (answered (okReply 0x4B seq .bare) (setEnabled n (decide (enabled = 1))
        (portStored n (if role = 0 then .operator else .presenter) (settingsGiven role timeout gain dead reverse step) s))) := by
  have index : Fin.ofNat 6 port.toNat = n := Fin.ext (by rw [← named]; exact Nat.mod_eq_of_lt n.isLt)
  refine exec_answer 0x0B ready (by simp [payloadOf, bytes16]) rfl rfl (PortFrame.setEnabled ..).restart ?_
  simp only [runCommand, cmdSetPort, if_pos ranges, index]
  rfl

/-- Settles O19: the settings stored, then the change of enabled by what the port was. -/
theorem setPortStoresTheSettings : Obligations.SetPortStoresTheSettings := by
  intro seq port enabled role timeout gain dead reverse step s ready
  dsimp only
  rw [← portRanges_iff]
  refine ⟨fun bad => exec_refuse 0x0B ready (by simp [payloadOf, bytes16]) rfl rfl (if_neg bad), fun ranges n named => ?_⟩
  refine ⟨_, exec_setPort seq ready ranges named, ?_⟩
  obtain ⟨-, low, -⟩ := portRanges_iff.mp ranges
  have yesNo : enabled = 0 ∨ enabled = 1 := by bv_omega
  obtain ⟨u, hu⟩ : ∃ u, u = portStored n (if role = 0 then .operator else .presenter)
    (settingsGiven role timeout gain dead reverse step) s := ⟨_, rfl⟩
  have ports : u.hub.ports = upd s.hub.ports n (settingsGiven role timeout gain dead reverse step) := by rw [hu]; rfl
  have state : u.hub.ports[n].state = s.hub.ports[n].state := by rw [ports, upd_get_self]; rfl
  have kind : u.hub.ports[n].kind = s.hub.ports[n].kind := by rw [ports, upd_get_self]; rfl
  have link : u.link = s.link := by rw [hu]; rfl
  have timer : u.hub.releaseTimer = s.hub.releaseTimer := by rw [hu]; rfl
  have scroll : u.scroll = s.scroll := by rw [hu]; rfl
  have frame : PortFrame s (setEnabled n (decide (enabled = 1)) u) := by
    rw [hu]
    exact (PortFrame.withHub s _).trans (.setEnabled ..)
  rw [← hu]
  refine ⟨by rw [answered_link_replies, frame.replies], ?_, fun m other => ?_, fun h hh own enable => ?_,
    ⟨frame.store, frame.edit, frame.layout, frame.cues, frame.heads, frame.job, frame.p, frame.v, frame.cruise⟩,
    fun enable off => ?_, fun agreed => ?_, fun disable on other => ?_, fun disable on holder => ?_⟩
  · rw [answered_hub, setEnabled_ports, upd_get_self, ports, upd_get_self]
    exact enabledPort_settingsGiven yesNo s.hub.ports[n]
  · rw [answered_hub, setEnabled_ports, upd_get_ne _ _ _ _ other, ports, upd_get_ne _ _ _ _ other]
  · rw [answered_hub, enable, decide_eq_true rfl, setEnabled_true_holder, hu, portStored_holder, Option.mem_def.mp hh,
      Option.map_some, if_pos own]
  · rw [enable, decide_eq_true rfl, setEnabled_of_off (state.trans off), portOn, state, off]
    exact answered_link_congr _ (raise_link_congr _ _ _ link)
  · rw [setEnabled_of_agreed (by rw [state, decide_eq_true_iff]; exact agreed)]
    exact answered_link_congr _ link
  · have apart : NotHolder n u := fun h hh own => by
      obtain ⟨x, hx, same⟩ := portStored_holds_iff.mp ⟨h, hu ▸ hh, own⟩
      exact other x hx same
    have holder : u.hub.holder = s.hub.holder := by rw [hu, portStored_holder_of_other other]
    have kept := portOff_of_other apart
    rw [disable, decide_eq_false (by decide), setEnabled_of_on (by rwa [state])]
    rw [holder, timer, scroll, state, kind] at kept
    obtain ⟨holder, timer, scroll, told⟩ := kept
    exact ⟨holder, timer, scroll, answered_link_congr _ (told.trans (raise_link_congr _ _ _ link))⟩
  · have lost := portOff_of_holder (n := n) (s := u) (by rw [hu]; exact portStored_holds_iff.mpr holder)
    rw [disable, decide_eq_false (by decide), setEnabled_of_on (by rwa [state])]
    rw [scroll, state, kind] at lost
    obtain ⟨holder, timer, stopped, told⟩ := lost
    refine ⟨holder, timer, stopped, answered_link_congr _ (told.trans ?_)⟩
    have released := raise_link_congr (.authority none (some n) .controlLost) _ _
      (raise_link_congr (.portState n .off s.hub.ports[n].state s.hub.ports[n].kind) u s link)
    dsimp only
    split
    · exact stateChanged_link_congr _ _ released (by simp only [raise_scroll, scroll])
    · exact released

end Sys2Proof.Machine
end

section
/-! CUE_DEFINE and OUTPUT_SET: the actions that a cue may hold, and what an operation does to the cue lines (R115, R116, R125 to R127). -/

namespace Sys2Proof.Machine

/-! ### One action -/

/-- The fields of an action lie in their ranges (R115, R116). -/
def ActionInRange (a : ActionField) : Prop :=
  a.kind = 1 ∨ a.kind = 2 ∨ (a.kind = 3 ∧ a.line.toNat < 8 ∧ 1 ≤ a.value.toNat ∧ a.value.toNat ≤ 255)
    ∨ ((a.kind = 4 ∨ a.kind = 5) ∧ a.line.toNat < 8)

section
variable {a : ActionField}

theorem actionOf_pause (kind : a.kind = 1) : actionOf a = some .pause := by
  unfold actionOf
  rw [kind]
  rfl

theorem actionOf_cruise (kind : a.kind = 2) : actionOf a = some (.cruise a.value.toInt) := by
  unfold actionOf
  rw [kind]
  rfl

theorem actionOf_pulse (kind : a.kind = 3) :
    actionOf a = if a.line.toNat < 8 ∧ 1 ≤ a.value.toNat ∧ a.value.toNat ≤ 255 then
      some (.pulse (Fin.ofNat 8 a.line.toNat) a.value.toNat) else none := by
  have ranges : (decide (a.line.toNat < 8) && inRange 1 255 a.value.toNat) = true
      ↔ a.line.toNat < 8 ∧ 1 ≤ a.value.toNat ∧ a.value.toNat ≤ 255 := by
    rw [Bool.and_eq_true, decide_eq_true_eq, inRange_iff]
  unfold actionOf
  rw [kind]
  exact if_congr ranges rfl rfl

theorem actionOf_set (kind : a.kind = 4) :
    actionOf a = if a.line.toNat < 8 then some (.set (Fin.ofNat 8 a.line.toNat)) else none := by
  unfold actionOf
  rw [kind]
  exact if_congr decide_eq_true_iff rfl rfl

theorem actionOf_clear (kind : a.kind = 5) :
    actionOf a = if a.line.toNat < 8 then some (.clear (Fin.ofNat 8 a.line.toNat)) else none := by
  unfold actionOf
  rw [kind]
  exact if_congr decide_eq_true_iff rfl rfl

/-- A kind outside the five gives no action (R115). -/
theorem actionOf_other (other : a.kind ∉ ([1, 2, 3, 4, 5] : List Byte)) : actionOf a = none := by
  simp only [List.mem_cons, List.not_mem_nil, or_false, not_or, ← BitVec.toNat_inj] at other
  obtain ⟨pause, cruise, pulse, set, clear⟩ := other
  unfold actionOf
  dsimp only
  split
  · next kind => exact absurd kind pause
  · next kind => exact absurd kind cruise
  · next kind => exact absurd kind pulse
  · next kind => exact absurd kind set
  · next kind => exact absurd kind clear
  · rfl

/-- The actions that have no meaning are those with a field outside its range (R115, R116). -/
theorem actionOf_eq_none_iff : actionOf a = none ↔ ¬ ActionInRange a := by
  by_cases known : a.kind ∈ ([1, 2, 3, 4, 5] : List Byte)
  · simp only [List.mem_cons, List.not_mem_nil, or_false] at known
    rcases known with kind | kind | kind | kind | kind
    · simp [ActionInRange, actionOf_pause kind, kind]
    · simp [ActionInRange, actionOf_cruise kind, kind]
    · simp [ActionInRange, actionOf_pulse kind, kind]
    · simp [ActionInRange, actionOf_set kind, kind]
    · simp [ActionInRange, actionOf_clear kind, kind]
  · refine iff_of_true (actionOf_other known) fun ok => known ?_
    rcases ok with kind | kind | ⟨kind, -⟩ | ⟨kind | kind, -⟩ <;> rw [kind] <;> decide

/-- What an action in its ranges gives, by its kind (R115). -/
theorem actionOf_of_inRange (ok : ActionInRange a) :
    (a.kind = 1 → actionOf a = some .pause) ∧ (a.kind = 2 → actionOf a = some (.cruise a.value.toInt))
    ∧ ∀ l : Fin 8, a.line.toNat = l.val →
      (a.kind = 3 → actionOf a = some (.pulse l a.value.toNat)) ∧ (a.kind = 4 → actionOf a = some (.set l))
      ∧ (a.kind = 5 → actionOf a = some (.clear l)) := by
  refine ⟨actionOf_pause, actionOf_cruise, fun l named => ?_⟩
  have line : Fin.ofNat 8 a.line.toNat = l := by rw [named]; exact Fin.ofNat_val_eq_self l
  have low : a.line.toNat < 8 := named ▸ l.isLt
  refine ⟨fun kind => ?_, fun kind => ?_, fun kind => ?_⟩
  · have ranges : a.line.toNat < 8 ∧ 1 ≤ a.value.toNat ∧ a.value.toNat ≤ 255 := by
      simpa [ActionInRange, kind] using ok
    rw [actionOf_pulse kind, if_pos ranges, line]
  · rw [actionOf_set kind, if_pos low, line]
  · rw [actionOf_clear kind, if_pos low, line]

end

/-! ### A list of actions -/

theorem actionsOf_cons (a : ActionField) (rest : List ActionField) :
    actionsOf (a :: rest) = (actionOf a).bind fun x => (actionsOf rest).map (x :: ·) := by
  rw [actionsOf]
  cases actionOf a <;> cases actionsOf rest <;> rfl

/-- A list of actions is refused where one of them is (R116). -/
theorem actionsOf_eq_none_iff {fields : List ActionField} : actionsOf fields = none ↔ ∃ a ∈ fields, actionOf a = none := by
  induction fields with
  | nil => simp [actionsOf]
  | cons a rest ih =>
    rw [List.exists_mem_cons_iff, ← ih, actionsOf_cons]
    cases actionOf a <;> simp

/-- A list of actions that is accepted holds the action of each entry in its place (R116). -/
theorem forall₂_of_actionsOf {fields : List ActionField} {actions : List CueAction} (h : actionsOf fields = some actions) :
    List.Forall₂ (fun a x => actionOf a = some x) fields actions := by
  induction fields generalizing actions with
  | nil =>
    cases h
    exact .nil
  | cons a rest ih =>
    rw [actionsOf_cons] at h
    obtain ⟨x, hx, h⟩ := Option.bind_eq_some_iff.mp h
    obtain ⟨xs, hxs, rfl⟩ := Option.map_eq_some_iff.mp h
    exact .cons hx (ih hxs)

theorem getElem?_of_actionsOf {fields : List ActionField} {actions : List CueAction} (h : actionsOf fields = some actions)
    {k : Nat} {a : ActionField} (at_k : fields[k]? = some a) : actions[k]? = actionOf a := by
  obtain ⟨inside, rfl⟩ := List.getElem?_eq_some_iff.mp at_k
  have each := forall₂_of_actionsOf h
  have inside' : k < actions.length := each.length_eq ▸ inside
  rw [List.getElem?_eq_getElem inside']
  exact (each.get inside inside').symm

/-! ### CUE_DEFINE -/

/-- The checks of CUE_DEFINE that do not look at the actions (R116). -/
theorem cueRanges_iff {cue : Byte} {fields : List ActionField} :
    (inRange 1 64 cue.toNat && decide (fields.length ≤ 4)) = true ↔ (1 ≤ cue.toNat ∧ cue.toNat ≤ 64) ∧ fields.length ≤ 4 := by
  rw [Bool.and_eq_true, inRange_iff, decide_eq_true_eq]

/-- The most actions that CUE_DEFINE can carry fit a payload (R170). -/
theorem length_payloadOf_cueDefine_le {seq cue : Byte} {fields : List ActionField} (few : fields.length ≤ 54) :
    (payloadOf (.cueDefine seq cue fields)).length ≤ 220 := by
  have := Laws.length_flatMap_bytesAction fields
  simp only [payloadOf, List.length_append, List.length_cons, List.length_nil]
  omega

/-- CUE_DEFINE refuses where its cue, its count or one of its actions is outside its range (R116). -/
theorem cmdCueDefine_of_bad {seq cue : Byte} {fields : List ActionField} {s : State}
    (bad : cue = 0 ∨ 64 < cue.toNat ∨ 4 < fields.length ∨ ∃ a ∈ fields, ¬ ActionInRange a) :
    cmdCueDefine seq cue fields s = refuse 0x28 seq .badValue s := by
  unfold cmdCueDefine
  split
  · next ranges =>
    obtain ⟨⟨low, high⟩, few⟩ := cueRanges_iff.mp ranges
    have none : actionsOf fields = none := by
      rw [actionsOf_eq_none_iff]
      rcases bad with rfl | above | many | ⟨a, mem, out⟩
      · simp at low
      · omega
      · omega
      · exact ⟨a, mem, actionOf_eq_none_iff.mpr out⟩
    rw [none]
  · rfl

/-- CUE_DEFINE in its ranges replaces the entry of its cue (R116). -/
theorem cmdCueDefine_of_actions {seq cue : Byte} {fields : List ActionField} {actions : List CueAction} {c : Fin 64} (s : State)
    (named : cue.toNat = c.val + 1) (few : fields.length ≤ 4) (accepted : actionsOf fields = some actions) :
    cmdCueDefine seq cue fields s =
      reply 0x28 seq .ok .bare { s with cues := { s.cues with defs := upd s.cues.defs c fun _ => actions } } := by
  have entry : Fin.ofNat 64 (cue.toNat - 1) = c := by rw [named]; exact Fin.ofNat_val_eq_self c
  rw [cmdCueDefine, if_pos (cueRanges_iff.mpr (by omega)), accepted, entry]

/-- Settles O45: a field outside its range refuses the whole, and else the entry is the list of the actions. -/
theorem cueDefineReplacesTheEntry : Obligations.CueDefineReplacesTheEntry := by
  intro seq cue fields s ready sent
  have length : (payloadOf (.cueDefine seq cue fields)).length ≤ 220 := length_payloadOf_cueDefine_le sent
  refine ⟨fun bad => exec_refuse 0x28 ready length rfl rfl (cmdCueDefine_of_bad bad), fun c named few ok => ?_⟩
  obtain ⟨actions, accepted⟩ : ∃ actions, actionsOf fields = some actions := by
    refine Option.ne_none_iff_exists'.mp fun none => ?_
    obtain ⟨a, mem, out⟩ := actionsOf_eq_none_iff.mp none
    exact actionOf_eq_none_iff.mp out (ok a mem)
  refine ⟨upd s.cues.defs c fun _ => actions, actions, ?_, fun i => upd_get .., ?_, fun k a at_k => ?_⟩
  · exact exec_answer 0x28 ready length rfl rfl (by rfl) (cmdCueDefine_of_actions s named few accepted)
  · exact (forall₂_of_actionsOf accepted).length_eq.symm
  · rw [getElem?_of_actionsOf accepted at_k]
    exact actionOf_of_inRange (ok a (List.mem_of_getElem? at_k))

/-! ### OUTPUT_SET -/

/-- Each line of the mask takes the operation, and no other line changes (R127). -/
theorem operateLines_get (mask : Byte) (operation ms : Nat) (lines : Vector CueLine 8) (l : Fin 8) :
    (operateLines mask operation ms lines)[l] =
      if mask.getLsbD l.val = true then lineOperation operation ms lines[l] else lines[l] := by
  have step : (fun (v : Vector CueLine 8) (i : Fin 8) => if mask.getLsbD i.val then upd v i (lineOperation operation ms) else v)
      = fun v i => upd v i fun x => if mask.getLsbD i.val = true then lineOperation operation ms x else x := by
    funext v i
    split
    · rfl
    · exact (upd_id v i _ rfl).symm
  rw [operateLines, step, foldl_upd_get (List.nodup_finRange 8), if_pos (List.mem_finRange l)]

/-- The operations of OUTPUT_SET on a line (R126, R127). -/
theorem lineOperation_eq {operation : Byte} (known : operation.toNat ≤ 2) (ms : Nat) (x : CueLine) :
    lineOperation operation.toNat ms x =
      if operation = 0 then ⟨true, x.pulse⟩ else if operation = 1 then ⟨false, 0⟩ else ⟨x.latch, ms⟩ := by
  have cases : operation = 0 ∨ operation = 1 ∨ operation = 2 := by bv_omega
  rcases cases with rfl | rfl | rfl <;> rfl

/-- A line is high exactly when it is latched or has pulse time (R125). -/
theorem level_iff (x : CueLine) : x.level = true ↔ x.latch = true ∨ 0 < x.pulse := by
  rw [CueLine.level, Bool.or_eq_true, decide_eq_true_eq]

/-- Settles O46: each line of the mask takes the operation. -/
theorem outputSetOperatesTheMaskedLines : Obligations.OutputSetOperatesTheMaskedLines := by
  intro seq mask operation duration s ready
  have length : (payloadOf (.outputSet seq mask operation duration)).length ≤ 220 := by simp [payloadOf]
  refine ⟨fun bad => exec_refuse 0x2A ready length rfl rfl (if_pos bad), fun known steps => ?_⟩
  have good : ¬ (2 < operation.toNat ∨ (operation = 2 ∧ duration = 0)) := by
    rintro (high | ⟨pulse, none⟩)
    · omega
    · exact steps pulse none
  refine ⟨operateLines mask operation.toNat (duration.toNat * 10) s.cues.lines,
    exec_answer 0x2A ready length rfl rfl (by rfl) (if_neg good), fun l => ⟨?_, level_iff _⟩⟩
  rw [operateLines_get, lineOperation_eq known]

end Sys2Proof.Machine
end

section
/-! A head that changes: its state with the notices, and the frame source decided afresh (R89, R131 to R135). -/

namespace Sys2Proof.Machine

/-- What a command makes of a head: the head changed by `f`, the frame source decided afresh, the link as `u` has it, and nothing else
(R89, R133). -/
structure HeadMoved (h : Fin 4) (f : Head → Head) (u s t : State) : Prop where
  head : HeadChanged h f s t
  frame : HeadFrame s t
  source : SourceRefreshed s t
  link : t.link = u.link

theorem headChanged_modHead (h : Fin 4) (f : Head → Head) (s : State) : HeadChanged h f s (s.modHead h f) :=
  ⟨upd_get_self .., fun _ other => upd_get_ne _ _ _ _ other⟩

/-- The source is given by which heads can serve, at what rate (R89). -/
theorem sourceGiven_of_serving {s t : State}
    (same : ∀ g : Fin 4, (t.heads[g]).state = (s.heads[g]).state ∧ (t.heads[g]).syncLost = (s.heads[g]).syncLost
      ∧ (t.heads[g]).geometry = (s.heads[g]).geometry) (src : FrameSource) : sourceGiven t src = sourceGiven s src := by
  unfold sourceGiven
  split
  · rfl
  · next n =>
    obtain ⟨state, lost, geometry⟩ := same n
    rw [state, lost, geometry]

/-- A head changed in what the source may hang on. -/
theorem headMoved_refreshSource (h : Fin 4) (f : Head → Head) (s : State) :
    HeadMoved h f s s (refreshSource (s.modHead h f)) where
  head := ⟨by rw [refreshSource_heads, modHead_heads, upd_get_self],
    fun _ other => by rw [refreshSource_heads, modHead_heads, upd_get_ne _ _ _ _ other]⟩
  frame := by simp [HeadFrame]
  source := sourceRefreshed_refreshSource rfl
  link := refreshSource_link _

/-- A head that enters a state, with its HEAD_STATE notice (R133). -/
theorem headMoved_setHeadState {h : Fin 4} {f : Head → Head} {s : State} (kept : (f s.heads[h]).state = (s.heads[h]).state)
    (new : HeadState) :
    HeadMoved h (fun x => { f x with state := new }) (raise (.headState h new (s.heads[h]).state) s) s
      (setHeadState h new (s.modHead h f)) := by
  have entered : setHeadState h new (s.modHead h f) = refreshSource (raise (.headState h new (s.heads[h]).state)
      (s.modHead h fun x => { f x with state := new })) := by
    rw [setHeadState, modHead_modHead, modHead_heads, upd_get_self, kept]
  rw [entered]
  refine ⟨⟨?_, fun g other => ?_⟩, ?_, sourceRefreshed_refreshSource (by simp), ?_⟩
  · rw [refreshSource_heads, raise_heads, modHead_heads, upd_get_self]
  · rw [refreshSource_heads, raise_heads, modHead_heads, upd_get_ne _ _ _ _ other]
  · simp [HeadFrame]
  · rw [refreshSource_link]
    exact raise_link_congr _ _ _ rfl

/-- A set degraded flag is cleared with HEAD_CLEAR (R142). -/
theorem HeadMoved.clearDegraded {h : Fin 4} {f : Head → Head} {u s t : State} (moved : HeadMoved h f u s t) :
    HeadMoved h (fun x => { f x with degraded := false })
      (if (f s.heads[h]).degraded = true then raise (.headClear h) u else u) s (clearDegraded h t) := by
  obtain ⟨⟨head, others⟩, frame, source, link⟩ := moved
  unfold Machine.clearDegraded
  rw [head]
  cases flag : (f s.heads[h]).degraded with
  | false =>
    refine ⟨⟨?_, others⟩, frame, source, link⟩
    rw [if_neg (by decide), head, ← flag]
  | true =>
    rw [if_pos rfl, if_pos rfl]
    have heads (g : Fin 4) : (raise (.headClear h) (t.modHead h fun x => { x with degraded := false })).heads[g]
        = if g = h then { t.heads[g] with degraded := false } else t.heads[g] := by
      rw [raise_heads, modHead_heads, upd_entries]
    refine ⟨⟨?_, fun g other => ?_⟩, ?_, ?_, ?_⟩
    · rw [heads, if_pos rfl, head]
    · rw [heads, if_neg other, others g other]
    · simpa [HeadFrame] using frame
    · unfold SourceRefreshed at source ⊢
      rw [sourceGiven_of_serving (s := t), raise_scroll]
      · exact source
      · intro g
        rw [heads]
        split <;> exact ⟨rfl, rfl, rfl⟩
    · exact raise_link_congr _ _ _ link

/-- The command's reply. -/
theorem HeadMoved.answered {h : Fin 4} {f : Head → Head} {u s t : State} (moved : HeadMoved h f u s t) (r : Reply) :
    HeadMoved h f (answered r u) s (answered r t) where
  head := moved.head
  frame := moved.frame
  source := moved.source.congr rfl rfl
  link := answered_link_congr r moved.link

/-- A change given in other words. -/
theorem HeadMoved.as {h : Fin 4} {f g : Head → Head} {u s t : State} (moved : HeadMoved h f u s t) (same : f s.heads[h] = g s.heads[h]) :
    HeadMoved h g u s t := by
  obtain ⟨⟨head, others⟩, frame, source, link⟩ := moved
  exact ⟨⟨head.trans same, others⟩, frame, source, link⟩

/-- The link after a head has entered `new`: HEAD_STATE, and HEAD_CLEAR where its degraded flag was set (R133, R142, log 17). -/
def headEntered (h : Fin 4) (new : HeadState) (s : State) : State :=
  if (s.heads[h]).degraded = true then raise (.headClear h) (raise (.headState h new (s.heads[h]).state) s)
  else raise (.headState h new (s.heads[h]).state) s

@[simp] theorem headEntered_restart (h : Fin 4) (new : HeadState) (s : State) : (headEntered h new s).link.restart = s.link.restart := by
  unfold headEntered; split <;> simp

theorem headMoved_clearDegraded_setHeadState {h : Fin 4} {f : Head → Head} {s : State}
    (state : (f s.heads[h]).state = (s.heads[h]).state) (degraded : (f s.heads[h]).degraded = (s.heads[h]).degraded)
    (new : HeadState) :
    HeadMoved h (fun x => { f x with state := new, degraded := false }) (headEntered h new s) s
      (clearDegraded h (setHeadState h new (s.modHead h f))) := by
  have moved := (headMoved_setHeadState state new).clearDegraded
  dsimp only at moved
  rw [degraded] at moved
  exact moved

/-- A head that gives up its requests and enters a state (R134, R135). -/
theorem headMoved_clearRequests (h : Fin 4) (new : HeadState) (s : State) :
    HeadMoved h (fun x => { x.clearRequests with state := new, degraded := false }) (headEntered h new s) s
      (clearDegraded h (setHeadState h new (s.modHead h Head.clearRequests))) :=
  headMoved_clearDegraded_setHeadState rfl rfl new

/-- A head as it enters DISABLED (R135, log 18). -/
def disabledHead (x : Head) : Head :=
  { x with
    state := .disabled, halves := Vector.replicate 2 ⟨none, [], false⟩, slots := Vector.replicate 32 .empty
    degraded := false, syncLost := false, syncTimer := none, frame := none
    appearance := x.pendingAppearance.getD x.appearance, pendingAppearance := none }

theorem disable_eq (x : Head) : x.disable =
    { x with
      halves := Vector.replicate 2 ⟨none, [], false⟩, slots := Vector.replicate 32 .empty
      syncLost := false, syncTimer := none, frame := none
      appearance := x.pendingAppearance.getD x.appearance, pendingAppearance := none } := by
  rw [Head.disable, takeAppearance_eq]
  rfl

/-- A head enters DISABLED (R135). -/
theorem headMoved_enterDisabled (h : Fin 4) (s : State) :
    HeadMoved h disabledHead (headEntered h .disabled s) s (enterDisabled h s) := by
  have moved : HeadMoved h _ _ s (enterDisabled h s) :=
    headMoved_clearDegraded_setHeadState (f := Head.disable) (by rw [disable_eq]) (by rw [disable_eq]) .disabled
  exact moved.as (by rw [disable_eq]; rfl)

theorem inRender_iff {h : Fin 4} {s : State} : inRender h s = true ↔ ∃ j ∈ s.job, j.head = h := by
  unfold inRender
  cases s.job <;> simp

/-- Only a head that is STARTING, RUNNING or BLANKED is stopped (R135). -/
theorem stopHead_of_off {h : Fin 4} {s : State} (off : (s.heads[h]).state = .disabled ∨ (s.heads[h]).state = .stopping) :
    stopHead h s = s := by
  unfold stopHead
  rcases off with off | off <;> rw [off]

/-- A head that is stopped waits for its row in render, and enters DISABLED at once without one (R135). -/
theorem stopHead_of_on {h : Fin 4} {s : State} (disabled : (s.heads[h]).state ≠ .disabled) (stopping : (s.heads[h]).state ≠ .stopping) :
    stopHead h s = if inRender h s then clearDegraded h (setHeadState h .stopping (s.modHead h Head.clearRequests))
      else enterDisabled h s := by
  unfold stopHead
  split
  · contradiction
  · contradiction
  all_goals rfl

end Sys2Proof.Machine
end

section
/-! The heads and the render job, by which the bands are judged (R137, R147, R156). Every operation of the hub, the cue unit, the scroll
controller and the link leaves both. -/

namespace Sys2Proof.Machine

/-- The heads and the render job. -/
def ring (s : State) : Vector Head 4 × Option Job := (s.heads, s.job)

theorem ring_congr {s t : State} (heads : t.heads = s.heads) (job : t.job = s.job) : ring t = ring s := by simp [ring, heads, job]

/-- Steps that each leave the ring leave it together. -/
theorem ring_foldl {α : Type} {f : State → α → State} (hf : ∀ s a, ring (f s a) = ring s) (l : List α) (s : State) :
    ring (l.foldl f s) = ring s :=
  List.foldlRecOn (motive := fun t => ring t = ring s) l f rfl fun t ht a _ => (hf t a).trans ht

/-! ### Records, notices, replies and the frame source -/

@[simp] theorem ring_modPort (s : State) (n : Fin 6) (f : Port → Port) : ring (s.modPort n f) = ring s := rfl
@[simp] theorem ring_setLoads (s : State) (l : List Load) : ring (s.setLoads l) = ring s := rfl
@[simp] theorem ring_setReleaseTimer (s : State) (t : Option Nat) : ring (s.setReleaseTimer t) = ring s := rfl
@[simp] theorem ring_portCruise (n : Fin 6) (x : Int) (s : State) : ring (portCruise n x s) = ring s := rfl
@[simp] theorem ring_raise (n : Notice) (s : State) : ring (raise n s) = ring s := ring_congr (by simp) (by simp)
@[simp] theorem ring_pump (s : State) : ring (pump s) = ring s := ring_congr (by simp) (by simp)
@[simp] theorem ring_refreshSource (s : State) : ring (refreshSource s) = ring s := ring_congr (by simp) (by simp)
@[simp] theorem ring_recomputeStates (s : State) : ring (recomputeStates s) = ring s := ring_congr (by simp) (by simp)
@[simp] theorem ring_setScrollState (new : ScrollState) (c : ScrollCause) (s : State) : ring (setScrollState new c s) = ring s :=
  ring_congr (by simp) (by simp)

/-! ### Cue unit and scroll controller -/

@[simp] theorem ring_takeAdvance (p p' : Nat) (s : State) : ring (takeAdvance p p' s) = ring s := by
  obtain ⟨t, fired, advanced⟩ := takeAdvance_eq p p' s
  have same : ring t = ring s := by rw [fired.frame]; rfl
  rw [advanced]
  exact same

@[simp] theorem ring_moveFrame (s : State) : ring (moveFrame s) = ring s := by
  obtain ⟨_, _, moved, -⟩ := moveFrame_eq s
  rw [moved]
  rfl

@[simp] theorem ring_countFrame (s : State) : ring (countFrame s) = ring s := by rw [countFrame_frame]; rfl

@[simp] theorem ring_internalExpiry (n : Nat) (s : State) : ring (internalExpiry n s) = ring s := by
  unfold internalExpiry; split <;> rfl

@[simp] theorem ring_jumpTo (row : Int) (s : State) : ring (jumpTo row s) = ring s := by
  rw [jumpTo, ring_recomputeStates]
  rfl

@[simp] theorem ring_keyJump (row : Nat) (s : State) : ring (keyJump row s) = ring s := by
  unfold keyJump; split <;> simp

/-! ### Control hub -/

@[simp] theorem ring_setHolder (new : Option Holder) (timer : Option Nat) (c : AuthorityCause) (s : State) :
    ring (setHolder new timer c s) = ring s := by
  rw [setHolder, ring_raise]
  rfl

@[simp] theorem ring_restHolder (s : State) : ring (restHolder s) = ring s := by rw [restHolder_eq]; rfl

@[simp] theorem ring_endHold (c : AuthorityCause) (s : State) : ring (endHold c s) = ring s := by
  unfold endHold; split <;> simp

@[simp] theorem ring_endLeverHold (s : State) : ring (endLeverHold s) = ring s := by
  unfold endLeverHold; split <;> simp

@[simp] theorem ring_loseControl (n : Fin 6) (s : State) : ring (loseControl n s) = ring s :=
  ring_congr (PortFrame.loseControl n s).heads (PortFrame.loseControl n s).job

@[simp] theorem ring_setEnabled (n : Fin 6) (enabled : Bool) (s : State) : ring (setEnabled n enabled s) = ring s :=
  ring_congr (PortFrame.setEnabled n enabled s).heads (PortFrame.setEnabled n enabled s).job

@[simp] theorem ring_contend (n : Fin 6) (s : State) : ring (contend n s) = ring s := by
  unfold contend; (repeat' split) <;> simp

@[simp] theorem ring_goStale (n : Fin 6) (s : State) : ring (goStale n s) = ring s := by simp [goStale]

@[simp] theorem ring_goLive (n : Fin 6) (kind : ControllerKind) (s : State) : ring (goLive n kind s) = ring s := by simp [goLive]

@[simp] theorem ring_trimCruise (n : Fin 6) (delta : Int) (s : State) : ring (trimCruise n delta s) = ring s := by
  unfold trimCruise; dsimp only; split <;> simp

@[simp] theorem ring_stopScroll (c : ScrollCause) (s : State) : ring (stopScroll c s) = ring s := by
  unfold stopScroll; dsimp only; split <;> simp

@[simp] theorem ring_resumeKey (n : Fin 6) (s : State) : ring (resumeKey n s) = ring s := by
  unfold resumeKey; split <;> simp

@[simp] theorem ring_speedKey (n : Fin 6) (delta : Int) (s : State) : ring (speedKey n delta s) = ring s := by
  unfold speedKey; dsimp only; split <;> simp

@[simp] theorem ring_wheelDetents (n : Fin 6) (count : Int) (s : State) : ring (wheelDetents n count s) = ring s := by
  unfold wheelDetents; dsimp only; split <;> simp

@[simp] theorem ring_runKey (n : Fin 6) (k : ActionKey) (s : State) : ring (runKey n k s) = ring s := by
  cases k <;> simp [runKey]

@[simp] theorem ring_judgeKey (n : Fin 6) (pressed : KeySet) (s : State) (k : ActionKey) :
    ring (judgeKey n pressed s k) = ring s := by
  unfold judgeKey; (repeat' split) <;> simp

@[simp] theorem ring_runKeys (n : Fin 6) (pressed : KeySet) (s : State) : ring (runKeys n pressed s) = ring s := by
  unfold runKeys markKey
  split <;> simp [ring_foldl (ring_judgeKey n pressed)]

@[simp] theorem ring_releaseHold (s : State) : ring (releaseHold s) = ring s := by
  unfold releaseHold; dsimp only; (repeat' split) <;> simp

@[simp] theorem ring_holderTiming (n : Fin 6) (rest : Bool) (s : State) : ring (holderTiming n rest s) = ring s := by
  unfold holderTiming; (repeat' split) <;> simp

@[simp] theorem ring_makeRequest (n : Fin 6) (kind : ControllerKind) (value : PortValue) (s : State) :
    ring (makeRequest n kind value s) = ring s := by
  unfold makeRequest leverRequest leverTakes wheelRequest; dsimp only; (repeat' split) <;> simp

@[simp] theorem ring_enterReport (n : Fin 6) (kind : ControllerKind) (s : State) : ring (enterReport n kind s).1 = ring s := by
  unfold enterReport; dsimp only; (repeat' split) <;> simp

@[simp] theorem ring_takeReport (n : Fin 6) (r : ControlReport) (first : Bool) (s : State) : ring (takeReport n r first s) = ring s := by
  unfold takeReport; dsimp only; (repeat' split) <;> simp

@[simp] theorem ring_receivePortByte (n : Fin 6) (s : State) (b : Byte) : ring (receivePortByte n s b) = ring s := by
  unfold receivePortByte validReport; dsimp only; (repeat' split) <;> simp

@[simp] theorem ring_reportTimeout (n : Fin 6) (s : State) : ring (reportTimeout n s) = ring s := by
  unfold reportTimeout; split <;> simp

@[simp] theorem ring_releaseExpiry (s : State) : ring (releaseExpiry s) = ring s := by
  unfold releaseExpiry; split <;> simp

/-! ### Loads and time -/

@[simp] theorem ring_loadIdleExpiry (tag : Nat) (s : State) : ring (loadIdleExpiry tag s) = ring s := by
  unfold loadIdleExpiry
  split
  · rfl
  · rw [ring_raise]
    rfl

@[simp] theorem ring_tickLoad (s : State) (tag : Nat) : ring (tickLoad s tag) = ring s := by
  unfold tickLoad; (repeat' split) <;> simp

@[simp] theorem ring_tickPort (s : State) (n : Fin 6) : ring (tickPort s n) = ring s := by
  unfold tickPort; dsimp only; split <;> simp

@[simp] theorem ring_tickRelease (s : State) : ring (tickRelease s) = ring s := by
  unfold tickRelease; split <;> simp

@[simp] theorem ring_tickFrameTimer (s : State) : ring (tickFrameTimer s) = ring s := by
  unfold tickFrameTimer
  (repeat' split)
  · exact ring_internalExpiry ..
  · rfl
  · rfl

/-! ### Commands -/

@[simp] theorem ring_badLengthReply (code seq : Byte) (s : State) : ring (badLengthReply code seq s) = ring s := by
  unfold badLengthReply; split <;> rfl

@[simp] theorem ring_motionReply (c q : Byte) (r : Result) (s : State) : ring (motionReply c q r s) = ring s := rfl
@[simp] theorem ring_reply (c q : Byte) (r : Result) (y : ReplyBody) (s : State) : ring (reply c q r y s) = ring s := rfl

@[simp] theorem ring_cmdSetColumns (seq c : Byte) (s : State) : ring (cmdSetColumns seq c s) = ring s := by
  unfold cmdSetColumns
  split
  · rfl
  · dsimp only
    split
    · rw [ring_raise, ring_reply]
    · rfl

@[simp] theorem ring_cmdSetMotion (seq : Byte) (vmax a b delay : Word16) (priority : Byte) (k : Word16) (p : Byte) (s : State) :
    ring (cmdSetMotion seq vmax a b delay priority k p s) = ring s := by
  unfold cmdSetMotion; split <;> rfl

@[simp] theorem ring_cmdSetCurve (seq : Byte) (q : Vector Word16 9) (s : State) : ring (cmdSetCurve seq q s) = ring s := by
  unfold cmdSetCurve; dsimp only; (repeat' split) <;> rfl

@[simp] theorem ring_cmdSetPort (seq port enabled role : Byte) (timeout : Word16) (gain dead reverse : Byte) (step : Word16) (s : State) :
    ring (cmdSetPort seq port enabled role timeout gain dead reverse step s) = ring s := by
  unfold cmdSetPort
  split
  · rw [ring_reply, ring_setEnabled]
    rfl
  · rfl

@[simp] theorem ring_cmdSetFrameSource (seq source rate : Byte) (s : State) : ring (cmdSetFrameSource seq source rate s) = ring s := by
  unfold cmdSetFrameSource
  split
  · rfl
  · dsimp only
    rw [ring_reply, ring_refreshSource]
    rfl

@[simp] theorem ring_cmdReadStory (seq : Byte) (story : Word16) (s : State) : ring (cmdReadStory seq story s) = ring s := by
  unfold cmdReadStory; split <;> rfl

@[simp] theorem ring_cmdScrollResume (seq : Byte) (s : State) : ring (cmdScrollResume seq s) = ring s := by
  unfold cmdScrollResume resumeScroll; (repeat' split) <;> simp

@[simp] theorem ring_cmdScrollSpeed (seq : Byte) (speed : Word16) (s : State) : ring (cmdScrollSpeed seq speed s) = ring s := by
  unfold cmdScrollSpeed cruiseAt
  (repeat' split)
  · rfl
  · rfl
  · rw [ring_motionReply, ring_setScrollState]
    rfl

@[simp] theorem ring_cmdJump (seq kind : Byte) (story line rows : Word16) (s : State) :
    ring (cmdJump seq kind story line rows s) = ring s := by
  unfold cmdJump; (repeat' split) <;> simp

@[simp] theorem ring_cmdCueDefine (seq cue : Byte) (actions : List ActionField) (s : State) :
    ring (cmdCueDefine seq cue actions s) = ring s := by
  unfold cmdCueDefine; (repeat' split) <;> rfl

@[simp] theorem ring_cmdCueRead (seq cue : Byte) (s : State) : ring (cmdCueRead seq cue s) = ring s := by
  unfold cmdCueRead; split <;> rfl

@[simp] theorem ring_cmdOutputSet (seq mask operation duration : Byte) (s : State) :
    ring (cmdOutputSet seq mask operation duration s) = ring s := by
  unfold cmdOutputSet; dsimp only; split <;> rfl

@[simp] theorem ring_cmdHeadRead (seq head : Byte) (s : State) : ring (cmdHeadRead seq head s) = ring s := by
  unfold cmdHeadRead; split <;> rfl

@[simp] theorem ring_cmdLoadOpen (seq tag : Byte) (editTag : Word16) (mode : Byte) (story n : Word16) (placeKind : Byte)
    (placeId : Word16) (force : Byte) (slug : List Byte) (s : State) :
    ring (cmdLoadOpen seq tag editTag mode story n placeKind placeId force slug s) = ring s := by
  unfold cmdLoadOpen; dsimp only; (repeat' split) <;> rfl

@[simp] theorem ring_cmdLoadLine (seq tag : Byte) (text : List Byte) (s : State) : ring (cmdLoadLine seq tag text s) = ring s := by
  unfold cmdLoadLine; dsimp only; (repeat' split) <;> rfl

@[simp] theorem ring_cmdLoadCancel (seq tag : Byte) (s : State) : ring (cmdLoadCancel seq tag s) = ring s := by
  unfold cmdLoadCancel; split <;> rfl

@[simp] theorem ring_cmdEditCancel (seq : Byte) (editTag : Word16) (s : State) : ring (cmdEditCancel seq editTag s) = ring s := by
  unfold cmdEditCancel; split <;> rfl

end Sys2Proof.Machine
end

section
/-! The band of one head (R137, R147, R156): what keeps it in order. -/

namespace Sys2Proof.Machine

/-- The band of head `h` in order, while the render unit has `job`: a half's block has the half's parity, it asks for EMPTY slots of its
own, only a STARTING or RUNNING head asks, only the job's slot is RENDERING, and a DISABLED head's slots are EMPTY. -/
structure HeadBand (job : Option Job) (h : Fin 4) (x : Head) : Prop where
  parity : ∀ half : Fin 2, ∀ b ∈ (x.halves[half]).block, b % 2 = (half.val : Int)
  asked : ∀ half : Fin 2, ∀ i ∈ (x.halves[half]).remaining, halfOf i = half ∧ x.slots[i] = .empty
  quiet : x.state ≠ .starting → x.state ≠ .running → ∀ half : Fin 2, (x.halves[half]).remaining = []
  rendering : ∀ i : Fin 32, (x.slots[i]).isRendering = true → ∃ j ∈ job, j.head = h ∧ j.slot = i ∧ x.slots[i] = .rendering j.tag
  off : x.state = .disabled → ∀ i : Fin 32, x.slots[i] = .empty

/-- The band of every head in order. -/
structure RingOk (heads : Vector Head 4) (job : Option Job) : Prop where
  headBand : ∀ h : Fin 4, HeadBand job h heads[h]

/-- The bands of a state. -/
abbrev Bands (s : State) : Prop := RingOk s.heads s.job

theorem bandInv_iff (s : State) : BandInv s ↔ Bands s := by
  have split : Bands s ↔ ∀ h : Fin 4, HeadBand s.job h s.heads[h] := ⟨RingOk.headBand, RingOk.mk⟩
  rw [split]
  refine forall_congr' fun h => ?_
  simp only [Option.any_eq_true, decide_eq_true_eq]
  constructor
  · rintro ⟨halves, rendering, off⟩
    exact ⟨fun half => (halves half).1, fun half => (halves half).2.1, fun starting running half => (halves half).2.2 starting running,
      rendering, off⟩
  · rintro ⟨parity, asked, quiet, rendering, off⟩
    exact ⟨fun half => ⟨parity half, asked half, fun starting running => quiet starting running half⟩, rendering, off⟩

/-- A frame start leaves a slot RENDERING, and makes none so (R141). -/
theorem freshSlot_rendering {identity : Option RowIdentity} {slot : Slot} (h : (freshSlot identity slot).isRendering = true) :
    freshSlot identity slot = slot ∧ slot.isRendering = true := by
  cases slot with
  | rendering tag => exact ⟨rfl, rfl⟩
  | empty => cases h
  | valid tag pixels =>
    have other : ∀ p : Prop, [Decidable p] → (if p then Slot.valid tag pixels else .empty).isRendering = false := by
      intro p _
      split <;> rfl
    exact absurd h (Bool.eq_false_iff.mp (other _))

namespace HeadBand
variable {job : Option Job} {h : Fin 4} {x y : Head}

/-- A head whose blocks and slots stay, with no more requests than before, and none where its state has no request (R147). -/
theorem shrink (ok : HeadBand job h x) (slots : y.slots = x.slots)
    (block : ∀ half : Fin 2, (y.halves[half]).block = (x.halves[half]).block)
    (fewer : ∀ half : Fin 2, ∀ i ∈ (y.halves[half]).remaining, i ∈ (x.halves[half]).remaining)
    (quiet : y.state ≠ .starting → y.state ≠ .running → ∀ half : Fin 2, (y.halves[half]).remaining = [])
    (off : y.state = .disabled → x.state = .disabled) : HeadBand job h y where
  parity half := by rw [block]; exact ok.parity half
  asked half i hi := by rw [slots]; exact ok.asked half i (fewer half i hi)
  quiet := quiet
  rendering := by rw [slots]; exact ok.rendering
  off disabled := by rw [slots]; exact ok.off (off disabled)

/-- The band is judged by the halves, the slots and the state. -/
theorem congr (ok : HeadBand job h x) (halves : y.halves = x.halves) (slots : y.slots = x.slots) (state : y.state = x.state) :
    HeadBand job h y := by
  refine ok.shrink slots (fun half => by rw [halves]) (fun half i => by rw [halves]; exact id) ?_ (by rw [state]; exact id)
  rw [state, halves]
  exact ok.quiet

/-- A head with no block, no request and every slot EMPTY (R137). -/
theorem cleared (halves : x.halves = Vector.replicate 2 ⟨none, [], false⟩) (slots : x.slots = Vector.replicate 32 .empty) :
    HeadBand job h x := by
  have half (k : Fin 2) : x.halves[k] = ⟨none, [], false⟩ := by simp [halves]
  have slot (i : Fin 32) : x.slots[i] = .empty := by simp [slots]
  refine ⟨fun k b hb => ?_, fun k i hi => ?_, fun _ _ k => ?_, fun i hi => ?_, fun _ => slot⟩
  · rw [half] at hb
    cases hb
  · rw [half] at hi
    cases hi
  · rw [half]
  · rw [slot] at hi
    cases hi

/-- Without requests a head may be in any state but DISABLED (R147). -/
theorem clearRequests (ok : HeadBand job h x) {new : HeadState} (on : new ≠ .disabled) :
    HeadBand job h { x.clearRequests with state := new, degraded := false } := by
  have half (k : Fin 2) : x.clearRequests.halves[k] = { x.halves[k] with remaining := [] } := updAll_get ..
  refine ok.shrink rfl (fun k => ?_) (fun k i hi => ?_) (fun _ _ k => ?_) fun disabled => absurd disabled on <;> dsimp only at *
  · rw [half]
  · rw [half] at hi
    cases hi
  · rw [half]

/-- A bias out of range empties the band (R138). -/
theorem addBias (ok : HeadBand job h x) (delta : Int) : HeadBand job h (x.addBias delta) := by
  unfold Head.addBias
  split
  · exact cleared rfl rfl
  · exact ok.congr rfl rfl rfl

/-- With the render unit IDLE no slot is RENDERING (R156). -/
theorem idle (ok : HeadBand none h x) (i : Fin 32) : (x.slots[i]).isRendering = false := by
  by_contra rendering
  obtain ⟨j, none, -⟩ := ok.rendering i (Bool.eq_true_of_not_eq_false rendering)
  cases none

/-- Only the job's own slot is RENDERING (R156). -/
theorem unrendered {j : Job} (ok : HeadBand (some j) h x) {i : Fin 32} (other : j.head ≠ h ∨ j.slot ≠ i) :
    (x.slots[i]).isRendering = false := by
  by_contra rendering
  obtain ⟨k, same, head, slot, -⟩ := ok.rendering i (Bool.eq_true_of_not_eq_false rendering)
  cases same
  exact other.elim (· head) (· slot)

/-- A head with no slot RENDERING is in order whatever the job is. -/
theorem withJob {job' : Option Job} (ok : HeadBand job h x) (idle : ∀ i : Fin 32, (x.slots[i]).isRendering = false) :
    HeadBand job' h x where
  parity := ok.parity
  asked := ok.asked
  quiet := ok.quiet
  rendering i hi := absurd hi (Bool.eq_false_iff.mp (idle i))
  off := ok.off

/-- One slot changed that is not asked for, where no other is RENDERING (R147, R156). -/
theorem withSlot {job' : Option Job} {slot : Fin 32} {new : Slot} (ok : HeadBand job h x) (on : x.state ≠ .disabled)
    (unasked : ∀ half : Fin 2, slot ∉ (x.halves[half]).remaining) (others : ∀ i, i ≠ slot → (x.slots[i]).isRendering = false)
    (rendering : new.isRendering = true → ∃ j ∈ job', j.head = h ∧ j.slot = slot ∧ new = .rendering j.tag) :
    HeadBand job' h { x with slots := upd x.slots slot fun _ => new } := by
  refine ⟨ok.parity, fun half i hi => ?_, ok.quiet, fun i hi => ?_, fun disabled => absurd disabled on⟩ <;> dsimp only at *
  · have apart : i ≠ slot := fun same => unasked half (same ▸ hi)
    rw [upd_get_ne _ _ _ _ apart]
    exact ok.asked half i hi
  · rw [upd_entries] at hi ⊢
    split
    · next same =>
      subst same
      rw [if_pos rfl] at hi
      exact rendering hi
    · next apart =>
      rw [if_neg apart] at hi
      exact absurd hi (Bool.eq_false_iff.mp (others i apart))

/-- A slot taken from its remaining set (R149). -/
theorem takeSlot (ok : HeadBand job h x) (half : Fin 2) (slot : Fin 32) : HeadBand job h (x.takeSlot half slot) := by
  have chosen := HeadChosen.takeSlot x half slot
  refine ok.shrink rfl chosen.block chosen.remaining (fun starting running k => ?_) id
  rw [List.eq_nil_iff_forall_not_mem]
  intro i hi
  have was := chosen.remaining k i hi
  rw [ok.quiet starting running k] at was
  cases was

/-- What a frame start samples: blocks of the halves' parity, and requests for EMPTY slots alone (R140, R141). -/
theorem sampled {s : State} (ok : HeadBand job h x) (sampled : Sampled s x y) (on : x.state ≠ .disabled)
    (going : x.state ≠ .stopping) : HeadBand job h y := by
  have state : y.state = x.state := by rw [sampled.frame]
  refine ⟨fun half b hb => ?_, fun half i hi => ?_, fun starting running half => ?_, fun i hi => ?_, fun off => ?_⟩
  · rw [sampled.block] at hb
    cases hb
    unfold desiredFor desiredBlocks
    split <;> (split at * <;> omega)
  · rw [sampled.remaining] at hi
    split at hi
    · cases hi
    · rw [remainingSlots, List.mem_filter, mem_halfSlots, Bool.and_eq_true, beq_iff_eq] at hi
      exact ⟨hi.1, hi.2.1⟩
  · rw [sampled.remaining]
    have blanked : x.state = .blanked := by
      cases old : x.state <;> simp_all
    exact if_pos blanked
  · rw [sampled.slot] at hi ⊢
    obtain ⟨same, rendering⟩ := freshSlot_rendering hi
    rw [same]
    split at rendering
    · next kept =>
      rw [if_pos kept]
      exact ok.rendering i rendering
    · cases rendering
  · exact absurd (state ▸ off) on

end HeadBand
end Sys2Proof.Machine
end

section
/-! The arbiter's choice keeps the bands (R147 to R149): what it chooses is asked for. -/

namespace Sys2Proof.Machine

/-! ### The first of a list -/

theorem firstBy_cons_ne_none {α : Type} (before : α → α → Bool) (x : α) (rest : List α) : firstBy before (x :: rest) ≠ none := by
  unfold firstBy
  split
  · exact Option.some_ne_none _
  · split <;> exact Option.some_ne_none _

theorem firstBy_mem {α : Type} {before : α → α → Bool} {l : List α} {x : α} (h : firstBy before l = some x) : x ∈ l := by
  induction l generalizing x with
  | nil => cases h
  | cons y rest ih =>
    unfold firstBy at h
    split at h
    · cases h
      exact List.mem_cons_self ..
    · next z first =>
      split at h <;> cases h
      · exact List.mem_cons_of_mem _ (ih first)
      · exact List.mem_cons_self ..

theorem firstBy_eq_none_iff {α : Type} {before : α → α → Bool} {l : List α} : firstBy before l = none ↔ l = [] := by
  cases l with
  | nil => exact ⟨fun _ => rfl, fun _ => rfl⟩
  | cons x rest => exact ⟨fun h => (firstBy_cons_ne_none _ _ _ h).elim, nofun⟩

/-! ### Requests -/

theorem mem_requests {s : State} {h : Fin 4} {half : Fin 2} : (h, half) ∈ requests s ↔ ((s.heads[h]).halves[half]).remaining ≠ [] := by
  have every : (h, half) ∈ allHalves := by
    unfold allHalves
    fin_cases half <;> simp
  simp [requests, every]

theorem asks_of_bestRequest {s : State} {h : Fin 4} {half : Fin 2} (best : bestRequest s = some (h, half)) :
    ((s.heads[h]).halves[half]).remaining ≠ [] := mem_requests.mp (firstBy_mem best)

theorem bestRequest_eq_none_iff {s : State} :
    bestRequest s = none ↔ ∀ (h : Fin 4) (half : Fin 2), ((s.heads[h]).halves[half]).remaining = [] := by
  rw [bestRequest, firstBy_eq_none_iff, List.eq_nil_iff_forall_not_mem]
  constructor
  · intro none h half
    by_contra asks
    exact none (h, half) (mem_requests.mpr asks)
  · rintro none ⟨h, half⟩ asks
    exact mem_requests.mp asks (none h half)

theorem mem_of_chooseSlot {s : State} {h : Fin 4} {half : Fin 2} {slot : Fin 32} (chosen : chooseSlot s h half = some slot) :
    slot ∈ ((s.heads[h]).halves[half]).remaining := by
  unfold chooseSlot at chosen
  split at chosen
  · exact firstBy_mem chosen
  · exact List.mem_of_mem_filter (firstBy_mem chosen)

/-- A half that asks has a slot chosen (R149). -/
theorem chooseSlot_ne_none {s : State} {h : Fin 4} {half : Fin 2} (asks : ((s.heads[h]).halves[half]).remaining ≠ []) :
    chooseSlot s h half ≠ none := by
  unfold chooseSlot
  split
  · exact firstBy_eq_none_iff.not.mpr asks
  · next visible => exact firstBy_eq_none_iff.not.mpr visible

/-- The halves of a head after a slot has left one of its sets (R149). -/
theorem takeSlot_halves (x : Head) (half : Fin 2) (slot : Fin 32) (k : Fin 2) : (x.takeSlot half slot).halves[k] =
    if k = half then { x.halves[k] with remaining := (x.halves[k]).remaining.filter fun i => i ≠ slot } else x.halves[k] := by
  have same : (fun i : Fin 32 => !(i == slot)) = fun i => decide (i ≠ slot) := by
    funext i
    by_cases eq : i = slot <;> simp [eq]
  rw [← same]
  exact upd_entries ..

/-! ### A completion -/

/-- A head with a row stored in its slot, where that still waits for it (R156). -/
def storedRow (j : Job) (x : Head) : Head :=
  if (x.slots[j.slot]).isRendering = true then { x with slots := upd x.slots j.slot fun _ => .valid j.tag j.drawing } else x

section
variable {s : State} {j : Job}

theorem renderComplete_of_idle (idle : s.job = none) : renderComplete s = s := by
  unfold renderComplete
  rw [idle]

variable (job : s.job = some j)
include job

theorem renderComplete_of_stopping (stopping : (s.heads[j.head]).state = .stopping) :
    renderComplete s = chooseNext (enterDisabled j.head { s with job := none }) := by
  unfold renderComplete
  rw [job]
  dsimp only
  rw [stopping]

theorem renderComplete_of_disabled (disabled : (s.heads[j.head]).state = .disabled) :
    renderComplete s = chooseNext { s with job := none } := by
  unfold renderComplete
  rw [job]
  dsimp only
  rw [disabled]

theorem renderComplete_of_on
    (on : (s.heads[j.head]).state = .starting ∨ (s.heads[j.head]).state = .running ∨ (s.heads[j.head]).state = .blanked) :
    renderComplete s = chooseNext (({ s with job := none } : State).modHead j.head (storedRow j)) := by
  have stored (tag : RowIdentity) (slot : (s.heads[j.head]).slots[j.slot] = .rendering tag) :
      storedRow j s.heads[j.head] = { s.heads[j.head] with slots := upd (s.heads[j.head]).slots j.slot fun _ => .valid j.tag j.drawing } :=
    if_pos (by rw [slot]; rfl)
  have kept (other : ∀ tag, (s.heads[j.head]).slots[j.slot] = .rendering tag → False) : storedRow j s.heads[j.head] = s.heads[j.head] := by
    refine if_neg ?_
    cases slot : (s.heads[j.head]).slots[j.slot] with
    | rendering tag => exact (other tag slot).elim
    | empty | valid => exact Bool.false_ne_true
  unfold renderComplete
  rw [job]
  rcases on with state | state | state
  all_goals
    dsimp only
    rw [state]
    dsimp only
    refine congrArg chooseNext ?_
    split
    · next tag slot => exact modHead_congr (stored tag slot).symm
    · next other => exact (modHead_id (s := { s with job := none }) (kept other)).symm

end

/-- A STARTING head that becomes RUNNING may go on asking (R142, R147). -/
theorem HeadBand.judgedHead {job : Option Job} {h : Fin 4} {x : Head} (ok : HeadBand job h x) (frame : ScanFrame) (missing : Nat) :
    HeadBand job h (judgedHead frame missing x) := by
  unfold Machine.judgedHead
  (repeat' split)
  · exact ok.shrink rfl (fun _ => rfl) (fun _ _ => id) (fun _ running => absurd rfl running) (fun off => by cases off)
  · exact ok
  · exact ok.congr rfl rfl rfl
  all_goals exact ok

/-! ### The bands of a state -/

namespace Bands
variable {s t : State}

/-- The bands are those of the heads and the job. -/
theorem congr (ok : Bands s) (same : ring t = ring s) : Bands t := by
  simp only [ring, Prod.mk.injEq] at same
  obtain ⟨heads, job⟩ := same
  rwa [Bands, heads, job]

/-- One head changed. -/
theorem of_changed {h : Fin 4} {f : Head → Head} (others : ∀ g : Fin 4, g ≠ h → HeadBand t.job g s.heads[g])
    (changed : HeadChanged h f s t) (head : HeadBand t.job h (f s.heads[h])) : Bands t := by
  obtain ⟨same, rest⟩ := changed
  refine ⟨fun g => ?_⟩
  by_cases eq : g = h
  · subst eq
    rw [same]
    exact head
  · rw [rest g eq]
    exact others g eq

/-- One head changed while the job stays. -/
theorem changed {h : Fin 4} {f : Head → Head} (ok : Bands s) (changed : HeadChanged h f s t) (job : t.job = s.job)
    (head : HeadBand s.job h (f s.heads[h])) : Bands t :=
  of_changed (fun g _ => by rw [job]; exact ok.headBand g) changed (by rwa [job])

theorem modHead {h : Fin 4} {f : Head → Head} (ok : Bands s) (head : HeadBand s.job h (f s.heads[h])) : Bands (s.modHead h f) :=
  ok.changed (headChanged_modHead h f s) rfl head

/-- The render unit without a job while no slot is RENDERING. -/
theorem idled (ok : Bands s) (idle : s.job = none) : Bands { s with job := none } :=
  ok.congr (ring_congr rfl idle.symm)

/-- A job begins for a slot that is not asked for, on a head that is on (R150). -/
theorem beginJob {h : Fin 4} {slot : Fin 32} (ok : Bands s) (idle : s.job = none) (on : (s.heads[h]).state ≠ .disabled)
    (unasked : ∀ half : Fin 2, slot ∉ ((s.heads[h]).halves[half]).remaining) (r : Nat) : Bands (beginJob h slot r s) := by
  have free (g : Fin 4) : HeadBand none g s.heads[g] := idle ▸ ok.headBand g
  unfold Machine.beginJob
  split
  · exact ok.idled idle
  · next st k _ =>
    refine of_changed (s := s) (h := h) (f := fun x => { x with slots := upd x.slots slot fun _ => .rendering ⟨st.id, st.revision, k, _⟩ })
      (fun g _ => (free g).withJob (free g).idle) ⟨upd_get_self .., fun _ other => upd_get_ne _ _ _ _ other⟩ ?_
    exact (free h).withSlot on unasked (fun i _ => (free h).idle i) fun _ => ⟨_, rfl, rfl, rfl, rfl⟩

/-- The arbiter begins a job for a slot that it takes from its set (R149, R150). -/
theorem arbiter (ok : Bands s) (idle : s.job = none) (fuel : Nat) : Bands (arbiter fuel s) := by
  induction fuel generalizing s with
  | zero => exact ok.idled idle
  | succ fuel ih =>
    unfold Machine.arbiter
    split
    · exact ok.idled idle
    · next h half best =>
      have asks := asks_of_bestRequest best
      split
      · exact ok.idled idle
      · next slot chosen =>
        have band := ok.headBand h
        have own := (band.asked half slot (mem_of_chooseSlot chosen)).1
        have on : (s.heads[h]).state ≠ .disabled := fun off => asks (band.quiet (by rw [off]; decide) (by rw [off]; decide) half)
        have taken : Bands (s.modHead h fun x => x.takeSlot half slot) := ok.modHead (band.takeSlot half slot)
        have unasked (k : Fin 2) : slot ∉ (((s.heads[h]).takeSlot half slot).halves[k]).remaining := by
          rw [takeSlot_halves]
          split
          · simp
          · next other => exact fun asked => other ((band.asked k slot asked).1.symm.trans own)
        dsimp only
        (repeat' split)
        · exact ih taken idle
        · refine taken.beginJob idle ?_ ?_ _ <;> rw [modHead_heads, upd_get_self]
          · exact on
          · exact unasked
        · exact ih taken idle

theorem chooseNext (ok : Bands s) (idle : s.job = none) : Bands (chooseNext s) := ok.arbiter idle _

/-! ### Events of the heads and the render unit -/

/-- A head changed in what its band is not judged by. -/
theorem modHead_quiet {h : Fin 4} {f : Head → Head} (ok : Bands s) (halves : (f s.heads[h]).halves = (s.heads[h]).halves)
    (slots : (f s.heads[h]).slots = (s.heads[h]).slots) (state : (f s.heads[h]).state = (s.heads[h]).state) : Bands (s.modHead h f) :=
  ok.modHead ((ok.headBand h).congr halves slots state)

theorem headStarted (ok : Bands s) (h : Fin 4) : Bands (headStarted h s) :=
  (ok.modHead_quiet (f := startedHead) (h := h) rfl rfl rfl).congr (ring_congr (headStarted_heads h s) (headStarted_job h s))

/-- A frame start up to the arbiter's choice (R139 to R142). -/
theorem frameJudged {h : Fin 4} (ok : Bands s) (on : (s.heads[h]).state ≠ .disabled) (going : (s.heads[h]).state ≠ .stopping) :
    Bands (frameJudged h s) := by
  have started : HeadBand s.job h (startedHead s.heads[h]) := (ok.headBand h).congr rfl rfl rfl
  have sampled := started.sampled (sampled_sampledHead h s) on going
  have judged : Bands (s.modHead h fun _ => judgedFrameHead h s) := ok.modHead (sampled.judgedHead ..)
  exact judged.congr (ring_congr (frameJudged_heads h s) (frameJudged_job h s))

theorem frameStart (ok : Bands s) (h : Fin 4) : Bands (frameStart h s) := by
  by_cases off : (s.heads[h]).state = .disabled
  · rwa [Machine.frameStart, if_pos off]
  by_cases stopping : (s.heads[h]).state = .stopping
  · rw [frameStart_of_stopping stopping]
    exact ok.headStarted h
  rw [frameStart_of_going off stopping]
  split
  · next asks =>
    rw [Bool.and_eq_true, Option.isNone_iff_eq_none] at asks
    exact (ok.frameJudged off stopping).chooseNext asks.2
  · exact ok.frameJudged off stopping

theorem syncLoss (ok : Bands s) (h : Fin 4) : Bands (syncLoss h s) := by
  have lost : Bands (s.modHead h fun x => { x with syncLost := true, syncTimer := none }) := ok.modHead_quiet rfl rfl rfl
  unfold Machine.syncLoss
  dsimp only
  (repeat' split)
  · exact ok
  · exact lost
  · exact lost.congr (by rw [ring_refreshSource, ring_raise])

theorem tickHead (ok : Bands s) (h : Fin 4) : Bands (tickHead s h) := by
  unfold Machine.tickHead
  split
  · exact ok.syncLoss h
  · exact ok.modHead_quiet rfl rfl rfl

/-- The bands without the job, of whose head no slot is RENDERING (R156). -/
theorem freed {j : Job} (ok : Bands s) (job : s.job = some j) (done : (((s.heads[j.head]).slots[j.slot])).isRendering = false) :
    Bands { s with job := none } := by
  refine ⟨fun g => ?_⟩
  have band : HeadBand (some j) g s.heads[g] := job ▸ ok.headBand g
  refine band.withJob fun i => ?_
  by_cases own : j.head = g ∧ j.slot = i
  · obtain ⟨rfl, rfl⟩ := own
    exact done
  · exact band.unrendered (not_and_or.mp own)

/-- A row that is done with becomes VALID where its slot still waits for it (R156). -/
theorem renderComplete (ok : Bands s) : Bands (renderComplete s) := by
  cases job : s.job with
  | none => rwa [renderComplete_of_idle job]
  | some j =>
    have band (g : Fin 4) : HeadBand (some j) g s.heads[g] := job ▸ ok.headBand g
    have others (g : Fin 4) (other : g ≠ j.head) : HeadBand none g s.heads[g] :=
      (band g).withJob fun i => (band g).unrendered (.inl (Ne.symm other))
    have stored (on : (s.heads[j.head]).state ≠ .disabled) : HeadBand none j.head (storedRow j s.heads[j.head]) := by
      unfold storedRow
      split
      · next rendering =>
        refine (band j.head).withSlot on (fun half asked => ?_) (fun i other => (band j.head).unrendered (.inr (Ne.symm other))) nofun
        rw [((band j.head).asked half _ asked).2] at rendering
        cases rendering
      · next done =>
        exact (ok.freed job (Bool.eq_false_iff.mpr done)).headBand j.head
    have completed (on : (s.heads[j.head]).state = .starting ∨ (s.heads[j.head]).state = .running ∨ (s.heads[j.head]).state = .blanked) :
        Bands (Machine.renderComplete s) := by
      rw [renderComplete_of_on job on]
      refine chooseNext ?_ rfl
      refine of_changed (s := s) others (headChanged_modHead ..) (stored fun off => ?_)
      rcases on with on | on | on <;> cases on.symm.trans off
    cases state : (s.heads[j.head]).state with
    | stopping =>
      have moved := headMoved_enterDisabled j.head { s with job := none }
      obtain ⟨-, -, -, -, -, -, idle, -⟩ := moved.frame
      have bands : Bands (enterDisabled j.head { s with job := none }) :=
        of_changed (fun g other => idle ▸ others g other) moved.head (.cleared rfl rfl)
      rw [renderComplete_of_stopping job state]
      exact bands.chooseNext idle
    | disabled =>
      have empty : ((s.heads[j.head]).slots[j.slot]).isRendering = false := by rw [(band j.head).off state]; rfl
      rw [renderComplete_of_disabled job state]
      exact (ok.freed job empty).chooseNext rfl
    | starting => exact completed (.inl state)
    | running => exact completed (.inr (.inl state))
    | blanked => exact completed (.inr (.inr state))

end Bands

end Sys2Proof.Machine
end

section
/-! Every step keeps the bands (R137, R147, R156). -/

namespace Sys2Proof.Machine

namespace Bands
variable {s t : State}

theorem withLink (ok : Bands s) (x : Link) : Bands { s with link := x } := ok.congr rfl
theorem withCues (ok : Bands s) (x : CueUnit) : Bands { s with cues := x } := ok.congr rfl

/-! ### Head commands -/

theorem setHeadState (ok : Bands s) {h : Fin 4} {f : Head → Head} {new : HeadState}
    (state : (f s.heads[h]).state = (s.heads[h]).state) (head : HeadBand s.job h { f s.heads[h] with state := new }) :
    Bands (setHeadState h new (s.modHead h f)) := by
  have moved := headMoved_setHeadState state new
  obtain ⟨-, -, -, -, -, -, job, -⟩ := moved.frame
  exact ok.changed moved.head job head

/-- A head that gives up its requests and goes on in another state (R134, R135). -/
theorem clearRequests (ok : Bands s) (h : Fin 4) {new : HeadState} (on : new ≠ .disabled) :
    Bands (clearDegraded h (Machine.setHeadState h new (s.modHead h Head.clearRequests))) := by
  have moved := headMoved_clearRequests h new s
  obtain ⟨-, -, -, -, -, -, job, -⟩ := moved.frame
  exact ok.changed moved.head job ((ok.headBand h).clearRequests on)

theorem enterDisabled (ok : Bands s) (h : Fin 4) : Bands (enterDisabled h s) := by
  have moved := headMoved_enterDisabled h s
  obtain ⟨-, -, -, -, -, -, job, -⟩ := moved.frame
  exact ok.changed moved.head job (.cleared rfl rfl)

theorem stopHead (ok : Bands s) (h : Fin 4) : Bands (stopHead h s) := by
  by_cases off : (s.heads[h]).state = .disabled ∨ (s.heads[h]).state = .stopping
  · rwa [stopHead_of_off off]
  · obtain ⟨disabled, stopping⟩ := not_or.mp off
    rw [stopHead_of_on disabled stopping]
    split
    · exact ok.clearRequests h (by decide)
    · exact ok.enterDisabled h

theorem cmdHeadConfig (ok : Bands s) (seq head : Byte) (width height : Word16) (scale leading : Byte) (margin : Word16)
    (readingRow rate : Byte) : Bands (cmdHeadConfig seq head width height scale leading margin readingRow rate s) := by
  unfold Machine.cmdHeadConfig
  split
  · next h g _ _ =>
    split
    · exact ok
    · have set : Bands (s.modHead h fun x => { x with geometry := g }) := ok.modHead_quiet rfl rfl rfl
      exact set.congr (ring_refreshSource _)
  · exact ok

theorem cmdHeadStart (ok : Bands s) (seq head : Byte) : Bands (cmdHeadStart seq head s) := by
  unfold Machine.cmdHeadStart
  (repeat' split)
  any_goals exact ok
  exact ok.setHeadState (f := Head.prepare) rfl (.cleared rfl rfl)

theorem cmdHeadStop (ok : Bands s) (seq head : Byte) : Bands (cmdHeadStop seq head s) := by
  unfold Machine.cmdHeadStop
  split
  · exact ok
  · exact ok.stopHead _

theorem cmdHeadBlank (ok : Bands s) (seq head : Byte) : Bands (cmdHeadBlank seq head s) := by
  unfold Machine.cmdHeadBlank
  (repeat' split)
  any_goals exact ok
  exact ok.clearRequests _ (by decide)

theorem cmdHeadUnblank (ok : Bands s) (seq head : Byte) : Bands (cmdHeadUnblank seq head s) := by
  unfold Machine.cmdHeadUnblank
  (repeat' split)
  any_goals exact ok
  next h _ _ _ =>
    have shown : HeadBand s.job h { s.heads[h] with state := .starting } :=
      (ok.headBand h).shrink rfl (fun _ => rfl) (fun _ _ => id) (fun starting => absurd rfl starting) (fun off => by cases off)
    have moved := ok.setHeadState (f := id) rfl shown
    rwa [modHead_id rfl] at moved

theorem cmdHeadAppearance (ok : Bands s) (seq head : Byte) (f : AppearanceFields) : Bands (cmdHeadAppearance seq head f s) := by
  unfold Machine.cmdHeadAppearance
  split
  · next h a _ _ =>
    have offered : Bands (s.modHead h (Head.offerAppearance a)) := by
      refine ok.modHead ?_
      unfold Head.offerAppearance
      dsimp only
      split
      · rw [takeAppearance_eq]
        exact (ok.headBand h).congr rfl rfl rfl
      · exact (ok.headBand h).congr rfl rfl rfl
    exact offered
  · exact ok

/-! ### Edits -/

/-- The Δ of a re-anchor reaches every head's bias (R58, R138). -/
theorem reanchor (ok : Bands s) (anchor : Option Anchor) (row : Nat) : Bands (reanchor anchor row s) := by
  obtain ⟨a, -, -, moved⟩ | ⟨-, moved⟩ := reanchor_eq anchor row s <;> rw [moved]
  · refine ⟨fun h => ?_⟩
    rw [addBiasAll_heads, updAll_get]
    exact (ok.headBand h).addBias _
  · exact ok.congr rfl

theorem applyEdit (ok : Bands s) (fromPending : Bool) (e : Edit) : Bands (applyEdit fromPending e s) := by
  have stored : Bands (storeChanged e s) := ok.congr rfl
  have anchored : Bands (scriptAnchored e s) :=
    (stored.reanchor (editAnchor e s (storeChanged e s).store.stories) (s.scroll.p / 1024)).congr rfl
  have changed : Bands (changeScript e s) := by
    rw [changeScript_eq]
    exact anchored.congr (ring_congr (by simp) (by simp))
  unfold Machine.applyEdit
  dsimp only
  refine congr ?_ (ring_recomputeStates _)
  split
  · exact changed.congr (ring_raise ..)
  · exact changed

theorem settlePending (ok : Bands s) (r : PendingEdit) : Bands (settlePending r s) := by
  have left : Bands (leavePending r s) := ok
  unfold Machine.settlePending
  dsimp only
  split
  · exact congr (s := freeSlots r.edit.chain.length (leavePending r s)) left (ring_raise ..)
  · exact left.applyEdit true r.edit

theorem release (ok : Bands s) : Bands (release s) := release_keeps (fun ok _ => ok.settlePending _) ok

theorem present (ok : Bands s) (force : Bool) (e : Edit) : Bands (present force e s).1 := by
  have settled : Bands (settleAllFor e.story s) :=
    List.foldlRecOn (motive := Bands) _ _ ok fun _ ok r _ => ok.settlePending r
  unfold Machine.present forceEdit
  dsimp only
  (repeat' split)
  · exact settled
  · exact (settled.applyEdit ..).release
  · exact ok
  · exact ok
  · exact (ok.applyEdit ..).release

theorem presentedReply {r : State × Presented} (ok : Bands r.1) (code seq : Byte) (truncated badMark : Bool) (e : Edit)
    (okBody : State → ReplyBody) : Bands (presentedReply code seq truncated badMark e okBody r) := by
  unfold Machine.presentedReply
  split <;> exact ok

theorem cmdLoadLast (ok : Bands s) (seq tag : Byte) (text : List Byte) : Bands (cmdLoadLast seq tag text s) := by
  unfold Machine.cmdLoadLast resolveLoad
  split
  · exact ok
  · dsimp only
    (repeat' split)
    any_goals exact ok
    exact presentedReply (present (s := closeLoad _ s) ok ..) ..

theorem cmdStoryDelete (ok : Bands s) (seq : Byte) (editTag story : Word16) (force : Byte) :
    Bands (cmdStoryDelete seq editTag story force s) := by
  unfold Machine.cmdStoryDelete
  split
  · exact ok
  · exact presentedReply (ok.present ..) ..

theorem cmdStoryMove (ok : Bands s) (seq : Byte) (editTag story : Word16) (placeKind : Byte) (placeId : Word16) (force : Byte) :
    Bands (cmdStoryMove seq editTag story placeKind placeId force s) := by
  unfold Machine.cmdStoryMove
  dsimp only
  (repeat' split)
  · exact ok
  · exact presentedReply (ok.present ..) ..
  · exact ok

theorem cmdStorySkip (ok : Bands s) (seq : Byte) (editTag story : Word16) (request force : Byte) :
    Bands (cmdStorySkip seq editTag story request force s) := by
  unfold Machine.cmdStorySkip
  split
  · exact ok
  · generalize (if request = 0 then EditBody.skip else .unskip) = body
    dsimp only
    split
    · exact ok
    · exact presentedReply (ok.present ..) ..

theorem reflowComplete (ok : Bands s) : Bands (reflowComplete s) := by
  unfold Machine.reflowComplete
  split
  · exact ok
  · next c _ =>
    have laid : Bands (laidOut c s) := ok.congr rfl
    have installed : Bands (installLayout c s) := by
      rw [installLayout_eq]
      refine congr ?_ (ring_recomputeStates _)
      exact (laid.reanchor _ _).congr rfl
    dsimp only
    split
    · exact release (installed.congr (ring_raise ..))
    · exact release (congr (s := { s with layout := _ }) ok (ring_raise ..))

/-! ### Resets -/

theorem reset : Bands State.reset := by
  obtain ⟨-, -, -, -, -, bands, -⟩ := resetMeetsTheInvariants
  exact (bandInv_iff _).mp bands

theorem fullReset (c : StartCause) (r : LinkRate) (s : State) : Bands (fullReset c r s) := reset.congr rfl
theorem heldInReset (s : State) : Bands (heldInReset s) := reset.congr rfl

/-- CLEAR_SHOW empties every band (R145). -/
theorem clearShow (s : State) : Bands (clearShow s) := by
  refine ⟨fun h => ?_⟩
  dsimp only [Machine.clearShow]
  rw [updAll_get]
  exact .cleared rfl rfl

theorem restartReset (ok : Bands s) (r : LinkRate) : Bands (restartReset r s) := by
  unfold Machine.restartReset
  (repeat' split)
  · exact fullReset ..
  · exact fullReset ..
  · exact ok
  · exact ok

/-! ### The command link -/

/-- A command that is carried out (R161). -/
theorem runCommand (ok : Bands s) (i : Instr) : Bands (runCommand i s) := by
  cases i
  case clearShow => exact clearShow s
  case loadLast => exact ok.cmdLoadLast ..
  case storyDelete => exact ok.cmdStoryDelete ..
  case storyMove => exact ok.cmdStoryMove ..
  case storySkip => exact ok.cmdStorySkip ..
  case headConfig => exact ok.cmdHeadConfig ..
  case headStart => exact ok.cmdHeadStart ..
  case headStop => exact ok.cmdHeadStop ..
  case headBlank => exact ok.cmdHeadBlank ..
  case headUnblank => exact ok.cmdHeadUnblank ..
  case headAppearance => exact ok.cmdHeadAppearance ..
  case status | restart | setReporting => exact ok.congr rfl
  case scrollStop => exact ok.congr (ring_stopScroll ..)
  all_goals
    refine ok.congr ?_
    simp [Machine.runCommand, cmdIdentify, cmdUnknown, cmdReadRundown, cmdReadPosition, refuse]

theorem interpret (ok : Bands s) (payload : List Byte) : Bands (interpret payload s) := by
  unfold Machine.interpret
  split
  · exact ok.runCommand _
  · exact ok.congr (ring_badLengthReply ..)

theorem takeNext (ok : Bands s) : Bands (takeNext s) := by
  unfold Machine.takeNext
  (repeat' split)
  · exact ok
  · exact (ok.withLink _).interpret _
  · exact ok

theorem frameArrives (ok : Bands s) (payload : List Byte) : Bands (frameArrives payload s) := by
  have joined : Bands (joinReceived payload s) := by
    unfold joinReceived
    split <;> exact ok
  exact joined.takeNext.congr (ring_pump _)

theorem receiveByte (ok : Bands s) (b : Byte) : Bands (receiveByte s b) := by
  unfold Machine.receiveByte
  dsimp only
  split
  · exact (ok.withLink _).frameArrives _
  · exact ok

theorem transmitDone (ok : Bands s) : Bands (transmitDone s) := by
  unfold Machine.transmitDone replySent
  dsimp only
  split
  · exact ok
  · exact (ok.withLink _).takeNext
  · exact ok
  · exact ok

/-! ### Events and time -/

theorem takeFrame (ok : Bands s) : Bands (takeFrame s) := by
  unfold Machine.takeFrame scrollFrame
  have owed : Bands { s with scroll := { s.scroll with framesOwed := s.scroll.framesOwed - 1 } } := ok
  exact congr (release (owed.congr (by simp))) (ring_countFrame _)

theorem tickMs (ok : Bands s) : Bands (tickMs s) := by
  unfold Machine.tickMs
  extract_lets _ s1 s2 s3 s4 s5 s6
  have before : Bands s5 := by
    refine congr (s := s1) ok ?_
    rw [ring_tickFrameTimer, ring_foldl ring_tickLoad, ring_tickRelease, ring_foldl ring_tickPort]
  have heads : Bands s6 := List.foldlRecOn (motive := Bands) _ _ before fun _ ok h _ => ok.tickHead h
  exact heads.withCues _

/-- The idle step (log 2). -/
theorem tick (ok : Bands s) : Bands (tick s) := by
  unfold Machine.tick
  (repeat' split)
  · exact ok
  · exact ok.takeFrame.congr (ring_pump _)
  · exact ok.tickMs.congr (ring_pump _)

/-- An event of the engine. -/
theorem live_event (ok : Bands s) {f : State → State} (hf : Bands (f s)) (h : Machine.live f s = .next t) : Bands t := by
  unfold Machine.live at h
  split at h <;> cases h
  · exact ok
  · exact hf.congr (ring_pump _)

/-- An event that leaves the ring. -/
theorem quiet_event (ok : Bands s) {f : State → State} (hf : ring (f s) = ring s) (h : Machine.live f s = .next t) : Bands t :=
  ok.live_event (ok.congr hf) h

/-- A host command, taken at once or put into the receive queue (log 5). -/
theorem submit (ok : Bands s) {i : Instr} {run : State → State} (hrun : Bands (run s)) (h : Machine.submit i run s = .next t) :
    Bands t := by
  unfold Machine.submit at h
  split_ifs at h <;> cases h
  · exact ok
  · exact hrun.congr (ring_pump _)
  · exact ok.frameArrives _

/-- Every row of the table keeps the bands. -/
theorem exec (ok : Bands s) {i : Instr} (h : exec i s = .next t) : Bands t := by
  have command (h : Machine.submit i (Machine.runCommand i) s = .next t) : Bands t := ok.submit (ok.runCommand i) h
  cases i
  case unknownCommand => exact ok.submit (ok.interpret _) h
  case linkFrame bytes =>
    simp only [Machine.exec, execLinkFrame] at h
    split_ifs at h <;> cases h
    · exact ok
    · exact List.foldlRecOn (motive := Bands) bytes _ ok fun _ ok b _ => ok.receiveByte b
  case transmitDone => exact ok.live_event ok.transmitDone h
  case controllerReport port bytes =>
    exact ok.quiet_event (f := fun s => bytes.foldl (Machine.receivePortByte port) s) (ring_foldl (ring_receivePortByte port) ..) h
  case reportTimeout => exact ok.quiet_event (ring_reportTimeout ..) h
  case releaseTimerExpiry => exact ok.quiet_event (ring_releaseExpiry _) h
  case loadIdleTimeout => exact ok.quiet_event (ring_loadIdleExpiry ..) h
  case internalTimerExpiry => exact ok.quiet_event (ring_internalExpiry ..) h
  case byteGapTimeout | lineBreak | portByteGapTimeout => exact ok.quiet_event rfl h
  case pulseEnd line => exact ok.quiet_event (f := fun s => s.modLine line CueLine.pulseEnd) rfl h
  case scrollFrame => exact ok.live_event ok.takeFrame h
  case reflowComplete => exact ok.live_event ok.reflowComplete h
  case frameStart => exact ok.live_event (ok.frameStart _) h
  case syncLossExpiry => exact ok.live_event (ok.syncLoss _) h
  case renderComplete => exact ok.live_event ok.renderComplete h
  case powerUp =>
    simp only [Machine.exec, execPowerUp] at h
    split_ifs at h <;> cases h
    · exact ok
    · exact fullReset ..
  case resetPinAssert =>
    cases h
    exact heldInReset s
  case resetPinRelease =>
    cases h
    exact fullReset ..
  case restartReset => exact ok.live_event (ok.restartReset _) h
  all_goals exact command h

theorem step (ok : Bands s) (h : step s = .next t) : Bands t := by
  unfold Machine.step at h
  split at h
  · cases h
    exact ok.tick
  · next rest _ => exact exec (s := { s with pending := rest }) ok h

end Bands

/-- Settles O60: the bands keep their order. -/
theorem everyStepKeepsTheBands : Obligations.EveryStepKeepsTheBands := by
  intro s t ok h
  exact (bandInv_iff t).mpr (Bands.step ((bandInv_iff s).mp ok) h)

end Sys2Proof.Machine
end

section
/-! The head commands (R130 to R135). -/

namespace Sys2Proof.Machine

theorem headOf_eq {head : Byte} {h : Fin 4} (same : head.toNat = h.val) : headOf head = some h := by simp [headOf, same]

theorem headOf_eq_none {head : Byte} (high : 4 ≤ head.toNat) : headOf head = none := dif_neg (Nat.not_lt.mpr high)

theorem holdsRows_iff {g : Geometry} {s : State} : g.holdsRows s.layout = true ↔ HoldsRows g s := by
  unfold Geometry.holdsRows Geometry.holds HoldsRows
  cases s.layout.target <;> simp

/-! ### HEAD_CONFIG -/

/-- The rate that a code names (R170). -/
theorem rateOf_eq (rate : Byte) :
    rateOf rate = if rate.toNat ≤ 2 then some (if rate = 0 then .hz50 else if rate = 1 then .hz5994 else .hz60) else none := by
  have code (n : Nat) (small : n < 256) : rate = BitVec.ofNat 8 n ↔ rate.toNat = n := by
    rw [← BitVec.toNat_inj, BitVec.toNat_ofNat, Nat.mod_eq_of_lt small]
  have zero := code 0 (by decide)
  have one := code 1 (by decide)
  unfold rateOf
  split
  · next h => simp [zero, h]
  · next h => simp [zero, one, h]
  · next h => simp [zero, one, h]
  · next none some two =>
    have high : ¬ rate.toNat ≤ 2 := fun low => by
      obtain h | h | h : rate.toNat = 0 ∨ rate.toNat = 1 ∨ rate.toNat = 2 := by omega
      exacts [none h, some h, two h]
    rw [if_neg high]

/-- A geometry is made of fields in their ranges (R129, R130). -/
theorem geometryOf_eq (width height : Word16) (scale leading : Byte) (margin : Word16) (reading rate : Byte) :
    geometryOf width height scale leading margin reading rate =
      if (320 ≤ width.toNat ∧ width.toNat ≤ 1920 ∧ width.toNat % 16 = 0) ∧ (240 ≤ height.toNat ∧ height.toNat ≤ 1080)
          ∧ (1 ≤ scale.toNat ∧ scale.toNat ≤ 4) ∧ leading.toNat ≤ 31 ∧ (margin.toNat ≤ 256 ∧ margin.toNat % 16 = 0)
          ∧ rate.toNat ≤ 2 then
        some ⟨width.toNat, height.toNat, scale.toNat, leading.toNat, margin.toNat, reading.toNat,
          if rate = 0 then .hz50 else if rate = 1 then .hz5994 else .hz60⟩
      else none := by
  unfold geometryOf
  rw [rateOf_eq]
  by_cases known : rate.toNat ≤ 2
  · simp only [known, if_true, and_true, Bool.and_eq_true, inRange_iff, decide_eq_true_eq, Nat.zero_le, true_and, and_assoc]
  · simp only [known, if_false, and_false]

section
variable {seq head : Byte} {h : Fin 4} {s : State} (ready : Ready s) (same : head.toNat = h.val)
include ready same

/-- HEAD_CONFIG with settings in their ranges, by its further checks in order (R130). -/
theorem exec_headConfig {width height : Word16} {scale leading : Byte} {margin : Word16} {reading rate : Byte} {g : Geometry}
    (given : geometryOf width height scale leading margin reading rate = some g) :
    let c := exec (.headConfig seq head width height scale leading margin reading rate) s
    let refusedBy := fun r => Host.Outcome.next (answered (reasonReply 0x70 seq r) s)
    if (s.heads[h]).state ≠ .disabled then c = refusedBy .headActive
    else if g.windowRows < 1 ∨ 15 < g.windowRows then c = refusedBy .rowsExceed
    else if g.windowRows ≤ g.readingRow then c = refusedBy .badValue
    else if ¬ HoldsRows g s then c = refusedBy .headTooNarrow
    else ∃ t, c = .next t ∧ HeadChanged h (fun x => { x with geometry := g }) s t ∧ HeadFrame s t ∧ SourceRefreshed s t
      ∧ t.link = (answered (okReply 0x70 seq (.geometry g.pitch g.windowRows)) s).link := by
  have length : (payloadOf (.headConfig seq head width height scale leading margin reading rate)).length ≤ 220 := by
    simp [payloadOf, bytes16]
  have refused {r : Reason} (fault : headConfigFault h g s = some r) :
      exec (.headConfig seq head width height scale leading margin reading rate) s = .next (answered (reasonReply 0x70 seq r) s) :=
    exec_refuse 0x30 ready length rfl rfl (by simp only [runCommand, cmdHeadConfig, headOf_eq same, given, fault])
  have rows : (!inRange 1 15 g.windowRows) = true ↔ g.windowRows < 1 ∨ 15 < g.windowRows := by
    rw [Bool.not_eq_true', Bool.eq_false_iff, Ne, inRange_iff]
    omega
  have narrow : (!g.holdsRows s.layout) = true ↔ ¬ HoldsRows g s := by
    rw [Bool.not_eq_true', Bool.eq_false_iff, Ne, holdsRows_iff]
  have fault : headConfigFault h g s =
      if (s.heads[h]).state ≠ .disabled then some .headActive
      else if g.windowRows < 1 ∨ 15 < g.windowRows then some .rowsExceed
      else if g.windowRows ≤ g.readingRow then some .badValue
      else if ¬ HoldsRows g s then some .headTooNarrow
      else none := by
    unfold headConfigFault
    simp only [rows, narrow]
  dsimp only
  split_ifs at fault ⊢
  any_goals exact refused fault
  have moved := (headMoved_refreshSource h (fun x => { x with geometry := g }) s).answered
    (okReply 0x70 seq (.geometry g.pitch g.windowRows))
  refine ⟨_, exec_answer 0x30 ready length rfl rfl ?_ ?_, moved.head, moved.frame, moved.source, moved.link⟩
  · simp
  · simp only [runCommand, cmdHeadConfig, headOf_eq same, given, fault]
    rfl

end

/-- Settles O47: the settings in their ranges make a geometry, and the further checks are those of the command. -/
theorem headConfigReplacesTheGeometry : Obligations.HeadConfigReplacesTheGeometry := by
  intro seq head width height scale leading margin reading rate s ready
  refine ⟨fun bad => ?_, fun ⟨_, ranges⟩ h same => ?_⟩
  · refine exec_refuse 0x30 ready (by simp [payloadOf, bytes16]) rfl rfl ?_
    simp only [runCommand, cmdHeadConfig]
    by_cases known : head.toNat < 4
    · rw [geometryOf_eq, if_neg fun ranges => bad ⟨known, ranges⟩, headOf_eq (h := ⟨head.toNat, known⟩) rfl]
    · rw [headOf_eq_none (Nat.not_lt.mp known)]
  · exact exec_headConfig ready same ((geometryOf_eq ..).trans (if_pos ranges))

/-! ### HEAD_START and HEAD_STOP -/

section
variable {seq head : Byte} {h : Fin 4} {s : State} (ready : Ready s) (same : head.toNat = h.val)
include ready same

/-- HEAD_START of a head that is on or too narrow (R131). -/
theorem exec_headStart_refused : ((s.heads[h]).state ≠ .disabled →
      exec (.headStart seq head) s = .next (answered (reasonReply 0x71 seq .headActive) s))
    ∧ ((s.heads[h]).state = .disabled → ¬ HoldsRows (s.heads[h]).geometry s →
      exec (.headStart seq head) s = .next (answered (reasonReply 0x71 seq .headTooNarrow) s)) := by
  have length : (payloadOf (.headStart seq head)).length ≤ 220 := by simp [payloadOf]
  refine ⟨fun on => ?_, fun off narrow => ?_⟩
  · exact exec_refuse 0x31 ready length rfl rfl (by simp only [runCommand, cmdHeadStart, headOf_eq same]; exact if_pos on)
  · refine exec_refuse 0x31 ready length rfl rfl ?_
    simp only [runCommand, cmdHeadStart, headOf_eq same]
    rw [if_neg (not_not.mpr off), if_pos]
    rw [Bool.not_eq_true', Bool.eq_false_iff, Ne, holdsRows_iff]
    exact narrow

/-- HEAD_START prepares the head and enters STARTING (R131). -/
theorem exec_headStart (off : (s.heads[h]).state = .disabled) (holds : HoldsRows (s.heads[h]).geometry s) :
    ∃ t, exec (.headStart seq head) s = .next t
      ∧ HeadMoved h (fun x => { x.prepare with state := .starting })
          (answered (okReply 0x71 seq .bare) (raise (.headState h .starting .disabled) s)) s t := by
  have moved := headMoved_setHeadState (f := Head.prepare) (s := s) (h := h) rfl .starting
  rw [off] at moved
  refine ⟨_, exec_answer 0x31 ready (by simp [payloadOf]) rfl rfl ?_ ?_, moved.answered _⟩
  · simp [moved.link]
  · simp only [runCommand, cmdHeadStart, headOf_eq same]
    rw [if_neg (not_not.mpr off), if_neg]
    · rfl
    · rw [Bool.not_eq_true', Bool.not_eq_false, holdsRows_iff]
      exact holds

/-- HEAD_STOP answers with the state that it leaves the head in (R135, log 44). -/
theorem exec_headStop {t : State} (stopped : stopHead h s = t) (restart : t.link.restart = s.link.restart) :
    exec (.headStop seq head) s = .next (answered (okReply 0x72 seq (.headState (t.heads[h]).state)) t) := by
  refine exec_answer 0x32 ready (by simp [payloadOf]) rfl rfl restart ?_
  simp only [runCommand, cmdHeadStop, headOf_eq same, stopped]
  rfl

end

/-- The entries of a vector of halves with their sets emptied (R134, R135). -/
theorem clearRequests_halves (x : Head) (half : Fin 2) : x.clearRequests.halves[half] = { x.halves[half] with remaining := [] } :=
  updAll_get ..

/-- Settles O48: each command is a change of the head, or a refusal. -/
theorem headsStartAndStop : Obligations.HeadsStartAndStop := by
  intro seq head s ready
  refine ⟨fun high => ⟨?_, ?_⟩, fun h same => ?_⟩
  · exact exec_refuse 0x31 ready (by simp [payloadOf]) rfl rfl (by simp only [runCommand, cmdHeadStart, headOf_eq_none high])
  · exact exec_refuse 0x32 ready (by simp [payloadOf]) rfl rfl (by simp only [runCommand, cmdHeadStop, headOf_eq_none high])
  obtain ⟨active, narrow⟩ := exec_headStart_refused (seq := seq) ready same
  refine ⟨active, narrow, fun off holds => ?_, fun off => ?_, fun disabled stopping busy => ?_, fun disabled stopping idle => ?_⟩
  · obtain ⟨t, run, moved⟩ := exec_headStart (seq := seq) ready same off holds
    exact ⟨t, run, moved.head, moved.frame, moved.source, moved.link⟩
  · exact exec_headStop ready same (stopHead_of_off off) rfl
  · have moved := headMoved_clearRequests h .stopping s
    have stopped := (stopHead_of_on disabled stopping).trans (if_pos (inRender_iff.mpr busy))
    have run := exec_headStop (seq := seq) ready same stopped (by rw [moved.link]; simp)
    rw [moved.head.1] at run
    have reply := moved.answered (okReply 0x72 seq (.headState .stopping))
    exact ⟨_, _, run, reply.head, clearRequests_halves s.heads[h], reply.frame, reply.source, reply.link⟩
  · have moved := headMoved_enterDisabled h s
    have unrendered : ¬ inRender h s = true := fun busy => by
      obtain ⟨j, job, own⟩ := inRender_iff.mp busy
      exact idle j job own
    have stopped := (stopHead_of_on disabled stopping).trans (if_neg unrendered)
    have run := exec_headStop (seq := seq) ready same stopped (by rw [moved.link]; simp)
    rw [moved.head.1] at run
    have reply := moved.answered (okReply 0x72 seq (.headState .disabled))
    exact ⟨_, run, reply.head, reply.frame, reply.source, reply.link⟩

/-! ### HEAD_BLANK and HEAD_UNBLANK -/

/-- Settles O49: each command is a change of the head, an answer, or a refusal. -/
theorem headsBlankAndUnblank : Obligations.HeadsBlankAndUnblank := by
  intro seq head s ready
  have blank : (payloadOf (.headBlank seq head)).length ≤ 220 := by simp [payloadOf]
  have unblank : (payloadOf (.headUnblank seq head)).length ≤ 220 := by simp [payloadOf]
  refine ⟨fun high => ⟨?_, ?_⟩, fun h same => ⟨fun shown => ?_, fun starting running => ?_, fun blanked => ?_, fun shown => ?_,
    fun off => ?_⟩⟩
  · exact exec_refuse 0x33 ready blank rfl rfl (by simp only [runCommand, cmdHeadBlank, headOf_eq_none high])
  · exact exec_refuse 0x34 ready unblank rfl rfl (by simp only [runCommand, cmdHeadUnblank, headOf_eq_none high])
  · have moved := headMoved_clearRequests h .blanked s
    have reply := moved.answered (okReply 0x73 seq .bare)
    refine ⟨_, _, exec_answer 0x33 ready blank rfl rfl ?_ ?_, reply.head, clearRequests_halves s.heads[h], reply.frame, reply.source,
      reply.link⟩
    · rw [moved.link]
      simp
    · simp only [runCommand, cmdHeadBlank, headOf_eq same]
      exact if_pos shown
  · refine exec_refuse 0x33 ready blank rfl rfl ?_
    simp only [runCommand, cmdHeadBlank, headOf_eq same]
    exact if_neg (not_or.mpr ⟨starting, running⟩)
  · have moved := headMoved_setHeadState (f := id) (s := s) (h := h) rfl .starting
    rw [modHead_id rfl, blanked] at moved
    have reply := moved.answered (okReply 0x74 seq .bare)
    refine ⟨_, exec_answer 0x34 ready unblank rfl rfl ?_ ?_, reply.head, reply.frame, reply.source, reply.link⟩
    · rw [moved.link]
      simp
    · simp only [runCommand, cmdHeadUnblank, headOf_eq same, blanked]
      rfl
  · refine exec_answer 0x34 ready unblank rfl rfl rfl ?_
    rcases shown with shown | shown <;> simp only [runCommand, cmdHeadUnblank, headOf_eq same, shown] <;> rfl
  · refine exec_refuse 0x34 ready unblank rfl rfl ?_
    rcases off with off | off <;> simp only [runCommand, cmdHeadUnblank, headOf_eq same, off]

end Sys2Proof.Machine
end

section
/-! HEAD_APPEARANCE, the picture of a head and the pixels of a drawn row (R132, R133, R143, R151 to R155). -/

namespace Sys2Proof.Machine

/-! ### HEAD_APPEARANCE -/

theorem yesNoOk_iff {b : Byte} : yesNoOk b = true ↔ b.toNat ≤ 1 := decide_eq_true_iff

/-- The on/off fields of an appearance are 0 or 1 (R132). -/
def OnOff (f : AppearanceFields) : Prop := f.mirror.toNat ≤ 1 ∧ f.flip.toNat ≤ 1 ∧ f.marker.toNat ≤ 1 ∧ f.arrows.toNat ≤ 1

/-- The record that the fields give (R132, R170). -/
def appearanceGiven (f : AppearanceFields) : Appearance :=
  { mirror := decide (f.mirror = 1), flip := decide (f.flip = 1), text := #v[f.text0, f.text1, f.text2, f.text3]
    background := f.background, marker := decide (f.marker = 1), markerColour := f.markerColour, arrows := decide (f.arrows = 1) }

theorem onOff_iff {f : AppearanceFields} :
    (yesNoOk f.mirror && yesNoOk f.flip && yesNoOk f.marker && yesNoOk f.arrows) = true ↔ OnOff f := by
  simp only [Bool.and_eq_true, yesNoOk_iff, and_assoc, OnOff]

theorem appearanceOf_some {f : AppearanceFields} (ok : OnOff f) : appearanceOf f = some (appearanceGiven f) := if_pos (onOff_iff.mpr ok)

theorem appearanceOf_none {f : AppearanceFields} (bad : ¬ OnOff f) : appearanceOf f = none := if_neg (mt onOff_iff.mp bad)

/-- The new record waits, but on a DISABLED head (R132). -/
theorem offerAppearance_eq (a : Appearance) (x : Head) : x.offerAppearance a =
    if x.state = .disabled then { x with appearance := a, pendingAppearance := none } else { x with pendingAppearance := some a } := by
  unfold Head.offerAppearance
  dsimp only
  split
  · rw [takeAppearance_eq]
    rfl
  · rfl

/-! ### The picture of a head -/

section
variable {x : Head} {f : ScanFrame} {col line : Nat}

/-- The marker's two lines lie over the rows (R143). -/
theorem framePixel_eq (x : Head) (f : ScanFrame) (col line : Nat) : x.framePixel f col line =
    if x.appearance.marker = true
        ∧ (line = x.geometry.readingRow * x.geometry.pitch ∨ line = x.geometry.readingRow * x.geometry.pitch + 1) then
      x.appearance.markerColour
    else x.rowPixel f col line := by
  unfold Head.framePixel
  simp only [Bool.and_eq_true, Bool.or_eq_true, beq_iff_eq]

/-- Below the window's rows, in the leading, and in a row that was not ready there is background (R143). -/
theorem rowPixel_of_none (none : x.geometry.windowRows * x.geometry.pitch ≤ line
      ∨ 32 * x.geometry.scale ≤ ((f.top + line) % (x.geometry.pitch : Int)).toNat
      ∨ ∀ e ∈ f.ready, e.1 ≠ (f.top + line) / (x.geometry.pitch : Int)) :
    x.rowPixel f col line = x.appearance.background := by
  unfold Head.rowPixel
  dsimp only
  split
  · rfl
  · next inside =>
    obtain ⟨low, high⟩ := not_or.mp inside
    have unready := (none.resolve_left low).resolve_left high
    have absent : (f.ready.find? fun e => e.1 == (f.top + line) / (x.geometry.pitch : Int)) = Option.none := by
      rw [List.find?_eq_none]
      intro e he
      rw [beq_iff_eq]
      exact unready e he
    rw [absent]

section
variable {before after : List (Int × Fin 32)} {slot : Fin 32}
  (ready : f.ready = before ++ ((f.top + line) / (x.geometry.pitch : Int), slot) :: after)
  (first : ∀ e ∈ before, e.1 ≠ (f.top + line) / (x.geometry.pitch : Int))
include ready first

theorem find_ready : (f.ready.find? fun e => e.1 == (f.top + line) / (x.geometry.pitch : Int))
    = some ((f.top + line) / (x.geometry.pitch : Int), slot) := by
  have none : (before.find? fun e => e.1 == (f.top + line) / (x.geometry.pitch : Int)) = none := by
    rw [List.find?_eq_none]
    intro e he
    rw [beq_iff_eq]
    exact first e he
  rw [ready, List.find?_append, none, List.find?_cons]
  simp

variable (low : line < x.geometry.windowRows * x.geometry.pitch)
  (high : ((f.top + line) % (x.geometry.pitch : Int)).toNat < 32 * x.geometry.scale)
include low high

/-- A line of a row that was ready, while its slot is VALID (R143). -/
theorem rowPixel_of_valid {tag : RowIdentity} {d : Drawing} (valid : x.slots[slot] = .valid tag d) : x.rowPixel f col line =
    if d.width ≤ col then x.appearance.background
    else x.appearance.colourOf (d.pixel col ((f.top + line) % (x.geometry.pitch : Int)).toNat) := by
  unfold Head.rowPixel
  dsimp only
  rw [if_neg (not_or.mpr ⟨Nat.not_le.mpr low, Nat.not_le.mpr high⟩), find_ready ready first]
  dsimp only
  rw [valid]
  by_cases past : d.width ≤ col
  · rw [if_pos past]
    exact if_neg (Nat.not_lt.mpr past)
  · rw [if_neg past]
    exact if_pos (Nat.not_le.mp past)

theorem rowPixel_of_invalid (invalid : ∀ tag d, x.slots[slot] ≠ .valid tag d) : x.rowPixel f col line = x.appearance.background := by
  unfold Head.rowPixel
  dsimp only
  rw [if_neg (not_or.mpr ⟨Nat.not_le.mpr low, Nat.not_le.mpr high⟩), find_ready ready first]
  dsimp only
  split
  · next tag d valid => exact absurd valid (invalid tag d)
  all_goals rfl

end

end

section
variable {s : State} {n : Fin 4}

theorem headPixel_of_disabled (off : (s.heads[n]).state = .disabled) (x i : Nat) : headPixel s n x i = ⟨⟨0, 0, 0⟩, false⟩ := by
  unfold headPixel
  dsimp only
  rw [off]

theorem headPixel_of_quiet (on : (s.heads[n]).state ≠ .disabled) (quiet : (s.heads[n]).state ≠ .running) (x i : Nat) :
    headPixel s n x i = ⟨(s.heads[n]).appearance.background, true⟩ := by
  unfold headPixel
  dsimp only
  split
  · contradiction
  · contradiction
  all_goals rfl

theorem headPixel_of_running {f : ScanFrame} (running : (s.heads[n]).state = .running) (frame : (s.heads[n]).frame = some f)
    (x i : Nat) : headPixel s n x i =
      ⟨(s.heads[n]).framePixel f ((s.heads[n]).turned x i).1 ((s.heads[n]).turned x i).2, true⟩ := by
  unfold headPixel
  dsimp only
  rw [running, frame]

end

/-! ### A drawn row -/

theorem styledChars_char (st : Style) (cells : List Cell) : (styledChars st cells).map StyledChar.char = cells.map Cell.char := by
  induction cells generalizing st with
  | nil => rfl
  | cons c rest ih => simp [styledChars, ih]

/-- A character's style is what all the codes up to it make of the style at the start (R152). -/
theorem styledChars_style {st : Style} {cells : List Cell} {k : Nat} {c : StyledChar} (found : (styledChars st cells)[k]? = some c) :
    c.style = ((cells.take (k + 1)).flatMap Cell.codes).foldl Style.apply st := by
  induction cells generalizing st k with
  | nil => simp [styledChars] at found
  | cons cell rest ih =>
    rw [List.take_succ_cons, List.flatMap_cons, List.foldl_append]
    cases k with
    | zero =>
      simp only [styledChars, List.getElem?_cons_zero, Option.some.injEq] at found
      rw [← found]
      rfl
    | succ k =>
      rw [styledChars, List.getElem?_cons_succ] at found
      exact ih found

/-- A pixel of the margin (R151, R154). -/
theorem pixel_of_margin {d : Drawing} {x : Nat} (left : x < d.margin) (y : Nat) : d.pixel x y =
    if d.arrow = true ∧ d.margin - min d.margin (16 * d.scale) ≤ x
        ∧ arrowPixel (min d.margin (16 * d.scale)) (32 * d.scale) (x - (d.margin - min d.margin (16 * d.scale))) y = true then .arrow
    else .background := by
  rw [Drawing.pixel, if_pos left]
  unfold Drawing.marginPixel Drawing.arrowWidth
  simp only [Bool.and_eq_true, decide_eq_true_eq, and_assoc]

theorem pixel_of_char {d : Drawing} {x : Nat} (right : d.margin ≤ x) {c : StyledChar}
    (found : d.chars[(x - d.margin) / (16 * d.scale)]? = some c) (y : Nat) : d.pixel x y =
      if glyphPoint c.char ((x - d.margin) % (16 * d.scale) / d.scale) (y / d.scale) = c.style.emphasis then .background
      else .text c.style.colour := by
  rw [Drawing.pixel, if_neg (Nat.not_lt.mpr right), found]
  unfold StyledChar.pixel
  simp only [beq_iff_eq]

theorem pixel_past_chars {d : Drawing} {x : Nat} (right : d.margin ≤ x) (past : d.chars.length ≤ (x - d.margin) / (16 * d.scale))
    (y : Nat) : d.pixel x y = .background := by
  rw [Drawing.pixel, if_neg (Nat.not_lt.mpr right), List.getElem?_eq_none past]

/-- The base column is inside the arrow, and so is what lies wholly between its edges (R154, log 13). -/
theorem arrowPixel_inside {w h x y : Nat}
    (inside : x = 0 ∨ (x + 1) * h ≤ 2 * w * y ∧ (x + 1) * h ≤ 2 * w * (h - (y + 1))) : arrowPixel w h x y = true := by
  unfold arrowPixel
  split
  · rfl
  · next other => rw [if_pos (inside.resolve_left other)]

theorem arrowPixel_outside {w h x y : Nat} (right : 0 < x)
    (apart : ¬ ((x + 1) * h ≤ 2 * w * y ∧ (x + 1) * h ≤ 2 * w * (h - (y + 1))))
    (outside : 2 * w * (y + 1) ≤ x * h ∨ 2 * w * (h - y) ≤ x * h) : arrowPixel w h x y = false := by
  rw [arrowPixel, if_neg (Nat.pos_iff_ne_zero.mp right), if_neg apart, if_pos outside]

theorem glyphPoint_space (x y : Nat) : glyphPoint 0x20 x y = false := if_pos rfl

/-- A character without a pattern is drawn as the substitute glyph (R155). -/
theorem glyphPoint_substitute {char : Byte} (other : char ≠ 0x20) (outside : char.toNat < 0x21 ∨ 0x7E < char.toNat) (x y : Nat) :
    glyphPoint char x y = true ↔ 1 ≤ x ∧ x ≤ 14 ∧ 1 ≤ y ∧ y ≤ 30 ∧ (x = 1 ∨ x = 14 ∨ y = 1 ∨ y = 30) := by
  have free : ¬ (0x21 ≤ char.toNat ∧ char.toNat ≤ 0x7E) := by omega
  rw [glyphPoint, if_neg (c := char = spaceByte) other, if_neg free]
  simp only [substitutePoint, Bool.and_eq_true, Bool.or_eq_true, decide_eq_true_eq, beq_iff_eq, and_assoc, or_assoc]

/-! ### The obligation -/

/-- HEAD_APPEARANCE's part of the statement (R132). -/
theorem exec_headAppearance (seq head : Byte) (f : AppearanceFields) {s : State} (ready : Ready s) :
    ((4 ≤ head.toNat ∨ ¬ OnOff f) →
        exec (.headAppearance seq head f) s = .next (answered (reasonReply 0x75 seq .badValue) s))
      ∧ (OnOff f → ∀ h : Fin 4, head.toNat = h.val → exec (.headAppearance seq head f) s =
        .next (answered (okReply 0x75 seq .bare) (s.modHead h (Head.offerAppearance (appearanceGiven f))))) := by
  have length : (payloadOf (.headAppearance seq head f)).length ≤ 220 := by simp [payloadOf, bytesAppearance, bytesColour]
  refine ⟨fun bad => ?_, fun ok h same => ?_⟩
  · refine exec_refuse 0x35 ready length rfl rfl ?_
    simp only [runCommand, cmdHeadAppearance]
    split
    · next named given =>
      rcases bad with high | bad
      · cases (headOf_eq_none high).symm.trans named
      · cases (appearanceOf_none bad).symm.trans given
    · rfl
  · exact exec_answer 0x35 ready length rfl rfl rfl
      (by simp only [runCommand, cmdHeadAppearance, headOf_eq same, appearanceOf_some ok]; rfl)

/-- Settles O50: the command, the picture and the row, each by the lemmas above. -/
theorem headAppearanceIsMadePending : Obligations.HeadAppearanceIsMadePending := by
  refine ⟨fun seq head f s ready => ⟨(exec_headAppearance seq head f ready).1, fun ok h same => ?_⟩, fun s n x i => ?_,
    fun d x y _ => ⟨fun left => pixel_of_margin left y, ?_, fun k c found => styledChars_style found,
      fun right past => pixel_past_chars right past y, fun right c found => pixel_of_char right found y⟩,
    fun w h y => ⟨arrowPixel_inside (.inl rfl), fun x right =>
      ⟨fun inside => arrowPixel_inside (.inr inside), fun apart outside => arrowPixel_outside right apart outside⟩⟩,
    fun x y => ⟨glyphPoint_space x y, fun char other outside => glyphPoint_substitute other outside x y⟩⟩
  · have changed := headChanged_modHead h (Head.offerAppearance (appearanceGiven f)) s
    refine ⟨_, appearanceGiven f, (exec_headAppearance seq head f ready).2 ok h same, ?_, ?_, ?_, rfl, ?_⟩
    · simp [appearanceGiven]
    · exact ⟨changed.1.trans (offerAppearance_eq ..), changed.2⟩
    · simp [HeadFrame]
    · rfl
  · refine ⟨fun off => ?_, fun on quiet => headPixel_of_quiet on quiet x i, fun f frame running _ _ => ?_⟩
    · rw [headPixel_of_disabled off]
    · rw [headPixel_of_running running frame]
      refine ⟨rfl, fun marked => ?_, fun plain outside => ?_, fun plain low high before slot after ready first => ⟨fun invalid => ?_,
        fun tag d valid => ?_⟩⟩ <;> dsimp only <;> rw [framePixel_eq]
      · exact if_pos marked
      · exact (if_neg plain).trans (rowPixel_of_none outside)
      · exact (if_neg plain).trans (rowPixel_of_invalid ready first low high invalid)
      · refine (if_neg plain).trans ((rowPixel_of_valid ready first low high valid).trans ?_)
        dsimp only [Head.turned, Geometry.pitch]
        refine if_congr Iff.rfl rfl ?_
        cases d.pixel _ _ <;> rfl
  · exact styledChars_char _ _

end Sys2Proof.Machine
end

section
/-! The arbiter's order (R148, R149): the request and the slot that come first, and the turns that it takes. -/

namespace Sys2Proof.Machine

/-! ### The first by a key -/

/-- The first of a list comes before no other by a key that the order follows, ties going to the element that stands earlier. -/
theorem firstBy_least {α β : Type} [LinearOrder β] {before : α → α → Bool} {key : α → β} {l : List α}
    (follows : l.Pairwise fun a b => if before b a = true then key b < key a else key a ≤ key b) {x : α}
    (first : firstBy before l = some x) : ∀ y ∈ l, key x ≤ key y := by
  induction l generalizing x with
  | nil => cases first
  | cons z rest ih =>
    obtain ⟨here, later⟩ := List.pairwise_cons.mp follows
    unfold firstBy at first
    split at first
    · next none =>
      cases first
      rw [firstBy_eq_none_iff.mp none]
      simp
    · next y found =>
      have least := ih later found
      have order := here y (firstBy_mem found)
      split at first <;> cases first
      · next earlier =>
        rw [if_pos earlier] at order
        exact List.forall_mem_cons.mpr ⟨order.le, least⟩
      · next earlier =>
        rw [if_neg earlier] at order
        exact List.forall_mem_cons.mpr ⟨le_rfl, fun w hw => order.trans (least w hw)⟩

/-- The first of a list by an order that is that of a key. -/
theorem firstBy_least_of_iff {α β : Type} [LinearOrder β] {before : α → α → Bool} {key : α → β} {l : List α}
    (follows : ∀ a ∈ l, ∀ b ∈ l, before b a = true ↔ key b < key a) {x : α} (first : firstBy before l = some x) :
    ∀ y ∈ l, key x ≤ key y := by
  refine firstBy_least (List.pairwise_iff_forall_sublist.mpr fun {a b} sub => ?_) first
  have order := follows a (sub.subset (by simp)) b (sub.subset (by simp))
  split
  · next earlier => exact order.mp earlier
  · next earlier => exact not_lt.mp (mt order.mpr earlier)

/-! ### What is visible -/

theorem slotRow_eq_map (x : Head) (slot : Fin 32) : x.slotRow slot = (x.slotPlace slot).map fun q => q + x.bias := rfl

/-- The place in the ring of a slot, by its row (R137). -/
theorem slotPlace_of_slotRow {x : Head} {slot : Fin 32} {r : Int} (row : x.slotRow slot = some r) :
    x.slotPlace slot = some (r - x.bias) := by
  obtain ⟨q, place, rfl⟩ := Option.map_eq_some_iff.mp row
  rw [place, Int.add_sub_cancel]

theorem slotVisible_eq (s : State) (h : Fin 4) (slot : Fin 32) : slotVisible s h slot = s.inView h slot := by
  unfold slotVisible State.inView
  dsimp only
  rw [slotRow_eq_map]
  cases (s.heads[h]).slotPlace slot with
  | none => rfl
  | some q => simp only [Option.map_some, Int.add_sub_cancel, Bool.decide_and, Bool.and_assoc]

theorem visibleLeft_eq (s : State) (h : Fin 4) (half : Fin 2) :
    visibleLeft s h half = ((s.heads[h]).halves[half]).remaining.filter (s.inView h) := by
  rw [visibleLeft, funext (slotVisible_eq s h)]

/-! ### The request -/

/-- The rank with the head and the half are R148's four keys. -/
theorem requestKey_eq (s : State) (h : Fin 4) (half : Fin 2) :
    requestKey s h half = [(requestRank s h half).1, (requestRank s h half).2, h.val, half.val] := by
  unfold requestKey requestRank
  dsimp only
  rw [visibleLeft_eq]
  split
  · split
    · next none => rw [none]; rfl
    · rfl
  · rfl

theorem pairwise_allHalves : allHalves.Pairwise fun a b => a.1 < b.1 ∨ a.1 = b.1 ∧ a.2 < b.2 := by decide

/-- The request that R148 ranks first. -/
theorem bestRequest_least {s : State} {h : Fin 4} {half : Fin 2} (best : bestRequest s = some (h, half)) (g : Fin 4) (k : Fin 2)
    (asks : ((s.heads[g]).halves[k]).remaining ≠ []) : ¬ requestKey s g k < requestKey s h half := by
  have order : (requests s).Pairwise fun a b => a.1 < b.1 ∨ a.1 = b.1 ∧ a.2 < b.2 := pairwise_allHalves.filter _
  refine not_lt.mpr (firstBy_least (key := fun a : Fin 4 × Fin 2 => requestKey s a.1 a.2) (order.imp fun {a b} earlier => ?_) best
    (g, k) (mem_requests.mpr asks))
  have earlier : a.1.val < b.1.val ∨ a.1.val = b.1.val ∧ a.2.val < b.2.val := earlier.imp_right (And.imp_left (congrArg Fin.val))
  simp only [requestKey_eq, rankBefore, Bool.or_eq_true, Bool.and_eq_true, decide_eq_true_eq, beq_iff_eq]
  generalize requestRank s a.1 a.2 = ra, requestRank s b.1 b.2 = rb
  split
  · next before =>
    simp only [List.cons_lt_cons_iff]
    omega
  · next before =>
    rw [← not_lt]
    simp only [List.cons_lt_cons_iff]
    omega

/-! ### The slot -/

/-- R149's order of two slots that are both visible, or both not. -/
theorem slotBefore_iff {s : State} {h : Fin 4} {a b : Fin 32} {ra rb : Int} (rowA : (s.heads[h]).slotRow a = some ra)
    (rowB : (s.heads[h]).slotRow b = some rb) (both : s.inView h b = s.inView h a) :
    slotBefore s.heads[h] (s.inView h a) a b = true ↔ slotKey s h a < slotKey s h b := by
  unfold slotBefore slotKey
  dsimp only
  rw [slotPlace_of_slotRow rowA, slotPlace_of_slotRow rowB, rowA, rowB, both]
  dsimp only
  cases s.inView h a with
  | false => simp [List.cons_lt_cons_iff]
  | true =>
    generalize (s.heads[h]).window.readingRow - (s.heads[h]).window.bias = reading, (s.heads[h]).bias = bias
    simp only [if_true, Bool.true_and, bne_iff_ne, List.cons_lt_cons_iff, List.not_lt_nil, and_false, or_false]
    split <;> rw [decide_eq_true_iff] <;> omega

section
variable {s : State} {h : Fin 4} {half : Fin 2} {slot : Fin 32}
  (rows : ∀ i ∈ ((s.heads[h]).halves[half]).remaining, (s.heads[h]).slotRow i ≠ none)
  (chosen : chooseSlot s h half = some slot)
include rows chosen

/-- The slot that R149 chooses within a request. -/
theorem chooseSlot_least (i : Fin 32) (left : i ∈ ((s.heads[h]).halves[half]).remaining) :
    (s.inView h i = true → s.inView h slot = true)
      ∧ (s.inView h i = s.inView h slot → ¬ slotKey s h i < slotKey s h slot) := by
  have least {v : Bool} {l : List (Fin 32)} (sub : ∀ a ∈ l, a ∈ ((s.heads[h]).halves[half]).remaining ∧ s.inView h a = v)
      (first : firstBy (slotBefore s.heads[h] v) l = some slot) : ∀ j ∈ l, slotKey s h slot ≤ slotKey s h j := by
    refine firstBy_least_of_iff (fun a ha b hb => ?_) first
    obtain ⟨leftA, viewA⟩ := sub a ha
    obtain ⟨leftB, viewB⟩ := sub b hb
    obtain ⟨ra, rowA⟩ := Option.ne_none_iff_exists'.mp (rows a leftA)
    obtain ⟨rb, rowB⟩ := Option.ne_none_iff_exists'.mp (rows b leftB)
    have order := slotBefore_iff rowB rowA (viewA.trans viewB.symm)
    rwa [viewB] at order
  unfold chooseSlot at chosen
  rw [visibleLeft_eq] at chosen
  split at chosen
  · next none =>
    have hidden (a : Fin 32) (ha : a ∈ ((s.heads[h]).halves[half]).remaining) : s.inView h a = false := by
      by_contra seen
      have visible := List.mem_filter.mpr ⟨ha, Bool.eq_true_of_not_eq_false seen⟩
      rw [none] at visible
      cases visible
    refine ⟨fun seen => absurd seen (by rw [hidden i left]; decide), fun _ => not_lt.mpr ?_⟩
    exact least (fun a ha => ⟨ha, hidden a ha⟩) chosen i left
  · have seen := (List.mem_filter.mp (firstBy_mem chosen)).2
    refine ⟨fun _ => seen, fun same => not_lt.mpr ?_⟩
    exact least (fun a ha => List.mem_filter.mp ha) chosen i (List.mem_filter.mpr ⟨left, same.trans seen⟩)

end

/-! ### The turns -/

/-- A slot that leaves its set leaves fewer to wait (R149). -/
theorem waitingSlots_takeSlot {s : State} {h : Fin 4} {half : Fin 2} {slot : Fin 32}
    (asked : slot ∈ ((s.heads[h]).halves[half]).remaining) :
    waitingSlots (s.modHead h fun x => x.takeSlot half slot) < waitingSlots s := by
  have entry (g : Fin 4) (k : Fin 2) : ((((s.modHead h fun x => x.takeSlot half slot).heads[g]).halves[k]).remaining) =
      if g = h ∧ k = half then ((s.heads[g]).halves[k]).remaining.filter fun i => i ≠ slot else ((s.heads[g]).halves[k]).remaining := by
    rw [modHead_heads, upd_entries]
    by_cases same : g = h
    · rw [if_pos same, takeSlot_halves]
      by_cases own : k = half <;> simp [same, own]
    · simp [same]
  have every : (h, half) ∈ allHalves := List.mem_of_mem_filter (mem_requests.mpr (List.ne_nil_of_mem asked))
  unfold waitingSlots
  refine List.sum_lt_sum _ _ (fun a _ => ?_) ⟨(h, half), every, ?_⟩ <;> dsimp only <;> rw [entry]
  · split
    · exact List.length_filter_le ..
    · exact le_rfl
  · rw [if_pos ⟨rfl, rfl⟩]
    exact List.length_filter_lt_length_iff_exists.mpr ⟨slot, asked, by simp⟩

/-- Above the number of waiting slots the turns do not run out. -/
theorem arbiter_fuel (n m : Nat) (s : State) (enough : waitingSlots s < n) (enough' : waitingSlots s < m) :
    arbiter n s = arbiter m s := by
  induction n generalizing m s with
  | zero => exact absurd enough (Nat.not_lt_zero _)
  | succ n ih =>
    obtain ⟨m, rfl⟩ : ∃ k, m = k + 1 := ⟨m - 1, by omega⟩
    unfold arbiter
    split
    · rfl
    · next h half _ =>
      split
      · rfl
      · next slot chosen =>
        have fewer := waitingSlots_takeSlot (mem_of_chooseSlot chosen)
        have same := ih m (s.modHead h fun x => x.takeSlot half slot) (by omega) (by omega)
        dsimp only
        rw [same]

/-- With no request the render unit is IDLE (R147). -/
theorem chooseNext_of_quiet {s : State} (quiet : ∀ (h : Fin 4) (half : Fin 2), ((s.heads[h]).halves[half]).remaining = []) :
    chooseNext s = { s with job := none } := by
  unfold chooseNext arbiter
  rw [bestRequest_eq_none_iff.mpr quiet]

section
variable {s : State} {h : Fin 4} {half : Fin 2} {slot : Fin 32} {r : Int} (best : bestRequest s = some (h, half))
  (chosen : chooseSlot s h half = some slot) (row : (s.heads[h]).slotRow slot = some r)
include best chosen row

/-- A chosen slot whose row has left the script leaves its set, and the arbiter chooses again (R149). -/
theorem chooseNext_of_outside (outside : r < 0 ∨ (s.rows : Int) ≤ r) :
    chooseNext s = chooseNext (s.modHead h fun x => x.takeSlot half slot) := by
  have fewer := waitingSlots_takeSlot (mem_of_chooseSlot chosen)
  have turn : chooseNext s = arbiter (waitingSlots s) (s.modHead h fun x => x.takeSlot half slot) := by
    unfold chooseNext
    conv_lhs => unfold arbiter
    rw [best]
    dsimp only
    rw [chosen]
    dsimp only
    rw [row]
    exact if_neg (by omega)
  rw [turn]
  exact arbiter_fuel _ _ _ fewer (Nat.lt_succ_self _)

/-- A job begins for a chosen slot whose row is in the script (R150). -/
theorem chooseNext_of_inside (low : 0 ≤ r) (high : r < s.rows) :
    chooseNext s = beginJob h slot r.toNat (s.modHead h fun x => x.takeSlot half slot) := by
  unfold chooseNext arbiter
  rw [best]
  dsimp only
  rw [chosen]
  dsimp only
  rw [row]
  exact if_pos ⟨low, high⟩

end

end Sys2Proof.Machine
end

section
/-! RENDER_COMPLETE: the row is stored or discarded, and the arbiter's next job begins (R135, R146 to R150, R156). -/

namespace Sys2Proof.Machine

/-! ### A row done with -/

theorem storedRow_eq (j : Job) (x : Head) : storedRow j x = { x with slots := (storedRow j x).slots } := by
  unfold storedRow
  split <;> rfl

theorem storedRow_slots (j : Job) (x : Head) (i : Fin 32) : (storedRow j x).slots[i] =
    if i = j.slot ∧ (x.slots[i]).isRendering = true then .valid j.tag j.drawing else x.slots[i] := by
  unfold storedRow
  by_cases own : i = j.slot
  · subst own
    split
    · next waits => exact (upd_get_self ..).trans (if_pos ⟨rfl, waits⟩).symm
    · next left => exact (if_neg (not_and_of_not_right _ left)).symm
  · rw [if_neg (not_and_of_not_left _ own)]
    split
    · exact upd_get_ne _ _ _ _ own
    · rfl

/-- A head without requests has none after it enters DISABLED (R135). -/
theorem quiet_enterDisabled {s : State} (quiet : ∀ (h : Fin 4) (half : Fin 2), ((s.heads[h]).halves[half]).remaining = [])
    (g h : Fin 4) (half : Fin 2) : (((enterDisabled g s).heads[h]).halves[half]).remaining = [] := by
  obtain ⟨same, others⟩ := (headMoved_enterDisabled g s).head
  by_cases own : h = g
  · rw [own, same, disabledHead]
    simp
  · rw [others h own]
    exact quiet h half

section
variable {s : State} {j : Job} (job : s.job = some j)
include job

/-- The state of which the arbiter chooses when a row is done with, on a head that is on (R156). -/
theorem renderComplete_stores
    (on : (s.heads[j.head]).state = .starting ∨ (s.heads[j.head]).state = .running ∨ (s.heads[j.head]).state = .blanked) :
    ∃ heads : Vector Head 4, renderComplete s = chooseNext { s with heads := heads, job := none }
      ∧ (∀ h : Fin 4, h ≠ j.head → heads[h] = s.heads[h])
      ∧ ∃ slots : Vector Slot 32, heads[j.head] = { s.heads[j.head] with slots := slots }
        ∧ ∀ i : Fin 32, slots[i] = if i = j.slot ∧ ((s.heads[j.head]).slots[i]).isRendering = true then .valid j.tag j.drawing
            else (s.heads[j.head]).slots[i] :=
  ⟨upd s.heads j.head (storedRow j), renderComplete_of_on job on, fun _ other => upd_get_ne _ _ _ _ other, _,
    (upd_get_self ..).trans (storedRow_eq ..), storedRow_slots j _⟩

end

/-! ### A job that begins -/

theorem rowMarks_isEmpty (marks : List MarkRecord) (r : Nat) :
    (!(rowMarks marks r).isEmpty) = decide (∃ m ∈ marks, m.position = r * 1024) := by
  rw [Bool.eq_iff_iff]
  simp [rowMarks, Config.fine]

theorem answerInStory_identity (layout : Layout) (st : Story) (k r : Nat) :
    (answerInStory layout st k r).identity = ⟨st.id, st.revision, k, layout.generation⟩ := by
  unfold answerInStory
  dsimp only
  split <;> rfl

theorem beginJob_eq {s : State} {r k : Nat} {st : Story} (found : storyAtRow s.store.stories r = some (st, k)) (h : Fin 4)
    (slot : Fin 32) : beginJob h slot r s =
      { s.modHead h (fun x => { x with slots := upd x.slots slot fun _ => .rendering ⟨st.id, st.revision, k, s.layout.generation⟩ }) with
        job := some ⟨h, slot, r, ⟨st.id, st.revision, k, s.layout.generation⟩, rowDrawing s s.heads[h].geometry st k r⟩ } := by
  rw [beginJob, found]

section
variable {s : State} {h : Fin 4} {half : Fin 2} {slot : Fin 32} {r : Int} (best : bestRequest s = some (h, half))
  (chosen : chooseSlot s h half = some slot) (row : (s.heads[h]).slotRow slot = some r) (low : 0 ≤ r) (high : r < s.rows)
include best chosen row low high

/-- The job that begins for a chosen slot, and what it leaves as it was (R150). -/
theorem chooseNext_begins : ∃ (j : Job) (answer : RowAnswer) (heads : Vector Head 4) (slots : Vector Slot 32),
    chooseNext s = { s with heads := heads, job := some j }
    ∧ j.head = h ∧ j.slot = slot ∧ (j.row : Int) = r
    ∧ rowAnswer s.store.stories s.layout j.row = some answer ∧ j.tag = answer.identity
    ∧ (∃ st ∈ s.store.stories, st.id = answer.identity.story ∧ st.revision = answer.identity.revision
      ∧ j.drawing =
        { content := rowBytes s.layout.columns st answer.identity.row, slugRow := answer.line.isNone
          colour := answer.style.colour, emphasis := answer.style.emphasis, scale := (s.heads[h]).geometry.scale
          margin := (s.heads[h]).geometry.margin, columns := s.layout.columns
          arrow := decide (∃ m ∈ s.layout.marks, m.position = j.row * 1024) })
    ∧ (∀ g : Fin 4, g ≠ h → heads[g] = s.heads[g])
    ∧ heads[h] = { s.heads[h] with halves := ((s.heads[h]).takeSlot half slot).halves, slots := slots }
    ∧ (∀ i : Fin 32, slots[i] = if i = slot then .rendering j.tag else (s.heads[h]).slots[i]) := by
  obtain ⟨n, rfl⟩ := Int.eq_ofNat_of_zero_le low
  obtain ⟨⟨st, k⟩, found⟩ := storyAtRow_lt (stories := s.store.stories) (r := n) (Int.ofNat_lt.mp high)
  have identity := answerInStory_identity s.layout st k n
  have begins := (chooseNext_of_inside best chosen row low high).trans
    (beginJob_eq (s := s.modHead h fun x => x.takeSlot half slot) found h slot)
  refine ⟨_, answerInStory s.layout st k n, _, upd (s.heads[h]).slots slot fun _ => .rendering _, begins, rfl, rfl, rfl, ?_, identity.symm, ⟨st, (mem_of_storyAtRow found).1, ?_, ?_, ?_⟩, fun g other => ?_, ?_,
    fun i => upd_entries ..⟩
  · exact congrArg (Option.map _) found
  · rw [identity]
  · rw [identity]
  · rw [identity, ← rowMarks_isEmpty, modHead_heads, upd_get_self]
    rfl
  · rw [modHead_modHead, modHead_heads, upd_get_ne _ _ _ _ other]
  · rw [modHead_modHead, modHead_heads, upd_get_self]
    rfl

end

/-! ### The obligation -/

/-- Settles O52: the completion by the state of its head, and the arbiter's choice by the first request and slot of R148 and R149. -/
theorem renderedRowsAreStoredOrDiscarded : Obligations.RenderedRowsAreStoredOrDiscarded := by
  unfold Obligations.RenderedRowsAreStoredOrDiscarded
  have event (s : State) (running : s.resetHeld = false) : exec .renderComplete s = .next (pump (renderComplete s)) :=
    live_running renderComplete s running
  refine ⟨fun s running => ⟨fun idle => ?_, fun j job quiet => ?_⟩, fun s running j job => ?_, fun s => ⟨chooseNext_of_quiet, ?_⟩⟩
  · rw [event s running, renderComplete_of_idle idle]
  · rw [event s running]
    refine ⟨fun on => ?_, fun disabled => ?_, fun stopping => ?_⟩
    · obtain ⟨heads, stored, others, slots, head, entries⟩ := renderComplete_stores job on
      refine ⟨heads, ?_, others, slots, head, entries⟩
      rw [stored, chooseNext_of_quiet fun h half => ?_]
      by_cases own : h = j.head
      · rw [own, head]
        exact quiet j.head half
      · rw [others h own]
        exact quiet h half
    · rw [renderComplete_of_disabled job disabled, chooseNext_of_quiet (s := { s with job := none }) quiet]
    · obtain ⟨⟨same, others⟩, ⟨-, store, edit, layout, hub, cues, -⟩, -, -⟩ := headMoved_enterDisabled j.head { s with job := none }
      rw [renderComplete_of_stopping job stopping, chooseNext_of_quiet (quiet_enterDisabled (s := { s with job := none }) quiet _)]
      have head := (congrArg (·[j.head]) (pump_heads { enterDisabled j.head { s with job := none } with job := none })).trans same
      refine ⟨_, rfl, pump_job _, congrArg Head.state head, fun i => ?_, fun h other => ?_, (pump_store _).trans store,
        (pump_edit _).trans edit, (pump_layout _).trans layout, (pump_hub _).trans hub, (pump_cues _).trans cues⟩
      · exact (congrArg (fun x : Head => x.slots[i]) head).trans (Vector.getElem_replicate ..)
      · rw [pump_heads]
        exact others h other
  · rw [event s running]
    refine ⟨fun on => ?_, fun disabled => ?_, fun stopping => ?_⟩
    · obtain ⟨heads, stored, rest⟩ := renderComplete_stores job on
      exact ⟨heads, by rw [stored], rest⟩
    · rw [renderComplete_of_disabled job disabled]
    · obtain ⟨head, frame, source, link⟩ := headMoved_enterDisabled j.head { s with job := none }
      obtain ⟨pending, store, edit, layout, hub, cues, idle, -⟩ := frame
      refine ⟨_, by rw [renderComplete_of_stopping job stopping], idle, head, source, ⟨pending, store, edit, layout, hub, cues⟩, ?_⟩
      rw [link, headEntered]
      dsimp only
      rw [stopping]
      split
      · exact raise_link_congr _ _ _ (raise_link_congr _ _ _ rfl)
      · exact raise_link_congr _ _ _ rfl
  · rintro ⟨g, k, asks⟩ rows
    obtain ⟨⟨h, half⟩, best⟩ := Option.ne_none_iff_exists'.mp fun none => asks (bestRequest_eq_none_iff.mp none g k)
    obtain ⟨slot, chosen⟩ := Option.ne_none_iff_exists'.mp (chooseSlot_ne_none (asks_of_bestRequest best))
    have left := mem_of_chooseSlot chosen
    obtain ⟨r, row⟩ := Option.ne_none_iff_exists'.mp (rows h half slot left).2
    refine ⟨h, half, slot, r, left, row, bestRequest_least best, chooseSlot_least (fun i asked => (rows h half i asked).2) chosen,
      ((s.heads[h]).takeSlot half slot).halves, fun k => ?_, fun outside => ?_, chooseNext_begins best chosen row⟩
    · rw [takeSlot_halves]
      by_cases own : k = half
      · rw [own]
      · rw [if_neg own, if_neg own]
    · exact ⟨_, chooseNext_of_outside best chosen row outside, fun _ other => upd_get_ne _ _ _ _ other, upd_get_self ..⟩

end Sys2Proof.Machine
end

section
/-! What the engine's own work does to the link: notices join their queue or are counted (R163), and a position report is written
(R164). Nothing received, no reply and no frame that is being sent is touched. -/

namespace Sys2Proof.Machine

-- Many short proofs at once, each on a thread of its own, would take more memory than the check allows.
set_option Elab.async false

/-- The link `l'` is `l` with notices raised. The report slot, its counters, the receiver and the mode of a RESTART are not looked
at. -/
structure Noticed (l l' : Link) : Prop where
  received : l'.received = l.received
  replies : l'.replies = l.replies
  sending : l'.sending = l.sending
  notices : l.notices <+: l'.notices
  room : l.notices.length ≤ 32 → l'.notices.length ≤ 32
  lost : l.lost ≤ 255 → l'.lost ≤ 255

theorem Noticed.refl (l : Link) : Noticed l l := ⟨rfl, rfl, rfl, List.prefix_rfl, id, id⟩

theorem Noticed.trans {a b c : Link} (h : Noticed a b) (h' : Noticed b c) : Noticed a c :=
  ⟨h'.received.trans h.received, h'.replies.trans h.replies, h'.sending.trans h.sending, h.notices.trans h'.notices,
    h'.room ∘ h.room, h'.lost ∘ h.lost⟩

/-- A notice that is raised joins the queue, or is counted (R163). -/
theorem noticed_raise (n : Notice) (s : State) : Noticed s.link (raise n s).link := by
  obtain ⟨room, raised⟩ | ⟨-, raised⟩ := raise_eq n s <;> rw [raised]
  · refine ⟨rfl, rfl, rfl, List.prefix_append _ _, fun _ => ?_, id⟩
    simp only [List.length_append, List.length_singleton]
    omega
  · exact ⟨rfl, rfl, rfl, List.prefix_rfl, id, fun _ => Nat.min_le_right _ _⟩

variable {l : Link} {s : State} (h : Noticed l s.link)

namespace Noticed
include h

theorem raise {n : Notice} : Noticed l (raise n s).link := h.trans (noticed_raise n s)

/-- A notice raised in a state with the same link. -/
theorem raiseIn {t : State} {n : Notice} (ht : t.link = s.link := by exact rfl) : Noticed l (Machine.raise n t).link :=
  raise (ht ▸ h)

theorem noticesRaised {ns : List Notice} : Noticed l (noticesRaised ns s).link :=
  Closed.foldl (P := fun t => Noticed l t.link) (fun ht => ht.raise) ns h

theorem refreshSource : Noticed l (refreshSource s).link := by rwa [refreshSource_link]

/-! ### Heads and render unit -/

theorem setHeadState {n : Fin 4} {new : HeadState} : Noticed l (setHeadState n new s).link :=
  h.raiseIn.refreshSource

theorem clearDegraded {n : Fin 4} : Noticed l (clearDegraded n s).link := by
  unfold Machine.clearDegraded
  split
  · exact h.raiseIn
  · exact h

theorem enterDisabled {n : Fin 4} : Noticed l (enterDisabled n s).link :=
  clearDegraded (setHeadState (s := s.modHead n _) h)

theorem beginJob {n : Fin 4} {slot : Fin 32} {r : Nat} : Noticed l (beginJob n slot r s).link := by
  unfold Machine.beginJob
  split <;> exact h

theorem arbiter {fuel : Nat} : Noticed l (arbiter fuel s).link := by
  induction fuel generalizing s with
  | zero => exact h
  | succ fuel ih =>
    unfold Machine.arbiter
    split
    · exact h
    · next n half _ =>
      split
      · exact h
      · next slot _ =>
        have taken : Noticed l (s.modHead n fun x => x.takeSlot half slot).link := h
        dsimp only
        (repeat' split)
        · exact ih taken
        · exact taken.beginJob
        · exact ih taken

theorem judgeFrame {n : Fin 4} : Noticed l (judgeFrame n s).link := by
  have framed (x : Option ScanFrame) : Noticed l (s.modHead n fun y => { y with frame := x }).link := h
  unfold Machine.judgeFrame
  dsimp only
  (repeat' split)
  · exact (framed _).setHeadState
  · exact h
  · exact (framed _).clearDegraded
  · exact framed _
  · exact h.raiseIn
  all_goals exact h

theorem syncFrame {n : Fin 4} : Noticed l (syncFrame n s).link := by
  unfold Machine.syncFrame
  dsimp only
  split
  · exact h.raiseIn.refreshSource
  · exact h

theorem headFrame {n : Fin 4} : Noticed l (headFrame n s).link := by
  have judged : Noticed l (Machine.judgeFrame n (s.modHead n (sampleFrame s))).link := judgeFrame (s := s.modHead n _) h
  unfold Machine.headFrame
  dsimp only
  (repeat' split)
  · exact h
  · exact judged.arbiter
  · exact judged

theorem frameStart {n : Fin 4} : Noticed l (frameStart n s).link := by
  have given : Noticed l (giveFrame n (Machine.syncFrame n s)).link := by
    rw [giveFrame_link]
    exact h.syncFrame
  unfold Machine.frameStart
  split
  · exact h
  · exact headFrame (s := (giveFrame n (Machine.syncFrame n s)).modHead n _) given

theorem syncLoss {n : Fin 4} : Noticed l (syncLoss n s).link := by
  unfold Machine.syncLoss
  dsimp only
  (repeat' split)
  · exact h
  · exact h
  · exact h.raiseIn.refreshSource

theorem stopHead {n : Fin 4} : Noticed l (stopHead n s).link := by
  unfold Machine.stopHead
  (repeat' split)
  · exact h
  · exact h
  all_goals exact clearDegraded (setHeadState (s := s.modHead n _) h)

theorem renderComplete : Noticed l (renderComplete s).link := by
  unfold Machine.renderComplete
  split
  · exact h
  · next j _ =>
    have freed : Noticed l { s with job := none }.link := h
    refine arbiter ?_
    (repeat' split)
    · exact freed.enterDisabled
    all_goals exact h

/-! ### Scroll controller and cue unit -/

theorem setScrollState {new : ScrollState} {cause : ScrollCause} : Noticed l (setScrollState new cause s).link := by
  rw [setScrollState_link]
  exact h.noticesRaised

theorem recomputeStates : Noticed l (recomputeStates s).link := by
  rw [recomputeStates_link_notices]
  exact h.noticesRaised

theorem moveFrame : Noticed l (moveFrame s).link := by
  obtain ⟨scroll, cause, moved, -⟩ := moveFrame_eq s
  rw [moved]
  exact h.noticesRaised

theorem runAction {a : CueAction} : Noticed l (runAction s a).link := by
  cases a <;> exact h

theorem fireMark {m : MarkRecord} : Noticed l (fireMark s m).link := by
  unfold Machine.fireMark
  dsimp only
  have disarmed : Noticed l (s.setMarks (armWhere (sameMark m) false s.layout.marks)).link := h
  exact raise (Closed.foldl (P := fun t => Noticed l t.link) (f := Machine.runAction) (fun ht => ht.runAction) _ disarmed)

theorem takeAdvance {p p' : Nat} : Noticed l (takeAdvance p p' s).link := by
  unfold Machine.takeAdvance
  split
  · exact Closed.foldl (P := fun t => Noticed l t.link) (fun ht => ht.fireMark) _ h
  · exact h

theorem countFrame : Noticed l (countFrame s).link := by
  unfold Machine.countFrame
  dsimp only
  (repeat' split)
  · exact h
  all_goals exact ⟨h.received, h.replies, h.sending, h.notices, h.room, h.lost⟩

theorem internalExpiry {n : Nat} : Noticed l (internalExpiry n s).link := by
  unfold Machine.internalExpiry
  split <;> exact h

theorem jumpTo {row : Int} : Noticed l (jumpTo row s).link := recomputeStates (s := State.setMarks _ _) h

theorem keyJump {row : Nat} : Noticed l (keyJump row s).link := by
  unfold Machine.keyJump
  split
  · exact h
  · exact h.jumpTo

/-! ### Edits -/

theorem applyEdit {fromPending : Bool} {e : Edit} : Noticed l (applyEdit fromPending e s).link := by
  have changed : Noticed l (changeScript e s).link := by
    unfold changeScript
    dsimp only
    rw [followRows_link]
    refine noticesRaised ?_
    simpa using h
  unfold Machine.applyEdit
  dsimp only
  split
  · exact changed.raise.recomputeStates
  · exact changed.recomputeStates

theorem settlePending {r : PendingEdit} : Noticed l (settlePending r s).link := by
  unfold Machine.settlePending
  dsimp only
  split
  · exact h.raiseIn
  · exact applyEdit (s := leavePending r s) h

theorem release : Noticed l (release s).link := release_keeps (P := fun t => Noticed l t.link) (fun ht _ => ht.settlePending) h

theorem takeFrame : Noticed l (takeFrame s).link := by
  have counted : Noticed l { s with scroll := { s.scroll with framesOwed := s.scroll.framesOwed - 1 } }.link := h
  unfold Machine.takeFrame scrollFrame
  exact counted.moveFrame.takeAdvance.recomputeStates.release.countFrame

theorem present {force : Bool} {e : Edit} : Noticed l (present force e s).1.link := by
  have settled : Noticed l (settleAllFor e.story s).link :=
    Closed.foldl (P := fun t => Noticed l t.link) (fun ht => ht.settlePending) _ h
  unfold Machine.present forceEdit
  dsimp only
  (repeat' split)
  · exact settled
  · exact settled.applyEdit.release
  · exact h
  · exact h
  · exact h.applyEdit.release

theorem reflowComplete : Noticed l (reflowComplete s).link := by
  unfold Machine.reflowComplete
  dsimp only
  (repeat' split)
  · exact h
  · next c _ _ =>
    have installed : Noticed l (installLayout c s).link := by
      rw [installLayout_link]
      exact h.noticesRaised
    exact installed.raise.release
  · exact h.raiseIn.release

theorem loadIdleExpiry {tag : Nat} : Noticed l (loadIdleExpiry tag s).link := by
  unfold Machine.loadIdleExpiry
  split
  · exact h
  · exact h.raiseIn

/-! ### Control hub -/

theorem setHolder {new : Option Holder} {timer : Option Nat} {cause : AuthorityCause} : Noticed l (setHolder new timer cause s).link :=
  h.raiseIn

theorem restHolder : Noticed l (restHolder s).link := by
  unfold Machine.restHolder
  split <;> exact h

theorem endHold {cause : AuthorityCause} : Noticed l (endHold cause s).link := by
  unfold Machine.endHold
  split
  · exact h.restHolder.setHolder
  · exact h

theorem endLeverHold : Noticed l (endLeverHold s).link := by
  unfold Machine.endLeverHold
  split
  · exact h.endHold
  · exact h

theorem loseControl {n : Fin 6} : Noticed l (loseControl n s).link := by
  unfold Machine.loseControl stopLost
  (repeat' split)
  · exact h.setHolder.setScrollState
  · exact h.setHolder
  · exact h

theorem contend {n : Fin 6} : Noticed l (contend n s).link := by
  unfold Machine.contend
  (repeat' split)
  · exact h
  · exact h
  · exact h.raiseIn

theorem goStale {n : Fin 6} : Noticed l (goStale n s).link := h.raiseIn.loseControl
theorem goLive {n : Fin 6} {kind : ControllerKind} : Noticed l (goLive n kind s).link := h.raiseIn
theorem portOff {n : Fin 6} : Noticed l (portOff n s).link := h.raiseIn.loseControl
theorem portOn {n : Fin 6} : Noticed l (portOn n s).link := h.raiseIn

theorem trimCruise {n : Fin 6} {delta : Int} : Noticed l (trimCruise n delta s).link := by
  unfold Machine.trimCruise
  dsimp only
  split <;> exact h

theorem stopScroll {cause : ScrollCause} : Noticed l (stopScroll cause s).link := by
  unfold Machine.stopScroll
  dsimp only
  split
  · exact h.endHold
  · exact h.endHold.setScrollState

theorem resumeKey {n : Fin 6} : Noticed l (resumeKey n s).link := by
  unfold Machine.resumeKey
  split
  · exact h.setScrollState
  · exact h.setScrollState
  · exact h.endLeverHold.setScrollState
  · exact h
  · exact h

theorem speedKey {n : Fin 6} {delta : Int} : Noticed l (speedKey n delta s).link := by
  unfold Machine.speedKey
  dsimp only
  split
  · exact h.trimCruise
  · exact h.trimCruise.endLeverHold.setScrollState
  all_goals exact h.trimCruise.setScrollState

theorem wheelDetents {n : Fin 6} {count : Int} : Noticed l (wheelDetents n count s).link := by
  unfold Machine.wheelDetents
  dsimp only
  split
  · exact h.trimCruise
  · exact h.trimCruise.setScrollState

theorem runKey {n : Fin 6} {k : ActionKey} : Noticed l (runKey n k s).link := by
  cases k with
  | stop => exact h.stopScroll
  | resume => exact h.resumeKey
  | faster => exact h.speedKey
  | slower => exact h.speedKey
  | next => exact h.keyJump
  | prev => exact h.keyJump
  | top => exact h.keyJump

theorem judgeKey {n : Fin 6} {pressed : KeySet} {k : ActionKey} : Noticed l (judgeKey n pressed s k).link := by
  unfold Machine.judgeKey
  (repeat' split)
  · exact h.runKey
  · exact h.contend
  · exact h

theorem runKeys {n : Fin 6} {pressed : KeySet} : Noticed l (runKeys n pressed s).link := by
  have judged : Noticed l (actionKeys.foldl (Machine.judgeKey n pressed) s).link :=
    Closed.foldl (P := fun t => Noticed l t.link) (fun ht => ht.judgeKey) _ h
  unfold Machine.runKeys markKey
  split
  · exact judged.raise
  · exact judged

theorem releaseHold : Noticed l (releaseHold s).link := by
  unfold Machine.releaseHold
  dsimp only
  (repeat' split)
  · exact h
  · exact h.setHolder.setScrollState
  · exact h.setHolder

theorem holderTiming {n : Fin 6} {rest : Bool} : Noticed l (holderTiming n rest s).link := by
  unfold Machine.holderTiming
  (repeat' split)
  · exact h
  · exact h
  · exact h.releaseHold
  all_goals exact h

theorem makeRequest {n : Fin 6} {kind : ControllerKind} {value : PortValue} : Noticed l (makeRequest n kind value s).link := by
  unfold Machine.makeRequest leverRequest leverTakes wheelRequest
  dsimp only
  (repeat' split)
  · exact h.restHolder.setHolder
  · exact h.restHolder.setHolder.setScrollState
  · exact h.contend
  · exact h
  · exact h
  · exact wheelDetents (s := s.setReleaseTimer (some 0)) h
  · exact h.restHolder.setHolder.wheelDetents
  · exact h.contend
  · exact h

theorem enterReport {n : Fin 6} {kind : ControllerKind} : Noticed l (enterReport n kind s).1.link := by
  unfold Machine.enterReport
  dsimp only
  (repeat' split)
  · exact h.goStale
  · exact h.goStale.goLive
  · exact h
  · exact h.goLive

theorem takeReport {n : Fin 6} {r : ControlReport} {first : Bool} : Noticed l (takeReport n r first s).link := by
  unfold Machine.takeReport
  extract_lets value pressed rest s3 s4 s5 s6 s7
  have h4 : Noticed l s4.link := by
    dsimp only [s4]
    split <;> exact h
  have h5 : Noticed l s5.link := by
    dsimp only [s5]
    split
    · exact h4
    · exact h4.runKeys
  have h7 : Noticed l s7.link := by
    dsimp only [s7]
    split
    · exact h5.holderTiming
    · exact h5.holderTiming.makeRequest
  exact h7

theorem receivePortByte {n : Fin 6} {b : Byte} : Noticed l (receivePortByte n s b).link := by
  unfold Machine.receivePortByte validReport
  dsimp only
  (repeat' split)
  · exact h
  · exact (enterReport (s := s.modPort n _) h).takeReport
  · exact h

theorem reportTimeout {n : Fin 6} : Noticed l (reportTimeout n s).link := by
  unfold Machine.reportTimeout
  split
  · exact h.goStale
  · exact h

theorem releaseExpiry : Noticed l (releaseExpiry s).link := by
  unfold Machine.releaseExpiry
  split
  · exact h.releaseHold
  · exact h

theorem setEnabled {n : Fin 6} {enabled : Bool} : Noticed l (setEnabled n enabled s).link := by
  unfold Machine.setEnabled
  (repeat' split)
  · exact h.portOn
  · exact h
  · exact h
  · exact h.portOff

/-! ### Time -/

theorem tickPort {n : Fin 6} : Noticed l (tickPort s n).link := by
  unfold Machine.tickPort
  dsimp only
  split
  · exact reportTimeout (s := s.modPort n _) h
  · exact h

theorem tickRelease : Noticed l (tickRelease s).link := by
  unfold Machine.tickRelease
  split
  · exact h.releaseExpiry
  · exact h

theorem tickLoad {tag : Nat} : Noticed l (tickLoad s tag).link := by
  unfold Machine.tickLoad
  (repeat' split)
  · exact h
  · exact h.loadIdleExpiry
  · exact h

theorem tickHead {n : Fin 4} : Noticed l (tickHead s n).link := by
  unfold Machine.tickHead
  split
  · exact h.syncLoss
  · exact h

theorem tickFrameTimer : Noticed l (tickFrameTimer s).link := by
  unfold Machine.tickFrameTimer
  (repeat' split)
  · exact h.internalExpiry
  · exact h
  · exact h

/-- The link's own byte gap is no notice (R159). -/
theorem withReceiver {x : Receiver} : Noticed l { s.link with receiver := x } :=
  ⟨h.received, h.replies, h.sending, h.notices, h.room, h.lost⟩

theorem tickMs : Noticed l (tickMs s).link := by
  unfold Machine.tickMs
  extract_lets _ s1 s2 s3 s4 s5 s6
  have h1 : Noticed l s1.link := h.withReceiver
  clear_value s1
  have h2 : Noticed l s2.link := Closed.foldl (P := fun t => Noticed l t.link) (fun ht => ht.tickPort) _ h1
  clear_value s2
  have h3 : Noticed l s3.link := h2.tickRelease
  have h4 : Noticed l s4.link := Closed.foldl (P := fun t => Noticed l t.link) (fun ht => ht.tickLoad) _ h3
  clear_value s4
  have h5 : Noticed l s5.link := h4.tickFrameTimer
  clear_value s5
  have h6 : Noticed l s6.link := Closed.foldl (P := fun t => Noticed l t.link) (fun ht => ht.tickHead) _ h5
  exact h6

end Noticed

end Sys2Proof.Machine
end

section
/-! What a command does to the link: notices, and one reply, with the command's code and sequence byte (R161, R162). -/

namespace Sys2Proof.Machine

-- Many short proofs at once, each on a thread of its own, would take more memory than the check allows.
set_option Elab.async false

/-! ### One reply -/

/-- The link `l'` is `l` with one reply more, of which `q` holds, and with notices raised before and after it. -/
def Replied (q : Reply → Prop) (l l' : Link) : Prop :=
  ∃ m r, Noticed l m ∧ q r ∧ Noticed { m with replies := m.replies ++ [r] } l'

theorem Replied.replies {q : Reply → Prop} {l l' : Link} (h : Replied q l l') : ∃ r, q r ∧ l'.replies = l.replies ++ [r] := by
  obtain ⟨m, r, before, hr, after⟩ := h
  exact ⟨r, hr, by rw [after.replies, before.replies]⟩

theorem Replied.mono {p q : Reply → Prop} {l l' : Link} (h : Replied p l l') (imp : ∀ r, p r → q r) : Replied q l l' := by
  obtain ⟨m, r, before, hr, after⟩ := h
  exact ⟨m, r, before, imp r hr, after⟩

theorem Replied.noticed {q : Reply → Prop} {l m l' : Link} (h : Replied q l m) (h' : Noticed m l') : Replied q l l' := by
  obtain ⟨n, r, before, hr, after⟩ := h
  exact ⟨n, r, before, hr, after.trans h'⟩

/-- A reply to the command of code `code`: its own code, the sequence byte, and fields of the sizes kept while `kept` holds. -/
def Answers (code seq : Byte) (kept : Prop) (r : Reply) : Prop := r.code = code + 0x40 ∧ r.seq = seq ∧ (kept → r.body.bounded)

/-- The sizes by which a reply's fields are bounded: of a slug and of an action list (R15, R115). -/
def SizesKept (s : State) : Prop := (∀ st ∈ s.store.stories, st.slug.length ≤ 24) ∧ ∀ c : Fin 64, s.cues.defs[c].length ≤ 4

variable {l : Link} {s : State} (h : Noticed l s.link) {seq : Byte} {kept : Prop}

namespace Noticed
include h

theorem answer {code : Byte} {result : Result} {truncated badMark : Bool} {body : ReplyBody}
    (bounded : kept → body.bounded := by exact fun _ => trivial) :
    Replied (Answers code seq kept) l (answer code seq result truncated badMark body s).link :=
  ⟨_, _, h, ⟨rfl, rfl, bounded⟩, .refl _⟩

theorem reply {code : Byte} {result : Result} {body : ReplyBody} (bounded : kept → body.bounded := by exact fun _ => trivial) :
    Replied (Answers code seq kept) l (reply code seq result body s).link := h.answer bounded

theorem refuse {code : Byte} {r : Reason} : Replied (Answers code seq kept) l (refuse code seq r s).link := h.answer

theorem motionReply {code : Byte} {result : Result} : Replied (Answers code seq kept) l (motionReply code seq result s).link :=
  h.answer

/-! ### Settings and cues -/

theorem cmdSetColumns {columns : Byte} : Replied (Answers 0x08 seq kept) l (cmdSetColumns seq columns s).link := by
  unfold Machine.cmdSetColumns
  dsimp only
  (repeat' split)
  · exact h.refuse
  · exact h.reply.noticed (noticed_raise _ _)
  · exact h.reply

theorem cmdSetMotion {vmax a b delay : Word16} {priority : Byte} {k : Word16} {p : Byte} :
    Replied (Answers 0x09 seq kept) l (cmdSetMotion seq vmax a b delay priority k p s).link := by
  unfold Machine.cmdSetMotion
  split
  · exact h.answer
  · exact h.refuse

theorem cmdSetCurve {q : Vector Word16 9} : Replied (Answers 0x0A seq kept) l (cmdSetCurve seq q s).link := by
  unfold Machine.cmdSetCurve
  dsimp only
  (repeat' split)
  · exact h.refuse
  · exact h.answer
  · exact h.refuse

theorem cmdSetPort {port enabled role : Byte} {timeout : Word16} {gain dead reverse : Byte} {step : Word16} :
    Replied (Answers 0x0B seq kept) l (cmdSetPort seq port enabled role timeout gain dead reverse step s).link := by
  unfold Machine.cmdSetPort
  dsimp only
  split
  · refine reply (setEnabled ?_)
    exact h
  · exact h.refuse

theorem cmdSetFrameSource {source rate : Byte} : Replied (Answers 0x0C seq kept) l (cmdSetFrameSource seq source rate s).link := by
  unfold Machine.cmdSetFrameSource
  split
  · exact h.refuse
  · refine reply (refreshSource ?_)
    exact h

theorem cmdCueDefine {cue : Byte} {actions : List ActionField} :
    Replied (Answers 0x28 seq kept) l (cmdCueDefine seq cue actions s).link := by
  unfold Machine.cmdCueDefine
  (repeat' split)
  · exact h.answer
  · exact h.refuse
  · exact h.refuse

/-- CUE_READ gives an action list as it is defined, of at most 4 actions (R115, R117). -/
theorem cmdCueRead {cue : Byte} : Replied (Answers 0x29 seq (SizesKept s)) l (cmdCueRead seq cue s).link := by
  unfold Machine.cmdCueRead
  split
  · refine h.reply fun sizes => ?_
    show (cueActions s cue.toNat).length ≤ 4
    unfold cueActions
    split
    · next named => exact sizes.2 ⟨cue.toNat - 1, by omega⟩
    · exact Nat.zero_le _
  · exact h.refuse

theorem cmdOutputSet {mask operation duration : Byte} :
    Replied (Answers 0x2A seq kept) l (cmdOutputSet seq mask operation duration s).link := by
  unfold Machine.cmdOutputSet
  split
  · exact h.refuse
  · exact h.answer

/-! ### Scroll commands and heads -/

theorem cmdScrollResume : Replied (Answers 0x21 seq kept) l (cmdScrollResume seq s).link := by
  unfold Machine.cmdScrollResume resumeScroll
  (repeat' split)
  · exact h.motionReply
  · exact h.setScrollState.motionReply
  · exact h.motionReply

theorem cmdScrollSpeed {speed : Word16} : Replied (Answers 0x22 seq kept) l (cmdScrollSpeed seq speed s).link := by
  have set : Noticed l (setCruise speed.signed s).link := h
  unfold Machine.cmdScrollSpeed cruiseAt
  (repeat' split)
  · exact h.motionReply
  · exact set.motionReply
  · exact set.setScrollState.motionReply

theorem cmdJump {kind : Byte} {story line rows : Word16} :
    Replied (Answers 0x23 seq kept) l (cmdJump seq kind story line rows s).link := by
  unfold Machine.cmdJump
  (repeat' split)
  · exact h.motionReply
  · exact h.motionReply
  · exact h.motionReply
  · exact h.jumpTo.motionReply

theorem cmdHeadConfig {head : Byte} {width height : Word16} {scale leading : Byte} {margin : Word16} {readingRow rate : Byte} :
    Replied (Answers 0x30 seq kept) l (cmdHeadConfig seq head width height scale leading margin readingRow rate s).link := by
  unfold Machine.cmdHeadConfig
  (repeat' split)
  · exact h.refuse
  · refine reply (refreshSource ?_)
    exact h
  · exact h.refuse

theorem cmdHeadStart {head : Byte} : Replied (Answers 0x31 seq kept) l (cmdHeadStart seq head s).link := by
  unfold Machine.cmdHeadStart
  (repeat' split)
  · exact h.refuse
  · exact h.refuse
  · exact h.refuse
  · refine reply (setHeadState ?_)
    exact h

theorem cmdHeadStop {head : Byte} : Replied (Answers 0x32 seq kept) l (cmdHeadStop seq head s).link := by
  unfold Machine.cmdHeadStop
  split
  · exact h.refuse
  · exact h.stopHead.reply

theorem cmdHeadBlank {head : Byte} : Replied (Answers 0x33 seq kept) l (cmdHeadBlank seq head s).link := by
  unfold Machine.cmdHeadBlank
  (repeat' split)
  · exact h.refuse
  · refine reply (clearDegraded (setHeadState ?_))
    exact h
  · exact h.refuse

theorem cmdHeadUnblank {head : Byte} : Replied (Answers 0x34 seq kept) l (cmdHeadUnblank seq head s).link := by
  unfold Machine.cmdHeadUnblank
  (repeat' split)
  · exact h.refuse
  · exact h.setHeadState.reply
  · exact h.reply
  · exact h.reply
  · exact h.refuse
  · exact h.refuse

theorem cmdHeadAppearance {head : Byte} {f : AppearanceFields} :
    Replied (Answers 0x35 seq kept) l (cmdHeadAppearance seq head f s).link := by
  unfold Machine.cmdHeadAppearance
  split
  · exact h.answer
  · exact h.refuse

theorem cmdHeadRead {head : Byte} : Replied (Answers 0x36 seq kept) l (cmdHeadRead seq head s).link := by
  unfold Machine.cmdHeadRead
  split
  · exact h.refuse
  · exact h.reply

/-! ### Loads and edits -/

theorem cmdLoadOpen {tag : Byte} {editTag : Word16} {mode : Byte} {story n : Word16} {placeKind : Byte} {placeId : Word16}
    {force : Byte} {slug : List Byte} :
    Replied (Answers 0x10 seq kept) l (cmdLoadOpen seq tag editTag mode story n placeKind placeId force slug s).link := by
  unfold Machine.cmdLoadOpen
  dsimp only
  (repeat' split)
  · exact h.refuse
  · exact h.answer
  · exact h.refuse

theorem cmdLoadLine {tag : Byte} {text : List Byte} : Replied (Answers 0x11 seq kept) l (cmdLoadLine seq tag text s).link := by
  unfold Machine.cmdLoadLine
  dsimp only
  (repeat' split)
  · exact h.refuse
  all_goals exact h.answer

omit h in
theorem presentedReply {code : Byte} {truncated badMark : Bool} {e : Edit} {okBody : State → ReplyBody} {r : State × Presented}
    (h : Noticed l r.1.link) (bounded : ∀ t, (okBody t).bounded := by exact fun _ => trivial) :
    Replied (Answers code seq kept) l (presentedReply code seq truncated badMark e okBody r).link := by
  unfold Machine.presentedReply
  split
  · exact h.answer fun _ => bounded _
  · exact h.answer
  · exact h.answer

theorem cmdLoadLast {tag : Byte} {text : List Byte} : Replied (Answers 0x12 seq kept) l (cmdLoadLast seq tag text s).link := by
  unfold Machine.cmdLoadLast resolveLoad
  dsimp only
  (repeat' split)
  · exact h.refuse
  · exact h.answer
  · exact h.answer
  · exact h.answer
  · exact h.answer
  · exact h.answer
  · refine presentedReply (present ?_)
    exact h

theorem cmdLoadCancel {tag : Byte} : Replied (Answers 0x13 seq kept) l (cmdLoadCancel seq tag s).link := by
  unfold Machine.cmdLoadCancel
  split
  · exact h.refuse
  · exact h.answer

theorem cmdStoryDelete {editTag story : Word16} {force : Byte} :
    Replied (Answers 0x14 seq kept) l (cmdStoryDelete seq editTag story force s).link := by
  unfold Machine.cmdStoryDelete
  split
  · exact h.refuse
  · exact h.present.presentedReply

theorem cmdStoryMove {editTag story : Word16} {placeKind : Byte} {placeId : Word16} {force : Byte} :
    Replied (Answers 0x15 seq kept) l (cmdStoryMove seq editTag story placeKind placeId force s).link := by
  unfold Machine.cmdStoryMove
  dsimp only
  (repeat' split)
  · exact h.refuse
  · exact h.present.presentedReply
  · exact h.refuse

theorem cmdStorySkip {editTag story : Word16} {request force : Byte} :
    Replied (Answers 0x16 seq kept) l (cmdStorySkip seq editTag story request force s).link := by
  unfold Machine.cmdStorySkip
  generalize (if request = 0 then EditBody.skip else .unskip) = body
  dsimp only
  (repeat' split)
  · exact h.refuse
  · exact h.refuse
  · exact h.present.presentedReply

theorem cmdEditCancel {editTag : Word16} : Replied (Answers 0x17 seq kept) l (cmdEditCancel seq editTag s).link := by
  unfold Machine.cmdEditCancel
  split
  · exact h.refuse
  · exact h.answer

/-- READ_STORY gives a slug as it is stored, of at most 24 characters (R15, R17). -/
theorem cmdReadStory {story : Word16} : Replied (Answers 0x18 seq (SizesKept s)) l (cmdReadStory seq story s).link := by
  unfold Machine.cmdReadStory
  split
  · exact h.refuse
  · next found => exact h.reply fun sizes => sizes.1 _ (List.mem_of_find?_eq_some found)

/-- READ_RUNDOWN gives at most 48 entries (R18). -/
theorem cmdReadRundown {first : Byte} : Replied (Answers 0x19 seq kept) l (cmdReadRundown seq first s).link :=
  h.reply fun _ => by simp [ReplyBody.bounded]

end Noticed

/-! ### The command that is carried out -/

/-- The one reply to a command, by the payload that brings it (R161, R162). -/
def AnswersCommand (i : Instr) (s : State) (r : Reply) : Prop :=
  (∀ code seq fields, payloadOf i = code :: seq :: fields →
      (i.wf = true → r.code = if code ∈ commandCodes then code + 0x40 else 0x7F) ∧ r.seq = seq)
    ∧ (SizesKept s → r.body.bounded)

/-- A reply by a command's own code answers it. -/
theorem answersCommand {i : Instr} {code seq : Byte} {fields : List Byte} (payload : payloadOf i = code :: seq :: fields)
    (known : code ∈ commandCodes) {l l' : Link} (h : Replied (Answers code seq (SizesKept s)) l l') :
    Replied (AnswersCommand i s) l l' := by
  refine h.mono fun r ⟨hcode, hseq, bounded⟩ => ⟨fun code' seq' fields' same => ?_, bounded⟩
  obtain ⟨rfl, rfl, -⟩ := by simpa using payload.symm.trans same
  exact ⟨fun _ => by rw [hcode, if_pos known], hseq⟩

/-- An event is no command, and none is carried out (R161). -/
theorem runCommand_event {i : Instr} (event : i.isHostCommand = false) (s : State) : runCommand i s = s := by
  cases i
  any_goals cases event
  all_goals rfl

/-- Every command is answered once. -/
theorem replied_runCommand {i : Instr} (host : i.isHostCommand = true) (s : State) :
    Replied (AnswersCommand i s) s.link (runCommand i s).link := by
  have h : Noticed s.link s.link := .refl _
  cases i
  case unknownCommand code seq rest =>
    have answered : Replied (Answers 0x3F seq (SizesKept s)) s.link (cmdUnknown seq s).link := h.refuse
    refine answered.mono fun r ⟨hcode, hseq, bounded⟩ => ⟨fun code' seq' fields same => ?_, bounded⟩
    obtain ⟨rfl, rfl, -⟩ := by simpa [payloadOf] using same
    refine ⟨fun wf => ?_, hseq⟩
    obtain ⟨unknown, -⟩ : code ∉ commandCodes ∧ rest.length ≤ 218 := by simpa [Instr.wf] using wf
    rw [hcode, if_neg unknown]
    rfl
  case identify => exact answersCommand rfl (by decide) h.reply
  case status =>
    exact answersCommand rfl (by decide) (h.reply.noticed ⟨rfl, rfl, rfl, List.prefix_rfl, id, fun _ => Nat.zero_le _⟩)
  case restart => exact answersCommand rfl (by decide) (h.reply.noticed ⟨rfl, rfl, rfl, List.prefix_rfl, id, id⟩)
  case clearShow =>
    have cleared : Noticed s.link (clearShow s).link := ⟨rfl, rfl, rfl, List.prefix_rfl, id, id⟩
    exact answersCommand rfl (by decide) cleared.reply
  case setColumns => exact answersCommand rfl (by decide) h.cmdSetColumns
  case setMotion => exact answersCommand rfl (by decide) h.cmdSetMotion
  case setCurve => exact answersCommand rfl (by decide) h.cmdSetCurve
  case setPort => exact answersCommand rfl (by decide) h.cmdSetPort
  case setFrameSource => exact answersCommand rfl (by decide) h.cmdSetFrameSource
  case setReporting seq n =>
    have set : Noticed s.link { s.link with interval := n.toNat, frameCount := 0, slot := if n = 0 then none else s.link.slot } :=
      ⟨rfl, rfl, rfl, List.prefix_rfl, id, id⟩
    exact answersCommand rfl (by decide) (set.reply (s := { s with link := _ }))
  case loadOpen => exact answersCommand rfl (by decide) h.cmdLoadOpen
  case loadLine => exact answersCommand rfl (by decide) h.cmdLoadLine
  case loadLast => exact answersCommand rfl (by decide) h.cmdLoadLast
  case loadCancel => exact answersCommand rfl (by decide) h.cmdLoadCancel
  case storyDelete => exact answersCommand rfl (by decide) h.cmdStoryDelete
  case storyMove => exact answersCommand rfl (by decide) h.cmdStoryMove
  case storySkip => exact answersCommand rfl (by decide) h.cmdStorySkip
  case editCancel => exact answersCommand rfl (by decide) h.cmdEditCancel
  case readStory => exact answersCommand rfl (by decide) h.cmdReadStory
  case readRundown => exact answersCommand rfl (by decide) h.cmdReadRundown
  case scrollStop => exact answersCommand rfl (by decide) h.stopScroll.motionReply
  case scrollResume => exact answersCommand rfl (by decide) h.cmdScrollResume
  case scrollSpeed => exact answersCommand rfl (by decide) h.cmdScrollSpeed
  case jump => exact answersCommand rfl (by decide) h.cmdJump
  case readPosition => exact answersCommand rfl (by decide) h.reply
  case cueDefine => exact answersCommand rfl (by decide) h.cmdCueDefine
  case cueRead => exact answersCommand rfl (by decide) h.cmdCueRead
  case outputSet => exact answersCommand rfl (by decide) h.cmdOutputSet
  case headConfig => exact answersCommand rfl (by decide) h.cmdHeadConfig
  case headStart => exact answersCommand rfl (by decide) h.cmdHeadStart
  case headStop => exact answersCommand rfl (by decide) h.cmdHeadStop
  case headBlank => exact answersCommand rfl (by decide) h.cmdHeadBlank
  case headUnblank => exact answersCommand rfl (by decide) h.cmdHeadUnblank
  case headAppearance => exact answersCommand rfl (by decide) h.cmdHeadAppearance
  case headRead => exact answersCommand rfl (by decide) h.cmdHeadRead
  all_goals cases host

end Sys2Proof.Machine
end

section
/-! The payload of a command reads back as that command (R158, R161, R170). -/

namespace Sys2Proof.Machine

/-- The bytes of an action list are that list (R170). -/
theorem parseActions_bytes (actions : List ActionField) : parseActions (actions.flatMap bytesAction) = some actions := by
  induction actions with
  | nil => rfl
  | cons a rest ih => simp [bytesAction, parseActions, ih, word16_bytes]

/-- A code that is no command's spells an unknown command (R161). -/
theorem parseFields_unknown {code : Byte} (seq : Byte) (rest : List Byte) (unknown : code ∉ commandCodes) :
    parseFields code seq rest = some (.unknownCommand code seq rest) := by
  have other : code.toNat ∉ commandCodes.map BitVec.toNat := by
    rintro known
    obtain ⟨c, hc, same⟩ := List.mem_map.mp known
    exact unknown (BitVec.eq_of_toNat_eq same ▸ hc)
  unfold parseFields
  split
  case h_36 => rfl
  all_goals
    next code_eq => exact absurd (by rw [code_eq]; decide) other

theorem toNat_byte_of_length {n : Nat} (small : n < 256) : (BitVec.ofNat 8 n : Byte).toNat = n := by
  rw [BitVec.toNat_ofNat, Nat.mod_eq_of_lt small]

/-- Settles O9: field by field, each two-byte field from its bytes. -/
theorem payloadReadsBackAsItsCommand : Obligations.PayloadReadsBackAsItsCommand := by
  intro i wf host
  cases i
  case unknownCommand code seq rest =>
    obtain ⟨unknown, -⟩ : code ∉ commandCodes ∧ rest.length ≤ 218 := by simpa [Instr.wf] using wf
    simp [payloadOf, parsePayload, parseFields_unknown seq rest unknown]
  case setCurve seq q =>
    have points : #v[q[0], q[1], q[2], q[3], q[4], q[5], q[6], q[7], q[8]] = q := by
      ext i hi
      interval_cases i <;> rfl
    simpa [payloadOf, parsePayload, parseFields, bytes16, word16_bytes] using congrArg Vector.toArray points
  case loadOpen slug =>
    have short : slug.length ≤ 205 := by simpa [Instr.wf] using wf
    have count := toNat_byte_of_length (n := slug.length) (by omega)
    simp [payloadOf, parsePayload, parseFields, bytes16, word16_bytes, short, count]
  case cueDefine actions =>
    have few : actions.length ≤ 54 := by simpa [Instr.wf] using wf
    have count := toNat_byte_of_length (n := actions.length) (by omega)
    simp [payloadOf, parsePayload, parseFields, parseActions_bytes, count]
  case loadLine text =>
    have short : text.length ≤ 217 := by simpa [Instr.wf] using wf
    simp [payloadOf, parsePayload, parseFields, short]
  case loadLast text =>
    have short : text.length ≤ 217 := by simpa [Instr.wf] using wf
    simp [payloadOf, parsePayload, parseFields, short]
  any_goals cases host
  all_goals simp [payloadOf, parsePayload, parseFields, parseAppearance, bytes16, word16_bytes, bytesAppearance, bytesColour]

/-- A well-formed command's payload is interpreted as that command (R161). -/
theorem interpret_payloadOf {i : Instr} (wf : i.wf = true) (host : i.isHostCommand = true) (s : State) :
    interpret (payloadOf i) s = runCommand i s := by
  unfold interpret
  rw [payloadReadsBackAsItsCommand i wf host]

end Sys2Proof.Machine
end

section
/-! Every step keeps the bounds of the link's queues (R158, R160, R162, R163). -/

namespace Sys2Proof.Machine

/-! ### Payloads -/

/-- A host command's payload holds its code and its sequence byte (R158). -/
theorem two_le_payload {i : Instr} (host : i.isHostCommand = true) : 2 ≤ (payloadOf i).length := by
  cases i
  any_goals cases host
  all_goals simp [payloadOf, bytes16, bytesAppearance, bytesColour]

/-- The payload of a frame that a receiver completes (R158, R159). -/
theorem length_of_linkByte {x y : Receiver} {b : Byte} {payload : List Byte} (h : linkByte x b = (y, some payload)) :
    2 ≤ payload.length ∧ payload.length ≤ 220 := by
  unfold linkByte at h
  split at h
  · split_ifs at h <;> cases h
  · dsimp only at h
    split_ifs at h with bad whole check <;> cases h
    simp only [List.length_dropLast, List.length_tail, whole, Config.maxPayload] at bad ⊢
    omega

/-! ### The invariant by the link alone -/

namespace LinkInv
variable {s t : State} (inv : LinkInv s)
include inv

/-- Notices keep within their queue (R163). -/
theorem noticed (h : Noticed s.link t.link) : LinkInv t := by
  obtain ⟨received, replies, notices, lost, reply, notice, lengths⟩ := inv
  refine ⟨by rwa [h.received], by rwa [h.replies], h.room notices, h.lost lost, ?_, ?_, by rwa [h.received]⟩
  · rwa [h.sending, h.replies]
  · rw [h.sending]
    intro sending none
    exact notice sending (List.prefix_nil.mp (none ▸ h.notices))

/-- A reply joins the queue where it has room (R161, R162). -/
theorem replied {q : Reply → Prop} (room : s.link.replies.length < 4) (h : Replied q s.link t.link) : LinkInv t := by
  obtain ⟨m, r, before, -, after⟩ := h
  obtain ⟨received, -, notices, lost, -, notice, lengths⟩ := noticed (t := { s with link := m }) inv before
  have joined : LinkInv { s with link := { m with replies := m.replies ++ [r] } } := by
    refine ⟨received, ?_, notices, lost, fun _ => by simp, notice, lengths⟩
    simp only [List.length_append, List.length_singleton, before.replies]
    omega
  exact joined.noticed after

/-- What is chosen is in its queue (R165). -/
theorem pump : LinkInv (pump s) := by
  obtain ⟨-, h⟩ | ⟨-, -, h⟩ | ⟨-, -, some, h⟩ | ⟨-, -, -, some, h⟩ | ⟨-, -, -, -, ⟨r, -, h⟩ | ⟨-, h⟩⟩ := pump_eq s <;> rw [h]
  · exact inv
  · exact inv
  all_goals obtain ⟨received, replies, notices, lost, -, -, lengths⟩ := id inv
  · exact ⟨received, replies, notices, lost, fun _ => some, nofun, lengths⟩
  · exact ⟨received, replies, notices, lost, nofun, fun _ => some, lengths⟩
  · exact ⟨received, replies, notices, lost, nofun, nofun, lengths⟩
  · exact inv

/-! ### The receiver and the interpreter -/

theorem runCommand (room : s.link.replies.length < 4) (i : Instr) : LinkInv (runCommand i s) := by
  cases host : i.isHostCommand
  · rwa [runCommand_event host]
  · exact inv.replied room (replied_runCommand host s)

theorem interpret (room : s.link.replies.length < 4) (payload : List Byte) : LinkInv (interpret payload s) := by
  have h : Noticed s.link s.link := .refl _
  unfold Machine.interpret badLengthReply
  (repeat' split)
  · exact inv.runCommand room _
  · exact inv.replied room (h.motionReply (kept := True))
  · exact inv.replied room (h.refuse (kept := True))

theorem takeNext : LinkInv (takeNext s) := by
  unfold Machine.takeNext
  (repeat' split)
  · exact inv
  · next payload rest waiting ready =>
    obtain ⟨received, replies, notices, lost, reply, notice, lengths⟩ := inv
    rw [waiting] at received lengths
    have taken : LinkInv { s with link := { s.link with received := rest } } :=
      ⟨(Nat.le_succ _).trans received, replies, notices, lost, reply, notice, fun p hp => lengths p (List.mem_cons_of_mem _ hp)⟩
    rw [readyToTake, Bool.and_eq_true, decide_eq_true_eq] at ready
    exact taken.interpret ready.1 payload
  · exact inv

theorem frameArrives {payload : List Byte} (low : 2 ≤ payload.length) (high : payload.length ≤ 220) :
    LinkInv (frameArrives payload s) := by
  have joined : LinkInv (joinReceived payload s) := by
    unfold joinReceived
    split
    · next room =>
      obtain ⟨-, replies, notices, lost, reply, notice, lengths⟩ := inv
      have all : ∀ p ∈ s.link.received ++ [payload], 2 ≤ p.length ∧ p.length ≤ 220 :=
        List.forall_mem_append.mpr ⟨lengths, List.forall_mem_singleton.mpr ⟨low, high⟩⟩
      refine ⟨?_, replies, notices, lost, reply, notice, all⟩
      simp only [List.length_append, List.length_singleton]
      exact room
    · exact inv
  exact joined.takeNext.pump

theorem receiveByte {b : Byte} : LinkInv (receiveByte s b) := by
  have noted (x : Receiver) : LinkInv { s with link := { s.link with receiver := x } } := inv
  unfold Machine.receiveByte
  dsimp only
  split
  · next payload complete =>
    obtain ⟨low, high⟩ := length_of_linkByte (Prod.ext rfl complete : linkByte s.link.receiver b = (_, some payload))
    exact (noted _).frameArrives low high
  · exact inv

/-! ### The transmitter and the resets -/

theorem transmitDone : LinkInv (transmitDone s) := by
  obtain ⟨received, replies, notices, lost, -, -, lengths⟩ := id inv
  unfold Machine.transmitDone replySent
  split
  · exact inv
  · refine takeNext ⟨received, ?_, notices, lost, nofun, nofun, lengths⟩
    exact (List.tail_sublist _).length_le.trans replies
  · exact ⟨received, replies, (List.tail_sublist _).length_le.trans notices, lost, nofun, nofun, lengths⟩
  · exact ⟨received, replies, notices, lost, nofun, nofun, lengths⟩

omit inv in
theorem fullReset (cause : StartCause) (rate : LinkRate) : LinkInv (fullReset cause rate s) :=
  ⟨Nat.zero_le _, Nat.zero_le _, Nat.le_add_left 1 31, Nat.zero_le _, nofun, nofun, nofun⟩

omit inv in
theorem heldInReset : LinkInv (heldInReset s) :=
  ⟨Nat.zero_le _, Nat.zero_le _, Nat.zero_le _, Nat.zero_le _, nofun, nofun, nofun⟩

theorem restartReset (rate : LinkRate) : LinkInv (restartReset rate s) := by
  unfold Machine.restartReset
  (repeat' split)
  · exact fullReset _ _
  · exact fullReset _ _
  · exact inv
  · exact inv

/-! ### Steps -/

/-- An event of the engine. -/
theorem live {f : State → State} (hf : LinkInv (f s)) (e : live f s = .next t) : LinkInv t := by
  unfold Machine.live at e
  split at e <;> cases e
  · exact inv
  · exact hf.pump

/-- An event that raises notices. -/
theorem liveNoticed {f : State → State} (hf : Noticed s.link (f s).link) (e : Machine.live f s = .next t) : LinkInv t :=
  inv.live (inv.noticed hf) e

/-- A host command, taken at once or put into the receive queue (log 5). -/
theorem submit {i : Instr} {run : State → State} (host : i.isHostCommand = true)
    (hrun : s.link.replies.length < 4 → LinkInv (run s)) (e : submit i run s = .next t) : LinkInv t := by
  unfold Machine.submit canTake readyToTake at e
  split_ifs at e with refused taken <;> cases e
  · exact inv
  · simp only [Bool.and_eq_true, decide_eq_true_eq] at taken
    exact (hrun taken.2.1).pump
  · simp only [Bool.or_eq_true, decide_eq_true_eq, not_or, not_lt] at refused
    exact inv.frameArrives (two_le_payload host) refused.2

theorem submitCommand {i : Instr} (host : i.isHostCommand = true) (e : Machine.submit i (Machine.runCommand i) s = .next t) :
    LinkInv t := inv.submit host (fun room => inv.runCommand room i) e

/-- Every row of the table. -/
theorem exec {i : Instr} (e : exec i s = .next t) : LinkInv t := by
  have h : Noticed s.link s.link := .refl _
  cases i
  case unknownCommand => exact inv.submit rfl (fun room => inv.interpret room _) e
  case linkFrame bytes =>
    simp only [Machine.exec, execLinkFrame] at e
    split_ifs at e <;> cases e
    · exact inv
    · exact Closed.foldl (P := LinkInv) (fun hs => hs.receiveByte) bytes inv
  case byteGapTimeout => exact inv.live inv e
  case lineBreak => exact inv.live inv e
  case transmitDone => exact inv.live inv.transmitDone e
  case controllerReport port bytes =>
    exact inv.liveNoticed (f := fun s => bytes.foldl (receivePortByte port) s)
      (Closed.foldl (P := fun u => Noticed s.link u.link) (fun hu => hu.receivePortByte) bytes h) e
  case portByteGapTimeout => exact inv.liveNoticed h e
  case reportTimeout => exact inv.liveNoticed h.reportTimeout e
  case releaseTimerExpiry => exact inv.liveNoticed h.releaseExpiry e
  case loadIdleTimeout => exact inv.liveNoticed h.loadIdleExpiry e
  case internalTimerExpiry => exact inv.liveNoticed h.internalExpiry e
  case scrollFrame => exact inv.liveNoticed h.takeFrame e
  case frameStart => exact inv.liveNoticed h.frameStart e
  case syncLossExpiry => exact inv.liveNoticed h.syncLoss e
  case renderComplete => exact inv.liveNoticed h.renderComplete e
  case pulseEnd line => exact inv.liveNoticed (f := fun s => s.modLine line CueLine.pulseEnd) h e
  case reflowComplete => exact inv.liveNoticed h.reflowComplete e
  case powerUp =>
    simp only [Machine.exec, execPowerUp] at e
    split_ifs at e <;> cases e
    · exact inv
    · exact fullReset _ _
  case resetPinAssert =>
    cases e
    exact heldInReset
  case resetPinRelease =>
    cases e
    exact fullReset _ _
  case restartReset => exact inv.live (inv.restartReset _) e
  all_goals exact inv.submitCommand rfl e

end LinkInv

/-- Settles O12: a command takes its place among the replies only where there is room, and all else raises notices. -/
theorem everyStepKeepsTheLinkQueues : Obligations.EveryStepKeepsTheLinkQueues := by
  intro s t inv e
  have h : Noticed s.link s.link := .refl _
  unfold step at e
  split at e
  · cases e
    unfold tick
    (repeat' split)
    · exact inv
    · exact (inv.noticed h.takeFrame).pump
    · exact (inv.noticed h.tickMs).pump
  · next rest _ => exact LinkInv.exec (s := { s with pending := rest }) inv e

end Sys2Proof.Machine
end

section
/-! The command link's own work (R158 to R169): a frame that arrives, a frame that has been sent, the resets, and the commands that the
link answers itself. -/

namespace Sys2Proof.Machine

/-! ### Notices -/

/-- Settles O5: by the room in the queue. -/
theorem raisedNoticeJoinsOrIsCounted : Obligations.RaisedNoticeJoinsOrIsCounted := by
  intro n s
  obtain ⟨room, raised⟩ | ⟨full, raised⟩ := raise_eq n s <;> rw [raised]
  · rw [if_pos room]
  · rw [if_neg (by omega)]
    have count : min (s.link.lost + 1) 255 = if s.link.lost < 255 then s.link.lost + 1 else 255 := by split <;> omega
    rw [count]

/-! ### Host commands -/

theorem length_le_of_framing {i : Instr} (framed : Laws.Framing.Statement i) (wf : i.wf = true) : (payloadOf i).length ≤ 220 := by
  obtain none | ⟨-, high⟩ := framed wf
  · simp [none]
  · exact high

/-- A well-formed command's payload is one that a frame can carry (R158). -/
theorem payload_le {i : Instr} (wf : i.wf = true) : (payloadOf i).length ≤ 220 := by
  cases i
  case unknownCommand => exact length_le_of_framing (Laws.Framing.unknownCommand _ _ _) wf
  case loadOpen => exact length_le_of_framing (Laws.Framing.loadOpen _ _ _ _ _ _ _ _ _ _) wf
  case loadLine => exact length_le_of_framing (Laws.Framing.loadLine _ _ _) wf
  case loadLast => exact length_le_of_framing (Laws.Framing.loadLast _ _ _) wf
  case cueDefine => exact length_le_of_framing (Laws.Framing.cueDefine _ _ _) wf
  all_goals exact Nat.le_of_ble_eq_true rfl

/-- A host command's row stands for the arrival of its frame (log 5), and carries out the command where it is well formed; an unknown
code is found by the interpreter (R161). -/
theorem exec_host {i : Instr} (host : i.isHostCommand = true) (s : State) :
    ∃ run, exec i s = submit i run s ∧ (i.wf = true → run = runCommand i) := by
  cases i
  case unknownCommand => exact ⟨_, rfl, fun wf => funext (interpret_payloadOf wf host)⟩
  any_goals cases host
  all_goals exact ⟨_, rfl, fun _ => rfl⟩

theorem exec_command {i : Instr} (wf : i.wf = true) (host : i.isHostCommand = true) (s : State) :
    exec i s = submit i (runCommand i) s := by
  obtain ⟨run, row, same⟩ := exec_host host s
  rw [row, same wf]

/-- A well-formed command that is taken at once (R161). -/
theorem exec_ready {i : Instr} {s : State} (wf : i.wf = true) (host : i.isHostCommand = true) (ready : Ready s) :
    exec i s = .next (pump (runCommand i s)) := exec_taken ready (payload_le wf) (exec_command wf host s)

/-- Held in reset, the engine takes no command (R169). -/
theorem submit_held {s : State} (held : s.resetHeld = true) (i : Instr) (run : State → State) : submit i run s = .next s := by
  simp [submit, held]

/-! ### Waiting commands -/

/-- While the interpreter can take none, the waiting commands wait on (R161). -/
theorem takeNext_of_not_ready {s : State} (busy : readyToTake s = false) : takeNext s = s := by
  unfold takeNext
  split
  · rfl
  · simp [busy]

/-- The oldest waiting command is taken (R161). -/
theorem takeNext_of_ready {s : State} {payload : List Byte} {rest : List (List Byte)} (waiting : s.link.received = payload :: rest)
    (ready : readyToTake s = true) : takeNext s = interpret payload { s with link := { s.link with received := rest } } := by
  simp [takeNext, waiting, ready]

theorem readyToTake_iff {s : State} : readyToTake s = true ↔ s.link.replies.length < 4 ∧ s.link.restart = .none := by
  rw [readyToTake, Bool.and_eq_true, decide_eq_true_eq, decide_eq_true_eq]
  rfl

/-- A frame that can be taken as it arrives is interpreted, and an idle transmitter chooses (R160, R161). -/
theorem frameArrives_of_ready {s : State} (ready : Ready s) (payload : List Byte) :
    frameArrives payload s = pump (interpret payload s) := by
  obtain ⟨-, none, room, restart⟩ := ready
  have joined : joinReceived payload s = { s with link := { s.link with received := [payload] } } := by
    simp [joinReceived, none, Config.queueSize]
  have same : { s with link := { s.link with received := [] } } = s := by rw [← none]
  have taken := takeNext_of_ready (s := { s with link := { s.link with received := [payload] } }) rfl
    (readyToTake_iff.mpr ⟨room, restart⟩)
  rw [frameArrives, joined, taken]
  exact congrArg (fun t => pump (interpret payload t)) same

/-- Settles O7: the frame joins the receive queue, where there is room, and is not taken. -/
theorem commandThatCannotBeTakenWaits : Obligations.CommandThatCannotBeTakenWaits := by
  intro i s running host
  refine ⟨fun long => ?_, fun wf busy => ?_⟩
  · obtain ⟨run, row, -⟩ := exec_host host s
    rw [row]
    simp [submit, Config.maxPayload, long]
  · have closed : readyToTake s = false := by
      rw [Bool.eq_false_iff, Ne, readyToTake_iff]
      rintro ⟨room, none⟩
      exact busy.elim (fun full => absurd full (by omega)) (fun taken => taken none)
    have arrives : exec i s = .next (frameArrives (payloadOf i) s) := by
      have short : ¬ Config.maxPayload < (payloadOf i).length := Nat.not_lt.mpr (payload_le wf)
      rw [exec_command wf host]
      simp [submit, running, short, canTake, closed]
    have stays : readyToTake (joinReceived (payloadOf i) s) = false := by
      unfold joinReceived
      split <;> exact closed
    rw [arrives, frameArrives, takeNext_of_not_ready stays]
    rfl

/-! ### The transmitter -/

/-- What an idle transmitter sends next: a reply, else a notice, else the report (R165). -/
theorem pump_sends {s : State} (idle : s.link.sending = none) (restart : s.link.restart ≠ .due) :
    if s.link.replies ≠ [] then (pump s).link.sending = some .reply ∧ (pump s).link.slot = s.link.slot
    else if s.link.notices ≠ [] then (pump s).link.sending = some .notice ∧ (pump s).link.slot = s.link.slot
    else match s.link.slot with
      | some r => (pump s).link.sending = some (.report r) ∧ (pump s).link.slot = none
      | none => (pump s).link.sending = none ∧ (pump s).link.slot = none := by
  obtain ⟨busy, -⟩ | ⟨-, due, -⟩ | ⟨-, -, reply, h⟩ | ⟨-, -, none, notice, h⟩ | ⟨-, -, none, quiet, ⟨r, slot, h⟩ | ⟨slot, h⟩⟩ :=
    pump_eq s
  · exact absurd idle busy
  · exact absurd due restart
  · rw [if_pos reply, h]
    exact ⟨rfl, rfl⟩
  · rw [if_neg (not_not.mpr none), if_pos notice, h]
    exact ⟨rfl, rfl⟩
  · rw [if_neg (not_not.mpr none), if_neg (not_not.mpr quiet), h, slot]
    exact ⟨rfl, rfl⟩
  · rw [if_neg (not_not.mpr none), if_neg (not_not.mpr quiet), h, slot]
    exact ⟨idle, rfl⟩

/-- The frame that has been sent leaves its queue, where no command waits and no RESTART was taken (R162, R163, R165). -/
theorem transmitDone_eq {s : State} (waiting : s.link.received = []) (restart : s.link.restart = .none) :
    transmitDone s =
      { s with link :=
          { s.link with
            replies := if s.link.sending = some .reply then s.link.replies.tail else s.link.replies
            notices := if s.link.sending = some .notice then s.link.notices.tail else s.link.notices
            sending := none } } := by
  unfold transmitDone replySent
  split
  · next idle =>
    simp only [idle, reduceCtorEq, if_false]
    rw [← idle]
  · next sending => simp [takeNext, waiting, restart, sending]
  · next sending => simp [sending]
  · next sending => simp [sending]

/-- The reply to a RESTART has been sent: the full reset is due (R169). -/
theorem transmitDone_of_restart {s : State} {r : Reply} (sending : s.link.sending = some .reply)
    (restart : s.link.restart = .replying) (last : s.link.replies = [r]) :
    transmitDone s = { s with link := { s.link with replies := [], sending := none, restart := .due } } := by
  simp only [transmitDone, sending, replySent, last, restart, List.tail_cons, and_self, if_true]
  exact takeNext_of_not_ready (by simp [readyToTake])

/-- A reply has been sent and makes room for the oldest waiting command (R160, R161). -/
theorem transmitDone_of_waiting {s : State} {r : Reply} {replies : List Reply} {payload : List Byte} {waiting : List (List Byte)}
    (sending : s.link.sending = some .reply) (restart : s.link.restart = .none) (sent : s.link.replies = r :: replies)
    (room : replies.length < 4) (received : s.link.received = payload :: waiting) :
    transmitDone s =
      interpret payload { s with link := { s.link with replies := replies, sending := none, received := waiting } } := by
  have taken := takeNext_of_ready (s := { s with link := { s.link with replies := replies, sending := none } }) received
    (readyToTake_iff.mpr ⟨room, restart⟩)
  rw [← taken]
  simp only [transmitDone, sending, replySent, sent, restart, List.tail_cons, reduceCtorEq, false_and, if_false]

/-- Settles O6: the three ways that a frame's end goes, and a command that is taken at once. -/
theorem transmitDoneSendsTheNextInOrder : Obligations.TransmitDoneSendsTheNextInOrder := by
  have event {s : State} (running : s.resetHeld = false) : exec .transmitDone s = .next (pump (transmitDone s)) :=
    live_running transmitDone s running
  refine ⟨fun s running waiting restart _ => ?_, fun s r running sending restart last => ?_,
    fun i s r replies waiting host wf running sending restart sent room received => ?_,
    fun i s host wf ready => exec_ready wf host ready⟩
  · have idle : (transmitDone s).link.sending = none := by rw [transmitDone_eq waiting restart]
    have open_ : (transmitDone s).link.restart ≠ .due := by
      rw [transmitDone_eq waiting restart]
      simp [restart]
    have next := pump_sends idle open_
    refine ⟨_, event running, ?_⟩
    rw [transmitDone_eq waiting restart] at next ⊢
    simp only [pump_link_replies, pump_link_notices, pump_link_receiver, pump_link_received, pump_link_lost, pump_link_restart,
      pump_link_interval, pump_link_frameCount, pump_link_reportNumber, pump_pending, pump_store, pump_edit, pump_layout,
      pump_scroll, pump_hub, pump_cues, pump_heads, pump_job]
    exact ⟨trivial, trivial, next, ⟨trivial, trivial, trivial, trivial, trivial, trivial, trivial, trivial, trivial⟩,
      trivial, waiting, trivial, restart, trivial, trivial, trivial⟩
  · rw [event running, transmitDone_of_restart sending restart last]
    simp [pump]
  · rw [event running, transmitDone_of_waiting sending restart sent room received, interpret_payloadOf wf host]

/-! ### Frames that arrive -/

/-- The last byte of a frame that is whole hands its payload on (R159). -/
theorem linkByte_good_check {len : Byte} {payload : List Byte} (good : ¬ (len.toNat < 2 ∨ 220 < len.toNat))
    (whole : payload.length = len.toNat) :
    linkByte (.inFrame (len :: payload) 0) (-(len + payload.sum)) = (.hunting, some payload) := by
  have sum : (len :: payload ++ [-(len + payload.sum)]).sum = 0 := by simp [← add_assoc]
  refine (if_neg good).trans ((if_pos ?_).trans (by rw [if_pos sum]; simp))
  simp [lenOf, whole]

/-- The bytes of a frame, received by a HUNTING receiver, are that frame (R158, R159). -/
theorem exec_frame {s : State} (running : s.resetHeld = false) (hunting : s.link.receiver = .hunting) {payload : List Byte}
    (low : 2 ≤ payload.length) (high : payload.length ≤ 220) :
    exec (.linkFrame (frameBytes payload)) s = .next (frameArrives payload s) := by
  have len := toNat_byte_of_length (n := payload.length) (by omega)
  have good : ¬ ((BitVec.ofNat 8 payload.length : Byte).toNat < 2 ∨ 220 < (BitVec.ofNat 8 payload.length : Byte).toNat) := by
    omega
  have announced : linkByte (.inFrame [] 0) (BitVec.ofNat 8 payload.length) = (.inFrame [BitVec.ofNat 8 payload.length] 0, none) :=
    (if_neg good).trans (if_neg (by simp [lenOf]))
  have bytes : (frameBytes payload).foldl receiveByte (linkReceiver .hunting s) = frameArrives payload (linkReceiver .hunting s) := by
    rw [frameBytes, List.cons_append, List.cons_append, List.foldl_cons, receiveByte_start, List.foldl_cons,
      receiveByte_of_none s announced, List.foldl_append, receive_payload s good payload [] (by simp [len]), List.nil_append,
      List.foldl_cons, List.foldl_nil, receiveByte]
    have receiver (x : Receiver) : (linkReceiver x s).link.receiver = x := rfl
    rw [receiver, linkByte_good_check good len.symm]
    rfl
  rw [linkReceiver_self hunting] at bytes
  exact (if_neg (by simp [running])).trans (congrArg Host.Outcome.next bytes)

/-- Settles O10: the frame's payload is interpreted as the row's command, which is answered once. -/
theorem frameOfACommandIsThatCommand : Obligations.FrameOfACommandIsThatCommand := by
  intro i s wf host ready hunting
  obtain ⟨r, ⟨named, bounded⟩, replies⟩ := (replied_runCommand host s).replies
  refine ⟨_, r, ?_, exec_ready wf host ready, (pump_link_replies _).trans replies, fun code seq fields payload => ?_,
    fun slugs actions => bounded ⟨slugs, actions⟩⟩
  · rw [exec_frame ready.1 hunting (two_le_payload host) (payload_le wf), frameArrives_of_ready ready, interpret_payloadOf wf host]
  · obtain ⟨known, seq⟩ := named code seq fields payload
    exact ⟨known wf, seq⟩

/-! ### Resets -/

/-- Settles O4: each full reset's state is given whole, and begins with its STARTED notice being sent. -/
theorem fullResetsCompleteWithTheirCause : Obligations.FullResetsCompleteWithTheirCause := by
  intro rate s
  refine ⟨fun running => if_neg (by simp [running]), rfl, fun running asked => ?_, ⟨heldInReset s, rfl, rfl, ?_, rfl, ?_⟩,
    fun i held other release => ?_⟩
  · have reset : restartReset rate s = fullReset .command rate s := by
      unfold restartReset
      rcases asked with due | ⟨replying, last⟩
      · rw [due]
      · rw [replying]
        exact if_pos last
    refine (live_running (restartReset rate) s running).trans ?_
    rw [reset, pump_busy (by simp [fullReset, State.reset])]
    rfl
  · simp [linkReady, heldInReset]
  · exact ⟨rfl, rfl, rfl, rfl, rfl, rfl, rfl, rfl, rfl, rfl, rfl⟩
  · cases i
    case linkFrame => exact if_pos held
    case powerUp => exact if_pos held
    case resetPinAssert => exact absurd rfl other
    case resetPinRelease straps => exact absurd rfl (release straps)
    case controllerReport port bytes => exact live_held (fun s => bytes.foldl (receivePortByte port) s) s held
    case pulseEnd line => exact live_held (fun s => s.modLine line CueLine.pulseEnd) s held
    any_goals exact live_held _ _ held
    all_goals exact submit_held held _ _

/-! ### Device commands -/

/-- Settles O13: the reply's payload is evaluated byte by byte. -/
theorem identifyAnswers : Obligations.IdentifyAnswers := fun _ _ ready =>
  ⟨exec_answer 0x01 ready (Nat.le_of_ble_eq_true rfl) rfl rfl rfl rfl, rfl⟩

/-- A reply joins the queue and, where the transmitter is idle, is begun (R162, R165). -/
theorem pump_of_replies {s : State} (waiting : s.link.replies ≠ []) (restart : s.link.restart ≠ .due) :
    pump s = { s with link := { s.link with sending := some (s.link.sending.getD .reply) } } := by
  cases sending : s.link.sending with
  | none => simp [pump, sending, restart, waiting]
  | some x => rw [pump_busy (by simp [sending]), Option.getD_some, ← sending]

/-- Settles O14: the reply is built from the state that the command finds. -/
theorem statusAnswersAndClearsTheLostCount : Obligations.StatusAnswersAndClearsTheLostCount := by
  intro seq s ready
  have heads : updAll s.heads Head.state =
      #v[(s.heads[0]).state, (s.heads[1]).state, (s.heads[2]).state, (s.heads[3]).state] := by
    ext i hi
    have := updAll_get s.heads Head.state ⟨i, hi⟩
    interval_cases i <;> exact this
  refine (exec_taken ready (Nat.le_of_ble_eq_true rfl) rfl).trans ?_
  have replied : (cmdStatus seq s).link.replies ≠ [] := by simp [cmdStatus]
  have open_ : (cmdStatus seq s).link.restart ≠ .due := by simp [cmdStatus, ready.2.2.2]
  rw [runCommand, pump_of_replies replied open_, ← heads]
  rfl

end Sys2Proof.Machine
end

section
/-! RESTART, unknown codes, bad lengths and SET_REPORTING (R161, R164, R169, R170). -/

namespace Sys2Proof.Machine

theorem fieldAt_one {bytes : List Byte} {i : Nat} {b : Byte} (h : bytes[i]? = some b) : fieldAt bytes i 1 = b.toNat := by
  obtain ⟨bound, rfl⟩ := List.getElem?_eq_some_iff.mp h
  rw [fieldAt, List.drop_eq_getElem_cons bound]
  rfl

theorem length_of_parseActions {bytes : List Byte} {actions : List ActionField} (parsed : parseActions bytes = some actions) :
    bytes.length = 4 * actions.length := by
  fun_induction parseActions bytes generalizing actions with
  | case1 => simp_all
  | case2 k l v0 v1 rest ih =>
    obtain ⟨tail, same, rfl⟩ := Option.map_eq_some_iff.mp parsed
    have := ih same
    simp only [List.length_cons]
    omega
  | case3 => cases parsed

theorem length_of_parseAppearance {bytes : List Byte} {f : AppearanceFields} (parsed : parseAppearance bytes = some f) :
    bytes.length = 22 := by
  unfold parseAppearance at parsed
  split at parsed
  · rfl
  · cases parsed

/-- What a known code's fields spell has the length that R170 gives the code. -/
theorem fieldsFit_of_parseFields {code seq : Byte} {fields : List Byte} {i : Instr} (known : code ∈ commandCodes)
    (parsed : parseFields code seq fields = some i) : fieldsFit code fields := by
  unfold parseFields at parsed
  split at parsed
  case h_36 =>
    simp_all [commandCodes, ← BitVec.toNat_inj]
  case h_11 code_eq =>
    simp only [fieldsFit, ← BitVec.toNat_inj, code_eq]
    split at parsed
    · next tag e0 e1 mode s0 s1 n0 n1 kind i0 i1 force len slug =>
      split at parsed
      · next fits =>
        have count : fieldAt (tag :: e0 :: e1 :: mode :: s0 :: s1 :: n0 :: n1 :: kind :: i0 :: i1 :: force :: len :: slug) 12 1
            = len.toNat := fieldAt_one rfl
        simp [count, fits]
      · cases parsed
    · cases parsed
  case h_26 code_eq =>
    simp only [fieldsFit, ← BitVec.toNat_inj, code_eq]
    split at parsed
    · next cue count actions =>
      split at parsed
      · next list whole =>
        split at parsed
        · next counted =>
          have field : fieldAt (cue :: count :: actions) 1 1 = count.toNat := fieldAt_one rfl
          simp [field, counted, length_of_parseActions whole]
        · cases parsed
      · cases parsed
    · cases parsed
  case h_34 code_eq =>
    simp only [fieldsFit, ← BitVec.toNat_inj, code_eq]
    split at parsed
    · next head fields =>
      obtain ⟨f, whole, -⟩ := Option.map_eq_some_iff.mp parsed
      simp [length_of_parseAppearance whole]
    · cases parsed
  all_goals
    next code_eq =>
      simp only [fieldsFit, ← BitVec.toNat_inj, code_eq]
      split at parsed
      · simp_all
      · cases parsed
/-- Known fields of a length that R170 does not allow their code are answered so (R161). -/
theorem interpret_of_not_fieldsFit {code seq : Byte} {fields : List Byte} (known : code ∈ commandCodes)
    (bad : ¬ fieldsFit code fields) (s : State) : interpret (code :: seq :: fields) s = badLengthReply code seq s := by
  have none : parseFields code seq fields = none :=
    Option.eq_none_iff_forall_ne_some.mpr fun i parsed => bad (fieldsFit_of_parseFields known parsed)
  simp only [interpret, parsePayload, none]

/-- BAD_LENGTH, with the motion where the code is a scroll command's (R161, log 40). -/
theorem pump_badLengthReply {s : State} (restart : s.link.restart ≠ .due) (code seq : Byte) :
    pump (badLengthReply code seq s) =
      answered
        (if 0x20 ≤ code.toNat ∧ code.toNat ≤ 0x23 then motionAnswer (code + 0x40) seq (.reason .badLength) s
          else reasonReply (code + 0x40) seq .badLength) s := by
  unfold badLengthReply
  by_cases scroll : 0x20 ≤ code.toNat ∧ code.toNat ≤ 0x23
  · rw [if_pos (by simpa [inRange] using scroll), if_pos scroll]
    exact pump_reply code seq (.reason .badLength) _ s restart
  · rw [if_neg (by simpa [inRange] using scroll), if_neg scroll]
    exact pump_refuse code seq .badLength s restart

/-- Settles O15: a reply each, to a command that is taken at once. -/
theorem linkCommandsAnswer : Obligations.LinkCommandsAnswer := by
  intro seq s ready
  have open_ : s.link.restart ≠ .due := by simp [ready.2.2.2]
  refine ⟨?_, fun code rest unknown short => ?_, fun code fields hunting known short bad => ?_, fun n => ?_⟩
  · refine (exec_taken ready (Nat.le_of_ble_eq_true rfl) rfl).trans ?_
    have replied : (cmdRestart seq s).link.replies ≠ [] := by simp [cmdRestart, reply, answer]
    have replying : (cmdRestart seq s).link.restart ≠ .due := by simp [cmdRestart]
    rw [runCommand, pump_of_replies replied replying]
    rfl
  · have wf : (Instr.unknownCommand code seq rest).wf = true := by simp [Instr.wf, unknown, short]
    rw [exec_ready wf rfl ready]
    exact congrArg Host.Outcome.next (pump_refuse 0x3F seq .unknownCommand s open_)
  · rw [exec_frame ready.1 hunting (by simp) (by simpa [Nat.add_assoc] using Nat.add_le_add_right short 2),
      frameArrives_of_ready ready, interpret_of_not_fieldsFit known bad, pump_badLengthReply open_]
  · exact exec_answer 0x0D ready (Nat.le_of_ble_eq_true rfl) rfl rfl rfl rfl

end Sys2Proof.Machine
end

section
/-! The layouts of the frames that the engine sends (R158, R162 to R164, R170, R171). -/

namespace Sys2Proof.Machine

/-! ### Fields of a payload -/

/-- Past its first byte, a payload's fields are the rest's. -/
@[simp] theorem fieldAt_cons_succ (b : Byte) (bytes : List Byte) (i n : Nat) :
    fieldAt (b :: bytes) (i + 1) n = fieldAt bytes i n := by
  rw [fieldAt, List.drop_succ_cons, fieldAt]

@[simp] theorem fieldAt_cons_zero_one (b : Byte) (bytes : List Byte) : fieldAt (b :: bytes) 0 1 = b.toNat := fieldAt_one rfl

/-- Past a block, a payload's fields are the rest's. -/
theorem fieldAt_append_right (front rest : List Byte) (i n : Nat) :
    fieldAt (front ++ rest) (front.length + i) n = fieldAt rest i n := by
  rw [fieldAt, List.drop_length_add_append, fieldAt]

@[simp] theorem fieldAt_append_of_le {front : List Byte} {i : Nat} (past : front.length ≤ i) (rest : List Byte) (n : Nat) :
    fieldAt (front ++ rest) i n = fieldAt rest (i - front.length) n := by
  obtain ⟨j, rfl⟩ := Nat.exists_eq_add_of_le past
  rw [fieldAt_append_right, Nat.add_sub_cancel_left]

/-- Within a block, a payload's fields are the block's. -/
theorem fieldAt_append_left {front : List Byte} {i n : Nat} (within : i + n ≤ front.length) (rest : List Byte) :
    fieldAt (front ++ rest) i n = fieldAt front i n := by
  rw [fieldAt, fieldAt, List.drop_append_of_le_length (by omega), List.take_append_of_le_length (by rw [List.length_drop]; omega)]

/-! ### Numbers -/

@[simp] theorem length_le (n x : Nat) : (le n x).length = n := by
  induction n generalizing x with
  | zero => rfl
  | succ n ih => simp [le, ih]

@[simp] theorem length_leSigned (n : Nat) (x : Int) : (leSigned n x).length = n := length_le n _

/-- A field holds the number, as far as its bytes can (R170). -/
@[simp] theorem fieldAt_le (n x : Nat) : fieldAt (le n x) 0 n = x % 256 ^ n := by
  induction n generalizing x with
  | zero => simp [fieldAt, Nat.mod_one]
  | succ n ih =>
    calc fieldAt (le (n + 1) x) 0 (n + 1)
      _ = (BitVec.ofNat 8 x : Byte).toNat + 256 * fieldAt (le n (x / 256)) 0 n := rfl
      _ = x % 2 ^ 8 + 256 * (x / 256 % 256 ^ n) := by rw [ih, BitVec.toNat_ofNat]
      _ = x % (256 * 256 ^ n) := Nat.mod_mul.symm
      _ = x % 256 ^ (n + 1) := by rw [pow_succ' 256 n]

@[simp] theorem fieldAt_le_append (n x : Nat) (rest : List Byte) : fieldAt (le n x ++ rest) 0 n = x % 256 ^ n := by
  rw [fieldAt_append_left (by simp), fieldAt_le]

@[simp] theorem fieldAt_leSigned (n : Nat) (x : Int) : fieldAt (leSigned n x) 0 n = (x % (256 ^ n : Nat)).toNat := by
  rw [leSigned, fieldAt_le, Nat.mod_eq_of_lt]
  have := Int.emod_lt_of_pos x (show (0 : Int) < (256 ^ n : Nat) by positivity)
  omega

@[simp] theorem fieldAt_leSigned_append (n : Nat) (x : Int) (rest : List Byte) :
    fieldAt (leSigned n x ++ rest) 0 n = (x % (256 ^ n : Nat)).toNat := by
  rw [fieldAt_append_left (by simp), fieldAt_leSigned]

/-! ### Codes and flags -/

@[simp] theorem toNat_yesNo (b : Bool) : (yesNo b).toNat = if b = true then 1 else 0 := by cases b <;> rfl

theorem toNat_flagsByte (truncated badMark : Bool) :
    (flagsByte truncated badMark).toNat = (if truncated = true then 1 else 0) + (if badMark = true then 2 else 0) := by
  cases truncated <;> cases badMark <;> rfl

@[simp] theorem toNat_portByteOf (port : Option (Fin 6)) : (portByteOf port).toNat = portField port := by
  cases port with
  | none => rfl
  | some n => exact toNat_byte_of_length (by omega)

/-- The number of a head, a port or a cue line is one byte (R170). -/
@[simp] theorem val_lt_byte {k : Nat} (small : k ≤ 256) (n : Fin k) : n.val < 256 := by omega

@[simp] theorem length_bytes16 (x : Word16) : (bytes16 x).length = 2 := rfl

theorem fieldAt_two (b0 b1 : Byte) (rest : List Byte) : fieldAt (b0 :: b1 :: rest) 0 2 = b0.toNat + 256 * b1.toNat := by
  simp [fieldAt]

theorem bytes16_partCode : bytes16 Config.partCode = [0x18, 0x24] := by decide

@[simp] theorem length_scrollCause (cause : ScrollCause) : cause.code.length = 2 := by cases cause <;> rfl

/-! ### Shared blocks -/

@[simp] theorem length_anchorBytes (a : Option Anchor) : (anchorBytes a).length = 7 := by
  unfold anchorBytes
  repeat' split
  all_goals simp

/-- An anchor past a block lies in the rest. -/
@[simp] theorem anchorLaidOut_append_of_le {front : List Byte} {i : Nat} (past : front.length ≤ i) (rest : List Byte)
    (a : Option Anchor) : AnchorLaidOut (front ++ rest) i a ↔ AnchorLaidOut rest (i - front.length) a := by
  obtain ⟨j, rfl⟩ := Nat.exists_eq_add_of_le past
  have shifted (k n : Nat) : fieldAt (front ++ rest) (front.length + j + k) n = fieldAt rest (j + k) n := by
    rw [Nat.add_assoc, fieldAt_append_right]
  simp only [AnchorLaidOut, shifted, fieldAt_append_right, Nat.add_sub_cancel_left]

@[simp] theorem anchorLaidOut_cons_succ (b : Byte) (bytes : List Byte) (i : Nat) (a : Option Anchor) :
    AnchorLaidOut (b :: bytes) (i + 1) a ↔ AnchorLaidOut bytes i a := anchorLaidOut_append_of_le (front := [b]) (by simp) bytes a

/-- The seven bytes of an anchor, whatever follows them (R170, log 45). -/
theorem anchorLaidOut_anchorBytes (a : Option Anchor) (rest : List Byte) : AnchorLaidOut (anchorBytes a ++ rest) 0 a := by
  match a with
  | none => simp [AnchorLaidOut, anchorBytes]
  | some ⟨story, .line l char, fraction⟩ => simp [AnchorLaidOut, anchorBytes]
  | some ⟨story, .slug, fraction⟩ => simp [AnchorLaidOut, anchorBytes]
  | some ⟨story, .storyEnd, fraction⟩ => simp [AnchorLaidOut, anchorBytes]

@[simp] theorem length_appearanceBytes (a : Appearance) : (appearanceBytes a).length = 22 := by
  simp [appearanceBytes, bytesColour]

/-- An appearance record past a block lies in the rest. -/
@[simp] theorem appearanceLaidOut_append_of_le {front : List Byte} {i : Nat} (past : front.length ≤ i) (rest : List Byte)
    (a : Appearance) : AppearanceLaidOut (front ++ rest) i a ↔ AppearanceLaidOut rest (i - front.length) a := by
  obtain ⟨j, rfl⟩ := Nat.exists_eq_add_of_le past
  have shifted (k n : Nat) : fieldAt (front ++ rest) (front.length + j + k) n = fieldAt rest (j + k) n := by
    rw [Nat.add_assoc, fieldAt_append_right]
  simp only [AppearanceLaidOut, shifted, Nat.add_sub_cancel_left]

@[simp] theorem appearanceLaidOut_cons_succ (b : Byte) (bytes : List Byte) (i : Nat) (a : Appearance) :
    AppearanceLaidOut (b :: bytes) (i + 1) a ↔ AppearanceLaidOut bytes i a :=
  appearanceLaidOut_append_of_le (front := [b]) (by simp) bytes a

/-- The 22 bytes of an appearance record, whatever follows them (R170). -/
theorem appearanceLaidOut_appearanceBytes (a : Appearance) (rest : List Byte) :
    AppearanceLaidOut (appearanceBytes a ++ rest) 0 a := by
  have text (n : Fin 4) : n = 0 ∨ n = 1 ∨ n = 2 ∨ n = 3 := by omega
  refine ⟨toNat_yesNo _, toNat_yesNo _, fun n => ?_, ?_, toNat_yesNo _, ?_, toNat_yesNo _⟩
  · obtain rfl | rfl | rfl | rfl := text n <;> simp [appearanceBytes, bytesColour]
  all_goals simp [appearanceBytes, bytesColour]

/-- The record of size `c` at place `k` of a list of records, between what stands before it and after it. -/
theorem flatMap_record {α : Type} {f : α → List Byte} {c : Nat} {l : List α} (size : ∀ a ∈ l, (f a).length = c) {k : Nat}
    {a : α} (place : l[k]? = some a) : ∃ front back, l.flatMap f = front ++ (f a ++ back) ∧ front.length = c * k := by
  induction l generalizing k with
  | nil => cases place
  | cons x l ih =>
    cases k with
    | zero =>
      cases place
      exact ⟨[], l.flatMap f, rfl, rfl⟩
    | succ k =>
      obtain ⟨front, back, split, front_length⟩ := ih (fun y hy => size y (List.mem_cons_of_mem x hy)) place
      refine ⟨f x ++ front, back, by rw [List.flatMap_cons, split, List.append_assoc], ?_⟩
      rw [List.length_append, front_length, size x List.mem_cons_self, Nat.mul_succ, Nat.add_comm]

/-- Past a head of `h` bytes, the fields of the record of size `c` at place `k`. -/
theorem fieldAt_record {α : Type} {f : α → List Byte} {c : Nat} {l : List α} (size : ∀ a ∈ l, (f a).length = c) {k : Nat}
    {a : α} (place : l[k]? = some a) {head : List Byte} {h : Nat} (head_length : head.length = h) {j n : Nat} (within : j + n ≤ c)
    (rest : List Byte) : fieldAt (head ++ (l.flatMap f ++ rest)) (h + c * k + j) n = fieldAt (f a) j n := by
  obtain ⟨front, back, split, front_length⟩ := flatMap_record size place
  have inside : j + n ≤ (f a).length := by rwa [size a (List.mem_of_getElem? place)]
  rw [split, ← head_length, Nat.add_assoc, fieldAt_append_right, List.append_assoc, ← front_length, fieldAt_append_right,
    List.append_assoc, fieldAt_append_left inside]

theorem length_flatMap_records {α : Type} {f : α → List Byte} {c : Nat} {l : List α} (size : ∀ a ∈ l, (f a).length = c) :
    (l.flatMap f).length = c * l.length := by
  rw [List.length_flatMap, List.map_congr_left size, List.map_const', List.sum_replicate, smul_eq_mul, Nat.mul_comm]

/-! ### Notices and reports -/

theorem notice_payload_length_le (n : Notice) : n.payload.length ≤ 220 := by cases n <;> simp [Notice.payload]

theorem noticeLaidOut_payload (n : Notice) : NoticeLaidOut n := by
  cases n
  case started cause => exact ⟨rfl, rfl, rfl, rfl, rfl⟩
  case scrollState cause => cases cause <;> simp [NoticeLaidOut, Notice.payload, ScrollCause.code]
  case reflowDone ok columns generation rows =>
    have := generation.isLt
    cases ok <;> simp [NoticeLaidOut, Notice.payload, Reason.code, Nat.mod_eq_of_lt this]
  case authority holder previous cause => cases holder <;> simp [NoticeLaidOut, Notice.payload, kindCode]
  case markKey port p anchor =>
    have laidOut := anchorLaidOut_anchorBytes anchor []
    rw [List.append_nil] at laidOut
    simp [NoticeLaidOut, Notice.payload, portField, laidOut]
  all_goals simp [NoticeLaidOut, Notice.payload, portField]

theorem notice_seq_eq_zero (n : Notice) : fieldAt n.payload 1 1 = 0 := by cases n <;> rfl


/-! ### Replies -/

theorem toList_four {α : Type} (v : Vector α 4) : v.toList = [v[0], v[1], v[2], v[3]] := by
  refine List.ext_getElem (by simp) fun i low _ => ?_
  rw [Vector.length_toList] at low
  interval_cases i <;> simp

theorem toList_eight {α : Type} (v : Vector α 8) : v.toList = [v[0], v[1], v[2], v[3], v[4], v[5], v[6], v[7]] := by
  refine List.ext_getElem (by simp) fun i low _ => ?_
  rw [Vector.length_toList] at low
  interval_cases i <;> simp

/-- Bit `l` of a mask is line `l`'s. -/
theorem toNat_lineMask (p : CueLine → Bool) (lines : Vector CueLine 8) :
    (lineMask p lines).toNat = Nat.ofBits fun l : Fin 8 => p lines[l] := by
  have weight (b : Bool) (k : Nat) : (if b = true then 2 ^ k else 0) = 2 ^ k * b.toNat := by cases b <;> simp
  have small := Nat.ofBits_lt_two_pow fun l : Fin 8 => p lines[l]
  rw [lineMask, BitVec.toNat_ofNat]
  refine Eq.trans ?_ (Nat.mod_eq_of_lt small)
  have sum : (p lines[0]).toNat + (2 * (p lines[1]).toNat + (4 * (p lines[2]).toNat + (8 * (p lines[3]).toNat
      + (16 * (p lines[4]).toNat + (32 * (p lines[5]).toNat + (64 * (p lines[6]).toNat + 128 * (p lines[7]).toNat)))))) =
        Nat.ofBits fun l : Fin 8 => p lines[l] := by
    simp [Nat.ofBits_succ]
    omega
  congr 1
  simpa [toList_eight, weight] using sum

section
variable (code seq : Byte) (result : Result) (truncated badMark : Bool)

theorem replyLaidOut_status (f : StatusFields) : ReplyLaidOut ⟨code, seq, result, truncated, badMark, .status f⟩ := by
  simp [ReplyLaidOut, Reply.payload, ReplyBody.bytes, toList_four, Fin.forall_fin_succ]

theorem replyLaidOut_story (f : StoryFields) : ReplyLaidOut ⟨code, seq, result, truncated, badMark, .story f⟩ := by
  have edition := Nat.mod_eq_of_lt f.edition.isLt
  have revision := Nat.mod_eq_of_lt f.revision.isLt
  simp [ReplyLaidOut, Reply.payload, ReplyBody.bytes, edition, revision, List.drop_append, List.drop_eq_nil_of_le]
  omega

/-- The four bytes of an entry of a rundown reply (R18, R170). -/
def entryBytes (e : RundownEntry) : List Byte := le 2 e.id ++ [e.state.code] ++ le 1 e.pendingCount

/-- A rundown reply ends with its entries (R18). -/
theorem payload_rundown (edition : Word16) (n first : Nat) (entries : List RundownEntry) :
    ∃ head, (⟨code, seq, result, truncated, badMark, .rundown edition n first entries⟩ : Reply).payload =
      head ++ (entries.flatMap entryBytes ++ []) ∧ head.length = 9 :=
  ⟨[code, seq, result.code, flagsByte truncated badMark] ++ (le 2 edition.toNat ++ le 1 n ++ le 1 first ++ le 1 entries.length),
    by rw [List.append_nil]; rfl, rfl⟩

theorem replyLaidOut_rundown (edition : Word16) (n first : Nat) (entries : List RundownEntry) :
    ReplyLaidOut ⟨code, seq, result, truncated, badMark, .rundown edition n first entries⟩ := by
  have small := Nat.mod_eq_of_lt edition.isLt
  have size : ∀ e ∈ entries, (entryBytes e).length = 4 := fun e _ => by simp [entryBytes]
  obtain ⟨head, payload, head_length⟩ := payload_rundown code seq result truncated badMark edition n first entries
  have record {k : Nat} {e : RundownEntry} (place : entries[k]? = some e) {j m : Nat} (within : j + m ≤ 4) :
      fieldAt (head ++ (entries.flatMap entryBytes ++ [])) (9 + 4 * k + j) m = fieldAt (entryBytes e) j m :=
    fieldAt_record size place head_length within []
  refine ⟨?_, ?_, ?_, ?_, ?_, fun k e place => ⟨?_, ?_, ?_⟩⟩
  · rw [payload, List.append_nil, List.length_append, head_length, length_flatMap_records size]
  · simp [Reply.payload, ReplyBody.bytes, small]
  · simp [Reply.payload, ReplyBody.bytes]
  · simp [Reply.payload, ReplyBody.bytes]
  · simp [Reply.payload, ReplyBody.bytes]
  · rw [payload]
    exact (record place (j := 0) (by omega)).trans (by simp [entryBytes])
  · rw [payload, show 11 + 4 * k = 9 + 4 * k + 2 by omega]
    exact (record place (by omega)).trans (by simp [entryBytes])
  · rw [payload, show 12 + 4 * k = 9 + 4 * k + 3 by omega]
    exact (record place (by omega)).trans (by simp [entryBytes])

@[simp] theorem length_actionBytes (nonce index : Nat) (a : CueAction) : (actionBytes nonce index a).length = 4 := by
  cases a <;> rfl

/-- Four bytes that are an action's hold its fields (R117). -/
theorem actionLaidOut_of_fields {bytes : List Byte} {i : Nat} (nonce index : Nat) {a : CueAction}
    (fields : ∀ {j n : Nat}, j + n ≤ 4 → fieldAt bytes (i + j) n = fieldAt (actionBytes nonce index a) j n) :
    ActionLaidOut bytes i a := by
  have kind := fields (j := 0) (n := 1) (by omega)
  have line := fields (j := 1) (n := 1) (by omega)
  have value := fields (j := 2) (n := 2) (by omega)
  rw [Nat.add_zero] at kind
  cases a <;> simp [ActionLaidOut, kind, line, value, actionBytes]

/-- A CUE_READ reply holds its actions, then two counts (R117). -/
theorem payload_cue (nonce : Nat) (actions : List CueAction) (marks armed : Nat) :
    ∃ head, (⟨code, seq, result, truncated, badMark, .cue nonce actions marks armed⟩ : Reply).payload =
      head ++ (actions.zipIdx.flatMap (fun x => actionBytes nonce x.2 x.1) ++ (le 2 marks ++ le 2 armed)) ∧ head.length = 6 :=
  ⟨[code, seq, result.code, flagsByte truncated badMark] ++ ([yesNo !actions.isEmpty] ++ le 1 actions.length),
    by simp [Reply.payload, ReplyBody.bytes], rfl⟩

theorem replyLaidOut_cue (nonce : Nat) (actions : List CueAction) (marks armed : Nat) :
    ReplyLaidOut ⟨code, seq, result, truncated, badMark, .cue nonce actions marks armed⟩ := by
  have size : ∀ x ∈ actions.zipIdx, (actionBytes nonce x.2 x.1).length = 4 := fun x _ => length_actionBytes ..
  obtain ⟨head, payload, head_length⟩ := payload_cue code seq result truncated badMark nonce actions marks armed
  have whole : (head ++ actions.zipIdx.flatMap fun x => actionBytes nonce x.2 x.1).length = 6 + 4 * actions.length := by
    rw [List.length_append, head_length, length_flatMap_records size, List.length_zipIdx]
  refine ⟨?_, ?_, ?_, fun k a place => ?_, ?_, ?_⟩
  · rw [payload, ← List.append_assoc, List.length_append, whole]
    simp
    omega
  · cases actions <;> simp [Reply.payload, ReplyBody.bytes]
  · simp [Reply.payload, ReplyBody.bytes]
  · rw [payload]
    exact actionLaidOut_of_fields nonce k fun within =>
      fieldAt_record size (a := (a, k)) (by simp [List.getElem?_zipIdx, place]) head_length within _
  · rw [payload, ← List.append_assoc, ← whole]
    exact (fieldAt_append_right _ _ 0 2).trans (by simp)
  · rw [payload, ← List.append_assoc, show 8 + 4 * actions.length = 6 + 4 * actions.length + 2 by omega, ← whole]
    exact (fieldAt_append_right _ _ 2 2).trans (by simp)

theorem replyLaidOut_lines (f : Vector CueLine 8) : ReplyLaidOut ⟨code, seq, result, truncated, badMark, .lines f⟩ := by
  simp [ReplyLaidOut, Reply.payload, ReplyBody.bytes, toNat_lineMask, toList_eight, Fin.forall_fin_succ]

@[simp] theorem length_halfBytes (h : HalfFields) : (halfBytes h).length = 6 := by
  unfold halfBytes
  split <;> simp

/-- One half of a HEAD_READ reply (R144, R170). -/
theorem half_laidOut (h : HalfFields) (rest : List Byte) :
    fieldAt (halfBytes h ++ rest) 0 4 = (match h.block with
        | none => 0x80000000
        | some block => (block % 2 ^ 32).toNat)
      ∧ fieldAt (halfBytes h ++ rest) 4 1 = h.remaining % 256
      ∧ fieldAt (halfBytes h ++ rest) 5 1 = (match h.urgent with
        | none => 0
        | some urgent => if urgent = true then 1 else 2) := by
  obtain ⟨block, remaining, urgent⟩ := h
  have classes : (classCode urgent).toNat = (match urgent with
      | none => 0
      | some urgent => if urgent = true then 1 else 2) := by
    match urgent with
    | none => rfl
    | some true => rfl
    | some false => rfl
  cases block <;> simp [halfBytes, classes]

@[simp] theorem length_windowRowBytes (row : Int) : (windowRowBytes row).length = 2 := by
  unfold windowRowBytes
  split <;> simp

/-- A window row in its field's range (R170, log 15). -/
theorem windowRow_laidOut {row : Int} (low : -32768 ≤ row) (high : row ≤ 32767) (rest : List Byte) :
    fieldAt (windowRowBytes row ++ rest) 0 2 = (row % 65536).toNat := by
  simp [windowRowBytes, low, high]

/-- The appearance that waits, or zeros where none does (R144, R170). -/
def pendingBytes (pending : Option Appearance) : List Byte :=
  [yesNo pending.isSome] ++ match pending with
    | some a => appearanceBytes a
    | none => List.replicate 22 0

@[simp] theorem length_pendingBytes (pending : Option Appearance) : (pendingBytes pending).length = 23 := by
  cases pending <;> rfl

theorem fieldAt_replicate_zero {k n : Nat} (within : k < n) (rest : List Byte) : fieldAt (List.replicate n 0 ++ rest) k 1 = 0 :=
  fieldAt_one ((List.getElem?_append_left (by simpa)).trans (List.getElem?_replicate_of_lt within))

theorem pending_laidOut {front : List Byte} (front_length : front.length = 38) (pending : Option Appearance) (rest : List Byte) :
    match pending with
    | none => ∀ k < 23, fieldAt (front ++ (pendingBytes pending ++ rest)) (38 + k) 1 = 0
    | some a => fieldAt (front ++ (pendingBytes pending ++ rest)) 38 1 = 1
        ∧ AppearanceLaidOut (front ++ (pendingBytes pending ++ rest)) 39 a := by
  cases pending with
  | none =>
    intro k within
    rw [← front_length, fieldAt_append_right]
    exact fieldAt_replicate_zero within rest
  | some a => simp [front_length, pendingBytes, appearanceLaidOut_appearanceBytes]

theorem replyLaidOut_head (f : HeadFields) : ReplyLaidOut ⟨code, seq, result, truncated, badMark, .head f⟩ := by
  have payload : (⟨code, seq, result, truncated, badMark, .head f⟩ : Reply).payload =
      code :: seq :: result.code :: flagsByte truncated badMark :: geometryBytes f.geometry ++ le 1 f.geometry.pitch
        ++ le 1 f.geometry.windowRows ++ appearanceBytes f.appearance ++ (pendingBytes f.pendingAppearance
        ++ ([f.state.code, yesNo f.syncLost, yesNo f.degraded] ++ leSigned 4 f.bias ++ halfBytes f.halves[0]
        ++ halfBytes f.halves[1] ++ le 1 f.emptySlots ++ le 1 f.renderingSlots ++ le 1 f.validSlots
        ++ windowRowBytes f.window.topRow ++ windowRowBytes f.window.bottomRow ++ leSigned 2 f.window.readingRow)) := by
    simp only [Reply.payload, ReplyBody.bytes, pendingBytes, List.append_assoc, List.cons_append, List.nil_append]
      <;> rfl
  have pitch : f.geometry.pitch = 32 * f.geometry.scale + f.geometry.leading := rfl
  have rows : f.geometry.windowRows = f.geometry.height / (32 * f.geometry.scale + f.geometry.leading) := rfl
  have now := appearanceLaidOut_appearanceBytes f.appearance
  have pending := pending_laidOut (front := code :: seq :: result.code :: flagsByte truncated badMark :: geometryBytes f.geometry
    ++ le 1 f.geometry.pitch ++ le 1 f.geometry.windowRows ++ appearanceBytes f.appearance) (by simp [geometryBytes])
  refine ⟨?_, ?_, ?_, ?_, ?_, ?_, ?_, ?_, ?_, ?_, ?_, ?pending, ?_, ?_, ?_, ?_, ?halves, ?_, ?_, ?_, ?top, ?bottom, ?_⟩
  all_goals rw [payload]
  case pending => exact pending ..
  case halves =>
    have first := half_laidOut f.halves[0]
    have second := half_laidOut f.halves[1]
    rw [Fin.forall_fin_two]
    simp [geometryBytes, first, second] <;> exact ⟨⟨rfl, rfl⟩, rfl, rfl⟩
  case top =>
    intro low high
    simp [geometryBytes, windowRow_laidOut low high]
  case bottom =>
    intro low high
    simp [geometryBytes, windowRow_laidOut low high]
  all_goals simp [geometryBytes, pitch, rows, now]

theorem replyLaidOut_payload (body : ReplyBody) : ReplyLaidOut ⟨code, seq, result, truncated, badMark, body⟩ := by
  cases body
  case identify rate =>
    simp [ReplyLaidOut, capacities, Reply.payload, ReplyBody.bytes, bytes16_partCode, Config.partRevision, fieldAt_two]
  case status => exact replyLaidOut_status ..
  case story => exact replyLaidOut_story ..
  case rundown => exact replyLaidOut_rundown ..
  case position f =>
    have laidOut := anchorLaidOut_anchorBytes f.anchor
    simp [ReplyLaidOut, Reply.payload, ReplyBody.bytes, laidOut]
  case cue => exact replyLaidOut_cue ..
  case lines => exact replyLaidOut_lines ..
  case head => exact replyLaidOut_head ..
  all_goals simp [ReplyLaidOut, Reply.payload, ReplyBody.bytes]

end

theorem bounds_of_eq {n m : Nat} (same : n = m) (bounds : 4 ≤ m ∧ m ≤ 220) : 4 ≤ n ∧ n ≤ 220 := same ▸ bounds

/-- A reply fits its frame, by the length of its layout (R158, R162). -/
theorem reply_payload_length_of_bounded {r : Reply} (bounded : r.body.bounded) :
    4 ≤ r.payload.length ∧ r.payload.length ≤ 220 := by
  obtain ⟨code, seq, result, truncated, badMark, body⟩ := r
  have laidOut := replyLaidOut_payload code seq result truncated badMark body
  cases body
  case bare => exact bounds_of_eq laidOut (by decide)
  case story f =>
    have short : f.slug.length ≤ 24 := bounded
    exact bounds_of_eq laidOut.1 (by omega)
  case rundown edition n first entries =>
    have few : entries.length ≤ 48 := bounded
    exact bounds_of_eq laidOut.1 (by omega)
  case cue nonce actions marks armed =>
    have few : actions.length ≤ 4 := bounded
    exact bounds_of_eq laidOut.1 (by omega)
  all_goals exact bounds_of_eq laidOut.1 (by decide)

/-- Settles O8: the CHECK by its sum, and each layout field by field. -/
theorem framesPassTheirOwnCheck : Obligations.FramesPassTheirOwnCheck := by
  refine ⟨fun payload short => ?_, ?_, fun n => ⟨?_, ?_, ?_⟩, fun r => ?_, fun r => ?_⟩
  · refine ⟨-(BitVec.ofNat 8 payload.length + payload.sum), rfl, ?_, toNat_byte_of_length (by omega)⟩
    rw [add_neg_cancel]
    rfl
  · exact ⟨rfl, rfl, rfl, rfl, rfl, rfl, rfl, rfl, rfl, rfl, rfl, rfl, rfl, rfl, rfl⟩
  · exact notice_payload_length_le n
  · exact notice_seq_eq_zero n
  · exact noticeLaidOut_payload n
  · have laidOut := anchorLaidOut_anchorBytes r.anchor []
    rw [List.append_nil] at laidOut
    simp [Report.payload, laidOut]
  · exact ⟨rfl, rfl, rfl, toNat_flagsByte .., reply_payload_length_of_bounded, replyLaidOut_payload ..⟩

end Sys2Proof.Machine
end
